-- ==== Sys2Proof/Word.lean ====
section
/-! DEFINITION. The plain words of the part (bytes, ring addresses, carried values) and the fixed-size
record table every block keeps its records in. -/
namespace Sys2Proof

/-- One byte on the field ring. -/
abbrev Byte := BitVec 8
/-- A ring address (00_scope "Addresses and bytes": ring addresses are 16-bit). -/
abbrev Addr := BitVec 16
/-- A value carried by a management request or reply, four bytes (R181). -/
abbrev Word32 := BitVec 32

/-- A table of exactly `n` records: the list of its rows, with the proof of its length. -/
structure Table (n : Nat) (α : Type) where
  rows : List α
  size : rows.length = n
deriving DecidableEq, Repr

namespace Table

/-- The record at an index. -/
def get {n : Nat} {α : Type} (t : Table n α) (i : Fin n) : α := t.rows.get (i.cast t.size.symm)

/-- The table with one record replaced. -/
def set {n : Nat} {α : Type} (t : Table n α) (i : Fin n) (a : α) : Table n α :=
  ⟨t.rows.set i.val a, by rw [List.length_set]; exact t.size⟩

/-- The table with one record changed by a function. -/
def modify {n : Nat} {α : Type} (t : Table n α) (i : Fin n) (f : α → α) : Table n α :=
  t.set i (f (t.get i))

/-- Every record changed by one function. -/
def map {n : Nat} {α β : Type} (f : α → β) (t : Table n α) : Table n β :=
  ⟨t.rows.map f, by rw [List.length_map]; exact t.size⟩

/-- The table whose record at each index is given by a function of the index. -/
def build {n : Nat} {α : Type} (f : Fin n → α) : Table n α :=
  ⟨List.ofFn f, List.length_ofFn⟩

/-- The table that holds one value at every index. -/
def fill (n : Nat) {α : Type} (a : α) : Table n α := ⟨List.replicate n a, List.length_replicate⟩

end Table

/-- Every index of a table of `n` records, lowest first. -/
def indices (n : Nat) : List (Fin n) := List.finRange n

end Sys2Proof
end

