-- ==== Sys2Proof/Syntax.lean ====
section
/-! DEFINITION. The commands of the part: one constructor per row of spec/opcode_table.json. -/
namespace Sys2Proof

/-- Index of a route entry, 0 to 63 (R18). -/
abbrev RouteIdx := Fin 64
/-- Index of a point, 0 to 127 (R35). -/
abbrev PointIdx := Fin 128
/-- Index of an output record, 0 to 63 (R139). -/
abbrev OutputIdx := Fin 64
/-- Number of a lane, 0 to 7 (R52). -/
abbrev LaneIdx := Fin 8
/-- Index of a zone, 0 to 31 (R79). -/
abbrev ZoneIdx := Fin 32
/-- Index of a blower, 0 to 5 (R112). -/
abbrev BlowerIdx := Fin 6
/-- Index of a return line, 0 to 3 (R126). -/
abbrev LineIdx := Fin 4
/-- Index of a watch, 0 to 31 (R156). -/
abbrev WatchIdx := Fin 32

/-- The commands: the part's operations and events (opcode_table.json, 95_what_each_step_holds.md).
A management request carries its source address and its tag, then the arguments R181 lists; it stands
for the arrival of the valid MGMT_REQUEST frame that carries it (DESIGN CHOICE, log entry 1). -/
inductive Instr where
  /-- RESET_ASSERT: RESETn falls (R2). -/
  | resetAssert
  /-- START_UP: RESETn rises, with the levels of ADR0 to ADR7 (R1, R190). -/
  | startUp (straps : BitVec 8)
  /-- BYPASS_END: the first idle line after start-up (R2). -/
  | bypassEnd
  /-- FRAME_ARRIVAL: bytes at ring-in that complete a frame (R4, R8; DESIGN CHOICE, log entry 3). -/
  | frameArrival (bytes : List Byte)
  /-- FRAME_SENT: the last check byte leaves ring-out (R11). -/
  | frameSent
  /-- RING_SILENCE_EXPIRY (R15). -/
  | ringSilenceExpiry
  /-- AGE_EXPIRY of one point (R43). -/
  | ageExpiry (point : PointIdx)
  /-- EXIT_HOLD_EXPIRY (R62). -/
  | exitHoldExpiry
  /-- LANE_PERIOD_EXPIRY of one lane (R58). -/
  | lanePeriodExpiry (lane : LaneIdx)
  /-- PHASE_EXPIRY of one lane's economy cycle (R96). -/
  | phaseExpiry (lane : LaneIdx)
  /-- ALLOCATION_EXPIRY (R106). -/
  | allocationExpiry
  /-- WARM_UP_EXPIRY of one blower (R117). -/
  | warmUpExpiry (blower : BlowerIdx)
  /-- START_TIMEOUT_EXPIRY of one blower (R117). -/
  | startTimeoutExpiry (blower : BlowerIdx)
  /-- RUNDOWN_EXPIRY of one blower (R118). -/
  | rundownExpiry (blower : BlowerIdx)
  /-- PACING_EXPIRY of one return line (R129). -/
  | pacingExpiry (line : LineIdx)
  /-- RESEND_EXPIRY of one output (R145). -/
  | resendExpiry (output : OutputIdx)
  /-- COUNTDOWN_EXPIRY (R149). -/
  | countdownExpiry
  /-- HOLD_EXPIRY of one watch (R169). -/
  | holdExpiry (watch : WatchIdx)
  /-- COMMIT_COMPLETION, with what the check of the written image found (R188). -/
  | commitCompletion (success : Bool)
  /-- BAD_REQUEST: a request of any code with raw argument bytes (R183). -/
  | badRequest (source : Addr) (tag code : Byte) (args : List Byte)
  /-- READ_FIELDS (R184). -/
  | readFields (source : Addr) (tag table index first count : Byte)
  /-- WRITE_FIELDS on table ROUTE (R31). -/
  | writeFieldsRoute (source : Addr) (tag index first : Byte) (values : List Word32)
  /-- WRITE_FIELDS on table POINT (R48). -/
  | writeFieldsPoint (source : Addr) (tag index first : Byte) (values : List Word32)
  /-- WRITE_FIELDS on table OUTPUT (R140). -/
  | writeFieldsOutput (source : Addr) (tag index first : Byte) (values : List Word32)
  /-- WRITE_FIELDS on table LANE (R55). -/
  | writeFieldsLane (source : Addr) (tag index first : Byte) (values : List Word32)
  /-- WRITE_FIELDS on table ZONE (R80). -/
  | writeFieldsZone (source : Addr) (tag index first : Byte) (values : List Word32)
  /-- WRITE_FIELDS on table BLOWER (R113). -/
  | writeFieldsBlower (source : Addr) (tag index first : Byte) (values : List Word32)
  /-- WRITE_FIELDS on table RETURN (R127). -/
  | writeFieldsReturn (source : Addr) (tag index first : Byte) (values : List Word32)
  /-- WRITE_FIELDS on table WATCH (R157). -/
  | writeFieldsWatch (source : Addr) (tag index first : Byte) (values : List Word32)
  /-- WRITE_FIELDS on table PLANT (R59). -/
  | writeFieldsPlant (source : Addr) (tag index first : Byte) (values : List Word32)
  /-- WRITE_FIELDS on table ALLOCATOR (R103). -/
  | writeFieldsAllocator (source : Addr) (tag index first : Byte) (values : List Word32)
  /-- READ_STATUS (R186). -/
  | readStatus (source : Addr) (tag : Byte)
  /-- COMMIT_STORE (R187). -/
  | commitStore (source : Addr) (tag : Byte)
  /-- RESTART (R189). -/
  | restart (source : Addr) (tag : Byte)
  /-- LOCK_ROUTE (R33). -/
  | lockRoute (source : Addr) (tag entry : Byte)
  /-- FORCE_POINT (R46). -/
  | forcePoint (source : Addr) (tag point : Byte) (value : Word32)
  /-- RELEASE_POINT (R47). -/
  | releasePoint (source : Addr) (tag point : Byte)
  /-- SET_REGIME (R73). -/
  | setRegime (source : Addr) (tag lane regime : Byte)
  /-- RESTORE_LANE (R72). -/
  | restoreLane (source : Addr) (tag lane : Byte)
  /-- ACKNOWLEDGE (R170). -/
  | acknowledge (source : Addr) (tag watch : Byte)
  /-- RELEASE_OUTPUT (R150). -/
  | releaseOutput (source : Addr) (tag output : Byte)
  /-- REFRESH (R148). -/
  | refresh (source : Addr) (tag seconds : Byte)
  /-- READ_HISTORY (R179). -/
  | readHistory (source : Addr) (tag count : Byte)
  /-- RESUME_CAPTURE (R178). -/
  | resumeCapture (source : Addr) (tag : Byte)
  /-- RING_IN_IDLE_IN_FRAME: bytes at ring-in, then idle line before a frame is complete (R4). -/
  | ringInIdleInFrame (bytes : List Byte)
deriving DecidableEq, Repr

end Sys2Proof
end

