-- ==== Sys2Proof/Decode.lean ====
section
/-! DEFINITION. The command a word spells by the bits of spec/opcode_table.json. The table gives bits to no row. -/
namespace Sys2Proof

/-- No row of spec/opcode_table.json has bits ("n_rows_with_fixed": 0, 98_reader.md), so no word spells a command. -/
def decodeTableWord (_nbits _w : Nat) : Option Instr := none

end Sys2Proof
end

