-- ==== Sys2Proof/Config.lean ====
section
/-! DEFINITION. The free values of the model: what the spec leaves open and every implementation settles.
A free value has no body, so no proof can see what it is. -/
namespace Sys2Proof

/-- FREE VALUE (DESIGN CHOICE, log entries 6, 7 and 8). The spec leaves the order of some arrivals inside one step open
("either may be taken first": R45, R67, R168). The order taken is read from this sequence of numbers, one
number for each open choice, at the index `State.freeIndex` keeps. Nothing constrains the numbers. -/
opaque Config.freeOrder : Nat → Nat

end Sys2Proof
end

