-- ==== Sys2Proof/Machine/Records.lean ====
section
/-! DEFINITION. The records of the part's blocks: their fields as the record tables of the chapters list them, and their
default values (the values taken at start-up from an invalid store). Absent markers are `Option.none`. -/
namespace Sys2Proof.Machine

/-- To clamp a value to [lo, hi] is to replace it by lo when it is below lo and by hi when it is above hi
(00_scope "Arithmetic"). -/
def clampInt (lo hi v : Int) : Int := if v < lo then lo else if hi < v then hi else v

/-- The clamp of a quantity that cannot be negative. -/
def clampNat (lo hi v : Nat) : Nat := if v < lo then lo else if hi < v then hi else v

/-! ### Chapter 1: frames -/

/-- The six frame kinds of the layout (R3). Codes 0 and 7 to 15 name no kind. -/
inductive Kind where
  | sample | status | command | request | reply | notice
deriving DecidableEq, Repr

/-- A frame as its header and payload fields (R3). The check is not held: it is formed anew for every
frame sent (R5). -/
structure Frame where
  dst : Addr
  src : Addr
  kind : BitVec 4
  hops : BitVec 4
  seq : Byte
  payload : List Byte
deriving DecidableEq, Repr

/-- The results of a management request (00_scope "Management requests and results", R181). -/
inductive Result where
  | ok | okClamped | badRequest | badIndex | badArgument | locked | busy | wrongRegime | notTripped
  | conditionPresent | notPermitted | storeFault
deriving DecidableEq, Repr

/-- What an originated frame carries (R12). A COMMAND names the output record that offered it until a
configuration write detaches it (R13, R144). -/
inductive Body where
  | command (owner : Option OutputIdx) (channel : Byte) (value : Int)
  | notice (watch : WatchIdx) (subject : Byte) (value : Int) (time : BitVec 32)
  | reply (code tag : Byte) (result : Result) (data : List Byte)
deriving DecidableEq, Repr

/-- An originated frame waiting in the transmit queue: its sequence number and check are fixed only when
the arbiter starts it (R12). -/
structure Queued where
  dst : Addr
  body : Body
deriving DecidableEq, Repr

/-- The ring interface: receiver, bypass, buffers, line, counters and ring-silence timer (R2, R4, R10 to R15). -/
structure Ring where
  /-- The bytes of the frame being received, first byte first; empty while the receiver hunts (R4). -/
  received : List Byte
  /-- The bytes the latest arrival at ring-in put on ring-out through the bypass, first byte first (R2; the form is a DESIGN CHOICE, log entry
  29); empty once the bypass has ended. -/
  passing : List Byte
  /-- The bytes so far of the frame in passage through the bypass, first byte first; empty between frames and once the bypass has ended
  (R2; log entry 29). -/
  inPassage : List Byte
  /-- The forward buffer, oldest first (R10). -/
  forward : List Frame
  /-- The transmit queue, oldest first (R13). -/
  transmit : List Queued
  /-- The frame in SENDING, or none while the line is IDLE (R11). -/
  line : Option Frame
  /-- The forward run count (R11). -/
  runCount : Nat
  /-- The originated-sequence counter (R12). -/
  sequence : Byte
  /-- The ring-silence timer, tenths left while it runs (R15). -/
  silence : Option Nat
  /-- The level RING_SILENT (R15). -/
  silent : Bool
deriving DecidableEq, Repr

/-! ### Chapter 2: route table -/

/-- Which address of a frame a route entry tests (section 2.1). -/
inductive MatchField where
  | source | destination
deriving DecidableEq, Repr

/-- The five dispositions (section 2.4). -/
inductive Disposition where
  | pass | observe | consume | guard | discard
deriving DecidableEq, Repr

/-- The configuration fields of a route entry (section 2.1). -/
structure RouteConfig where
  valid : Bool
  matchField : MatchField
  base : Addr
  exponent : Nat
  /-- Bit 0 SAMPLE up to bit 5 NOTICE (section 2.7, field 4). -/
  kinds : BitVec 6
  disposition : Disposition
  pointBase : Nat
  channels : Nat
  supervisor : Bool
deriving DecidableEq, Repr

/-- A route entry (R18). -/
structure Route where
  config : RouteConfig
  locked : Bool
  hit : Bool
deriving DecidableEq, Repr

/-- The defaults of a route entry (R34). -/
def RouteConfig.default : RouteConfig :=
  { valid := false, matchField := .source, base := 0, exponent := 0, kinds := 0, disposition := .pass
    pointBase := 0, channels := 1, supervisor := false }

/-! ### Chapter 3: points -/

/-- What a point measures (section 3.1). -/
inductive PointKind where
  | dissolvedOxygen | ammonia | airflow | influent | returnFlow | blanket | equipment | generic
deriving DecidableEq, Repr

/-- The configuration fields of a point (section 3.1). -/
structure PointConfig where
  kind : PointKind
  low : Int
  high : Int
  ageLimit : Nat
  shift : Nat
deriving DecidableEq, Repr

/-- A value with its filtered value; the two are present or absent together (R35). -/
structure Reading where
  value : Int
  filtered : Int
deriving DecidableEq, Repr

/-- The six qualities (R35). -/
inductive Quality where
  | none | good | suspect | stale | bad | forced
deriving DecidableEq, Repr

/-- A point's quality with the reading it holds in it: absent in NONE, present in GOOD, SUSPECT, STALE and
FORCED, and either in BAD (R35). -/
inductive PointState where
  | empty
  | good (r : Reading)
  | suspect (r : Reading)
  | stale (r : Reading)
  | bad (r : Option Reading)
  | forced (r : Reading)
deriving DecidableEq, Repr

/-- A point record (R35). -/
structure Point where
  config : PointConfig
  state : PointState
  /-- The age timer, tenths left while it runs (R43). -/
  age : Option Nat
  /-- The last sequence (R37). -/
  lastSeq : Option Byte
deriving DecidableEq, Repr

/-- The defaults of a point (R50). -/
def PointConfig.default : PointConfig :=
  { kind := .generic, low := -8388608, high := 8388607, ageLimit := 0, shift := 0 }

/-! ### Chapter 4: lanes, plant, storm -/

/-- The five regimes (section 4.2). -/
inductive Regime where
  | offline | normal | economy | storm | tripped
deriving DecidableEq, Repr

/-- The two phases of an economy cycle (R96). -/
inductive Phase where
  | airOn | airOff
deriving DecidableEq, Repr

/-- An economy cycle: its phase, its on-fraction in force, its two phase lengths in seconds and its phase
timer in tenths (R95, R96). -/
structure Cycle where
  phase : Phase
  onFraction : Nat
  onLength : Nat
  offLength : Nat
  timer : Nat
deriving DecidableEq, Repr

/-- A lane's regime with the fields present only in it: the cycle in ECONOMY, the trip cause in TRIPPED (R53). -/
inductive LaneState where
  | offline
  | normal
  | economy (cycle : Cycle)
  | storm
  | tripped (cause : WatchIdx)
deriving DecidableEq, Repr

/-- The configuration fields of a lane, fields 0 to 20 of section 4.1. -/
structure LaneConfig where
  inService : Bool
  period : Nat
  zoneCount : Nat
  ammoniaPoint : Option PointIdx
  ammoniaTarget : Int
  trimGain : Int
  trimLow : Int
  trimHigh : Int
  influentWeight : Nat
  returnLine : Option LineIdx
  tripGroup : Option (Fin 4)
  autoEconomy : Bool
  enterLevel : Int
  dwellMinutes : Nat
  /-- Bit 0 AMMONIA, bit 1 INFLUENT (field 14). -/
  wakeMask : BitVec 2
  wakeAmmonia : Int
  wakeInfluent : Int
  cycleLength : Nat
  baseOn : Int
  minimumOn : Int
  onSlope : Int
deriving DecidableEq, Repr

/-- The defaults of section 4.1. -/
def LaneConfig.default : LaneConfig :=
  { inService := false, period := 10, zoneCount := 4, ammoniaPoint := none, ammoniaTarget := 1000
    trimGain := 0, trimLow := -500, trimHigh := 500, influentWeight := 0, returnLine := none
    tripGroup := none, autoEconomy := false, enterLevel := 500, dwellMinutes := 30, wakeMask := 0
    wakeAmmonia := 2000, wakeInfluent := 8388607, cycleLength := 1800, baseOn := 32, minimumOn := 16
    onSlope := 0 }

/-- The configuration fields of the plant record, fields 0 to 9 of section 4.5. -/
structure PlantConfig where
  influentPoint : Option PointIdx
  enterLevel : Int
  exitLevel : Int
  stormHold : Nat
  /-- Cross-trip enables of trip groups 0 to 3 (fields 4 to 7). -/
  crossTrip : Table 4 Bool
  noticeAddress : Addr
  silenceTime : Nat
deriving DecidableEq, Repr

/-- The defaults of section 4.5. -/
def PlantConfig.default : PlantConfig :=
  { influentPoint := none, enterLevel := 8388607, exitLevel := 0, stormHold := 600
    crossTrip := Table.fill 4 false, noticeAddress := 0, silenceTime := 5 }

/-- The plant record with the storm state (also the level STORM_ACTIVE) and the exit-hold timer (R59, R60). -/
structure Plant where
  config : PlantConfig
  storm : Bool
  exitHold : Option Nat
deriving DecidableEq, Repr

/-! ### Chapter 5: zones -/

/-- The three control modes (section 5.3). -/
inductive Mode where
  | doControl | fixedAir | held
deriving DecidableEq, Repr

/-- The configuration fields of a zone, fields 0 to 15 of section 5.1. -/
structure ZoneConfig where
  doPoint : Option PointIdx
  airflowPoint : Option PointIdx
  valveOutput : Option OutputIdx
  baseSetpoint : Int
  economyOffset : Int
  stormSetpoint : Int
  kp : Int
  ki : Int
  biasAir : Nat
  minAir : Nat
  maxAir : Nat
  fixedAir : Nat
  tripAir : Nat
  cyclic : Bool
  valveGain : Int
  valveRate : Int
deriving DecidableEq, Repr

/-- The defaults of section 5.1. -/
def ZoneConfig.default : ZoneConfig :=
  { doPoint := none, airflowPoint := none, valveOutput := none, baseSetpoint := 2000, economyOffset := 500
    stormSetpoint := 2500, kp := 0, ki := 0, biasAir := 0, minAir := 0, maxAir := 0, fixedAir := 0
    tripAir := 0, cyclic := false, valveGain := 0, valveRate := 10 }

/-- A zone record (R79, R81). The integral counts 1/256 Nm3/h. -/
structure Zone where
  config : ZoneConfig
  mode : Mode
  setpoint : Int
  integral : Int
  demand : Nat
  grant : Option Nat
  cut : Bool
  reseed : Bool
  offDemand : Bool
deriving DecidableEq, Repr

/-- The values a lane's pending set would put in force: the lane's and its four zones' configuration as they
will stand, with every staged value in its place (R55, R56; DEDUCED, log entry 18). -/
structure Pending where
  lane : LaneConfig
  zones : Table 4 ZoneConfig
deriving DecidableEq, Repr

/-- A lane record (R52, R53). -/
structure Lane where
  config : LaneConfig
  state : LaneState
  dwell : Nat
  timer : Option Nat
  pending : Option Pending
deriving DecidableEq, Repr

/-! ### Chapter 6: allocator and blowers -/

/-- The configuration fields of the allocator record, fields 0 to 4 of section 6.1. -/
structure AllocatorConfig where
  period : Nat
  upThreshold : Nat
  downThreshold : Nat
  upDelay : Nat
  downDelay : Nat
deriving DecidableEq, Repr

/-- The defaults of section 6.1. -/
def AllocatorConfig.default : AllocatorConfig :=
  { period := 15, upThreshold := 900, downThreshold := 700, upDelay := 3, downDelay := 6 }

/-- The allocator record with the two level conditions it owns (R103, R110). -/
structure Allocator where
  config : AllocatorConfig
  upCount : Nat
  downCount : Nat
  lastDemand : Nat
  lastCapacity : Nat
  lastGrant : Nat
  timer : Option Nat
  airShort : Bool
  floorShort : Bool
deriving DecidableEq, Repr

/-- A blower's state with the timers and the flag that belong to it (section 6.7, R114): in STARTING the warm-up
(absent once expired) and the start timeout, in RUNNING the stop-pending flag, in STOPPING the rundown. -/
inductive BlowerState where
  | unknown
  | stopped
  | starting (warmUp : Option Nat) (timeout : Nat)
  | running (stopPending : Bool)
  | stopping (rundown : Nat)
  | faulted
  | handControl
deriving DecidableEq, Repr

/-- The seven names of the blower states (section 6.7), as a BLOWER entry records them (R176). -/
inductive BlowerStatus where
  | unknown | stopped | starting | running | stopping | faulted | handControl
deriving DecidableEq, Repr

/-- The name of a blower's state. -/
def BlowerState.status : BlowerState → BlowerStatus
  | .unknown => .unknown
  | .stopped => .stopped
  | .starting _ _ => .starting
  | .running _ => .running
  | .stopping _ => .stopping
  | .faulted => .faulted
  | .handControl => .handControl

/-- The configuration fields of a blower, fields 0 to 9 of section 6.6. -/
structure BlowerConfig where
  inService : Bool
  runOutput : Option OutputIdx
  speedOutput : Option OutputIdx
  statusPoint : Option PointIdx
  cmin : Nat
  cmax : Nat
  rank : Fin 6
  warmUp : Nat
  timeout : Nat
  rundown : Nat
deriving DecidableEq, Repr

/-- The defaults of section 6.6; the lead rank is the blower's index. -/
def BlowerConfig.default (b : BlowerIdx) : BlowerConfig :=
  { inService := false, runOutput := none, speedOutput := none, statusPoint := none, cmin := 0, cmax := 0
    rank := b, warmUp := 60, timeout := 180, rundown := 30 }

/-- A blower record (R112). -/
structure Blower where
  config : BlowerConfig
  state : BlowerState
deriving DecidableEq, Repr

/-! ### Chapter 7: return lines -/

/-- A return line's state; the held target is present only in HELD_STORM (R126). -/
inductive LineState where
  | pacing
  | heldStorm (held : Nat)
  | heldStale
  | heldManual
  | stopped
deriving DecidableEq, Repr

/-- The configuration fields of a return line, fields 0 to 10 of section 7.1. -/
structure ReturnConfig where
  pumpOutput : Option OutputIdx
  flowPoint : Option PointIdx
  blanketPoint : Option PointIdx
  ratio : Nat
  blanketThreshold : Int
  boost : Nat
  minFlow : Nat
  maxFlow : Nat
  period : Nat
  gain : Int
  rate : Int
deriving DecidableEq, Repr

/-- The defaults of section 7.1. -/
def ReturnConfig.default : ReturnConfig :=
  { pumpOutput := none, flowPoint := none, blanketPoint := none, ratio := 1000, blanketThreshold := 8388607
    boost := 0, minFlow := 0, maxFlow := 0, period := 60, gain := 0, rate := 10 }

/-- A return-line record (R126). -/
structure ReturnLine where
  config : ReturnConfig
  state : LineState
  target : Nat
  timer : Option Nat
deriving DecidableEq, Repr

/-! ### Chapter 8: outputs -/

/-- The kinds of an output (section 8.1). -/
inductive OutputKind where
  | zoneValve | blowerRun | blowerSpeed | returnPump | general
deriving DecidableEq, Repr

/-- The two states of an output (R141). -/
inductive OutputState where
  | auto | supervised
deriving DecidableEq, Repr

/-- The configuration fields of an output, fields 0 to 8 of section 8.1. -/
structure OutputConfig where
  destination : Addr
  channel : Byte
  kind : OutputKind
  owner : Fin 32
  low : Int
  high : Int
  trip : Int
  deadband : Int
  resend : Nat
deriving DecidableEq, Repr

/-- The defaults of section 8.1. -/
def OutputConfig.default : OutputConfig :=
  { destination := 0, channel := 0, kind := .general, owner := 0, low := 0, high := 1000, trip := 0
    deadband := 0, resend := 0 }

/-- An output record (R139). -/
structure Output where
  config : OutputConfig
  state : OutputState
  last : Option Int
  unsent : Bool
  resendTimer : Option Nat
deriving DecidableEq, Repr

/-- The supervision countdown and the level SUPERVISION_LOST (R148). -/
structure Supervision where
  countdown : Option Nat
  lost : Bool
deriving DecidableEq, Repr

/-! ### Chapter 9: conditions and watches -/

/-- The five level conditions (R154). -/
inductive Level where
  | airShort | floorShort | stormActive | supervisionLost | ringSilent
deriving DecidableEq, Repr

/-- The six event conditions (R154). -/
inductive EventCondition where
  | routeRange | queueOverflow | loopCongestion | blowerStartFail | blowerTrip | storeFault
deriving DecidableEq, Repr

/-- The subject of a watch: a point, a level condition or an event condition (section 9.2, field 1). -/
inductive Subject where
  | point (p : PointIdx)
  | level (c : Level)
  | event (e : EventCondition)
deriving DecidableEq, Repr

/-- The five tests (section 9.4). -/
inductive Test where
  | above | below | outside | unusable | active
deriving DecidableEq, Repr

/-- How a watch leaves FIRED (section 9.6). -/
inductive Rearm where
  | manual | auto
deriving DecidableEq, Repr

/-- The states of a watch; the hold timer runs only in FIRED (R156). -/
inductive WatchState where
  | off
  | waiting
  | armed
  | fired (hold : Option Nat)
deriving DecidableEq, Repr

/-- The configuration fields of a watch, fields 0 to 13 of section 9.2. -/
structure WatchConfig where
  enable : Bool
  subject : Subject
  test : Test
  high : Int
  low : Int
  hysteresis : Int
  persistence : Nat
  stage : Option WatchIdx
  /-- Bit 0 NOTICE, 1 RELAY, 2 TRIP, 3 WAKE, 4 FREEZE (field 8). -/
  actions : BitVec 5
  armed : Bool
  targetLane : LaneIdx
  relayLine : Fin 4
  rearm : Rearm
  hold : Nat
deriving DecidableEq, Repr

/-- The defaults of section 9.2. -/
def WatchConfig.default : WatchConfig :=
  { enable := false, subject := .point 0, test := .above, high := 8388607, low := -8388608, hysteresis := 0
    persistence := 1, stage := none, actions := 0, armed := false, targetLane := 0, relayLine := 0
    rearm := .manual, hold := 60 }

/-- A watch record (R156). -/
structure Watch where
  config : WatchConfig
  state : WatchState
  count : Nat
  truth : Bool
  occurrence : Bool
deriving DecidableEq, Repr

/-- One change of a watch's subject: an arrival at the watch unit (R160). -/
inductive Change where
  | point (p : PointIdx)
  | level (c : Level) (active : Bool)
  | event (e : EventCondition)
deriving DecidableEq, Repr

/-! ### Chapter 10: history -/

/-- The eleven entry kinds with the fields R176 gives each. -/
inductive HistoryEvent where
  | regime (lane : LaneIdx) (old new : Regime)
  | zoneMode (zone : ZoneIdx) (old new : Mode)
  | blower (blower : BlowerIdx) (old new : BlowerStatus)
  | watchFired (watch : WatchIdx) (value : Int)
  | trip (lane : LaneIdx) (cause : WatchIdx)
  | restore (lane : LaneIdx) (cause : WatchIdx)
  | override (output : OutputIdx) (old new : OutputState)
  | supervision (old new : Bool)
  | condition (level : Level) (old new : Bool)
  | restart
  | store (cause : Nat) (generation : BitVec 16)
deriving DecidableEq, Repr

/-- A history entry (section 10.2). -/
structure Entry where
  number : BitVec 16
  time : BitVec 32
  event : HistoryEvent
deriving DecidableEq, Repr

/-- The history, oldest entry first, the capture number the next entry takes, and the freeze state (R175). -/
structure History where
  entries : List Entry
  next : BitVec 16
  frozen : Bool
deriving DecidableEq, Repr

/-! ### Chapter 11: stored settings -/

/-- The configuration of every table: what a commit's snapshot and a store image hold (R187). -/
structure Settings where
  routes : Table 64 RouteConfig
  points : Table 128 PointConfig
  outputs : Table 64 OutputConfig
  lanes : Table 8 LaneConfig
  zones : Table 32 ZoneConfig
  blowers : Table 6 BlowerConfig
  returns : Table 4 ReturnConfig
  watches : Table 32 WatchConfig
  plant : PlantConfig
  allocator : AllocatorConfig
deriving DecidableEq, Repr

/-- The defaults every table takes when no store image is valid (R190). -/
def Settings.default : Settings :=
  { routes := Table.fill 64 RouteConfig.default
    points := Table.fill 128 PointConfig.default
    outputs := Table.fill 64 OutputConfig.default
    lanes := Table.fill 8 LaneConfig.default
    zones := Table.fill 32 ZoneConfig.default
    blowers := Table.build BlowerConfig.default
    returns := Table.fill 4 ReturnConfig.default
    watches := Table.fill 32 WatchConfig.default
    plant := PlantConfig.default
    allocator := AllocatorConfig.default }

/-- A store image whose check passes (section 11.5). -/
structure Image where
  generation : BitVec 16
  settings : Settings
deriving DecidableEq, Repr

/-- A commit in flight: the snapshot, the image being written, and what the reply needs (R187). -/
structure Commit where
  settings : Settings
  target : Fin 2
  source : Addr
  tag : Byte
deriving DecidableEq, Repr

/-- The management agent: commit state (none is IDLE), store generation, the two store images (none is an image whose
check fails) and the valid image last completed (chapter 11). -/
structure Management where
  commit : Option Commit
  generation : BitVec 16
  images : Table 2 (Option Image)
  current : Option (Fin 2)
deriving DecidableEq, Repr

/-! ### The records after a full reset -/

/-- A route entry after a full reset: unlocked, hit clear (R34). -/
def Route.fresh (c : RouteConfig) : Route := { config := c, locked := false, hit := false }

/-- A point after a full reset or a warm restart: NONE, timer stopped, last sequence absent (R50, R51). -/
def Point.fresh (c : PointConfig) : Point := { config := c, state := .empty, age := none, lastSeq := none }

/-- The regime a lane that is not TRIPPED takes at a reset (R77, R78). -/
def LaneConfig.startState (c : LaneConfig) : LaneState := if c.inService then .normal else .offline

/-- A lane after a full reset, its timer stopped until the bypass ends (R57, R77). -/
def Lane.fresh (c : LaneConfig) : Lane :=
  { config := c, state := c.startState, dwell := 0, timer := none, pending := none }

/-- The initial state of a zone (R101). -/
def Zone.initial (c : ZoneConfig) : Zone :=
  { config := c, mode := .fixedAir, setpoint := c.baseSetpoint, integral := 0
    demand := clampNat c.minAir c.maxAir c.fixedAir, grant := none, cut := false, reseed := false
    offDemand := false }

/-- The lane of a zone: its index divided by 4 (R55). -/
def laneOf (z : ZoneIdx) : LaneIdx := ⟨z.val / 4, by omega⟩

/-- A zone's place in its lane, 0 to 3 (R82). -/
def placeOf (z : ZoneIdx) : Fin 4 := ⟨z.val % 4, by omega⟩

/-- The zone at a place of a lane. -/
def zoneAt (k : LaneIdx) (p : Fin 4) : ZoneIdx := ⟨4 * k.val + p.val, by omega⟩

/-- A zone is idle when its lane is OFFLINE or its place lies beyond the lane's zone count in force (R82). -/
def Lane.idles (l : Lane) (p : Fin 4) : Bool := l.state == .offline || decide (l.config.zoneCount ≤ p.val)

/-- A zone after a full reset, and after a warm restart: its initial state, with demand 0 when it is idle and its trip
air when its lane stays TRIPPED (R102). -/
def Zone.fresh (l : Lane) (p : Fin 4) (c : ZoneConfig) : Zone :=
  if l.idles p then { Zone.initial c with demand := 0 }
  else match l.state with
    | .tripped _ => { Zone.initial c with demand := c.tripAir }
    | .offline => Zone.initial c
    | .normal => Zone.initial c
    | .economy _ => Zone.initial c
    | .storm => Zone.initial c

/-- A blower after a full reset (R124). -/
def Blower.fresh (c : BlowerConfig) : Blower := { config := c, state := .unknown }

/-- The allocator after a full reset (R124). -/
def Allocator.fresh (c : AllocatorConfig) : Allocator :=
  { config := c, upCount := 0, downCount := 0, lastDemand := 0, lastCapacity := 0, lastGrant := 0
    timer := none, airShort := false, floorShort := false }

/-- A return line after a full reset: PACING with its target at its min flow (R137). -/
def ReturnLine.fresh (c : ReturnConfig) : ReturnLine :=
  { config := c, state := .pacing, target := c.minFlow, timer := none }

/-- An output after a full reset (R153). -/
def Output.fresh (c : OutputConfig) : Output :=
  { config := c, state := .auto, last := none, unsent := false, resendTimer := none }

/-- A watch that is not FIRED with a full count: OFF, ARMED or WAITING by its enable, its stage link and
whether its stage watch is FIRED (R157, R173, R174). -/
def WatchConfig.rest (c : WatchConfig) (stageFired : Bool) : WatchState :=
  if c.enable then
    match c.stage with
    | none => .armed
    | some _ => if stageFired then .armed else .waiting
  else .off

/-- A watch after a full reset: no watch is FIRED, so every linked watch waits (R173). -/
def Watch.fresh (c : WatchConfig) : Watch :=
  { config := c, state := c.rest false, count := c.persistence - 1, truth := false, occurrence := false }

/-- The plant record after a full reset: storm INACTIVE, exit hold stopped (R77). -/
def Plant.fresh (c : PlantConfig) : Plant := { config := c, storm := false, exitHold := none }

/-- The ring interface after a full reset (R2, R10, R11, R12, R15). -/
def Ring.fresh : Ring :=
  { received := [], passing := [], inPassage := [], forward := [], transmit := [], line := none, runCount := 0, sequence := 0
    silence := none, silent := false }

/-- The supervision countdown after a reset: disabled, SUPERVISION_LOST inactive (R153). -/
def Supervision.fresh : Supervision := { countdown := none, lost := false }

/-- The reset line and the bypass (R2): RESETn low; start-up done with the bypass still in force; running. -/
inductive Power where
  | resetLow | bypass | running
deriving DecidableEq, Repr

end Sys2Proof.Machine
end

