-- ==== Sys2Proof/Machine/State.lean ====
section
/-! DEFINITION. The machine's state, its reset state, and its fault and refusal reasons. -/
namespace Sys2Proof.Machine

/-- The reasons a step can stop with a fault. There is none: the spec names no event that stops the part, every command is
carried out, refused by a reply or has no effect (INVENTORY.md "Faults"). -/
inductive Fault where
deriving DecidableEq, Repr

/-- The reasons a step can be refused. -/
inductive Refusal where
  /-- Raised by an arm of `exec` for a command that has no meaning yet; safe. No arm raises it: every command is modelled. -/
  | notModelled (mnemonic : String)
deriving DecidableEq, Repr

/-- The state of the part: every record of every block, the store, and the queue of commands that wait. -/
structure State where
  /-- The reset line and the bypass (R2, R190). -/
  power : Power
  /-- The part's own address (R1). -/
  ownAddress : Addr
  /-- Tenths since the last full reset (00_scope "Time", R190). -/
  timeCount : BitVec 32
  /-- The ring interface (chapter 1). -/
  ring : Ring
  /-- The route table (chapter 2). -/
  routes : Table 64 Route
  /-- The point table (chapter 3). -/
  points : Table 128 Point
  /-- The plant record and the storm state (chapter 4). -/
  plant : Plant
  /-- The lane records (chapter 4). -/
  lanes : Table 8 Lane
  /-- The zone records (chapter 5). -/
  zones : Table 32 Zone
  /-- The allocator record (chapter 6). -/
  allocator : Allocator
  /-- The blower records (chapter 6). -/
  blowers : Table 6 Blower
  /-- The return-line records (chapter 7). -/
  returns : Table 4 ReturnLine
  /-- The output records (chapter 8). -/
  outputs : Table 64 Output
  /-- The supervision countdown and SUPERVISION_LOST (chapter 8). -/
  supervision : Supervision
  /-- The watch records (chapter 9). -/
  watches : Table 32 Watch
  /-- The event history (chapter 10). -/
  history : History
  /-- Commit state, store generation and store (chapter 11). -/
  management : Management
  /-- MODEL'S OWN: arrivals at the watch unit that wait for the event or evaluation in progress to end (R155, R160).
  Empty between steps. -/
  raised : List Change
  /-- MODEL'S OWN: how many open orders the free value `Config.freeOrder` has settled so far (DESIGN CHOICE, log entry 9). -/
  freeIndex : Nat
  /-- The commands that wait, first in first out. -/
  pending : List Instr
deriving DecidableEq, Repr

namespace State

/-- The state with `power` replaced. -/
def withPower (s : State) (x : Power) : State := { s with power := x }

/-- The state with `ownAddress` replaced. -/
def withOwnAddress (s : State) (x : Addr) : State := { s with ownAddress := x }

/-- The state with `timeCount` replaced. -/
def withTimeCount (s : State) (x : BitVec 32) : State := { s with timeCount := x }

/-- The state with `ring` replaced. -/
def withRing (s : State) (x : Ring) : State := { s with ring := x }

/-- The state with `routes` replaced. -/
def withRoutes (s : State) (x : Table 64 Route) : State := { s with routes := x }

/-- The state with `points` replaced. -/
def withPoints (s : State) (x : Table 128 Point) : State := { s with points := x }

/-- The state with `plant` replaced. -/
def withPlant (s : State) (x : Plant) : State := { s with plant := x }

/-- The state with `lanes` replaced. -/
def withLanes (s : State) (x : Table 8 Lane) : State := { s with lanes := x }

/-- The state with `zones` replaced. -/
def withZones (s : State) (x : Table 32 Zone) : State := { s with zones := x }

/-- The state with `allocator` replaced. -/
def withAllocator (s : State) (x : Allocator) : State := { s with allocator := x }

/-- The state with `blowers` replaced. -/
def withBlowers (s : State) (x : Table 6 Blower) : State := { s with blowers := x }

/-- The state with `returns` replaced. -/
def withReturns (s : State) (x : Table 4 ReturnLine) : State := { s with returns := x }

/-- The state with `outputs` replaced. -/
def withOutputs (s : State) (x : Table 64 Output) : State := { s with outputs := x }

/-- The state with `supervision` replaced. -/
def withSupervision (s : State) (x : Supervision) : State := { s with supervision := x }

/-- The state with `watches` replaced. -/
def withWatches (s : State) (x : Table 32 Watch) : State := { s with watches := x }

/-- The state with `history` replaced. -/
def withHistory (s : State) (x : History) : State := { s with history := x }

/-- The state with `management` replaced. -/
def withManagement (s : State) (x : Management) : State := { s with management := x }

/-- The state with `raised` replaced. -/
def withRaised (s : State) (x : List Change) : State := { s with raised := x }

/-- The state with `freeIndex` replaced. -/
def withFreeIndex (s : State) (x : Nat) : State := { s with freeIndex := x }

/-- The state with `pending` replaced. -/
def withPending (s : State) (x : List Instr) : State := { s with pending := x }

/-- The state right after a full reset (RESETn risen, start-up done, bypass still in force) of a part whose store holds no
valid image: every table at its defaults, every block in its full-reset state, and the STORE entry of the invalid
store in the history (R190, R180; DESIGN CHOICE, log entries 10 and 11). It equals the state START_UP leaves. -/
def reset : State :=
  { power := .bypass
    ownAddress := 0xFE00
    timeCount := 0
    ring := Ring.fresh
    routes := Settings.default.routes.map Route.fresh
    points := Settings.default.points.map Point.fresh
    plant := Plant.fresh Settings.default.plant
    lanes := Settings.default.lanes.map Lane.fresh
    zones := Table.build fun z =>
      Zone.fresh (Lane.fresh (Settings.default.lanes.get (laneOf z))) (placeOf z) (Settings.default.zones.get z)
    allocator := Allocator.fresh Settings.default.allocator
    blowers := Settings.default.blowers.map Blower.fresh
    returns := Settings.default.returns.map ReturnLine.fresh
    outputs := Settings.default.outputs.map Output.fresh
    supervision := Supervision.fresh
    watches := Settings.default.watches.map Watch.fresh
    history := { entries := [{ number := 0, time := 0, event := .store 0 0 }], next := 1, frozen := false }
    management := { commit := none, generation := 0, images := Table.fill 2 none, current := none }
    raised := []
    freeIndex := 0
    pending := [] }

end State

end Sys2Proof.Machine
end

