-- ==== Sys2Proof/Machine/Operands.lean ====
section
/-! DEFINITION. The codes the ring carries, the bytes of frames, items, requests, replies and history entries, and the frame
check (chapters 1, 10 and 11). -/
namespace Sys2Proof.Machine

/-! ### Codes -/

/-- Kind codes 1 to 6 (R3). -/
def Kind.code : Kind → BitVec 4
  | .sample => 1
  | .status => 2
  | .command => 3
  | .request => 4
  | .reply => 5
  | .notice => 6

/-- The kind a code names; 0 and 7 to 15 name none (R3). -/
def Kind.ofCode (c : BitVec 4) : Option Kind :=
  match c.toNat with
  | 1 => some .sample
  | 2 => some .status
  | 3 => some .command
  | 4 => some .request
  | 5 => some .reply
  | 6 => some .notice
  | _ => none

/-- The bit of the route kind set that stands for a kind (section 2.7, field 4). -/
def Kind.bit : Kind → Nat
  | .sample => 0
  | .status => 1
  | .command => 2
  | .request => 3
  | .reply => 4
  | .notice => 5

/-- Result codes (R181). -/
def Result.code : Result → Byte
  | .ok => 0
  | .okClamped => 1
  | .badRequest => 2
  | .badIndex => 3
  | .badArgument => 4
  | .locked => 5
  | .busy => 6
  | .wrongRegime => 7
  | .notTripped => 8
  | .conditionPresent => 9
  | .notPermitted => 10
  | .storeFault => 11

/-- OK, or OK_CLAMPED when a value was brought into range. -/
def Result.done (clamped : Bool) : Result := if clamped then .okClamped else .ok

/-- A yes or a level as carried: 0 no or inactive, 1 yes or active. -/
def flagCode (b : Bool) : Int := if b then 1 else 0

/-- Regime codes (section 4.1, field 21). -/
def Regime.code : Regime → Nat
  | .offline => 0
  | .normal => 1
  | .economy => 2
  | .storm => 3
  | .tripped => 4

/-- The regime of a lane. -/
def LaneState.regime : LaneState → Regime
  | .offline => .offline
  | .normal => .normal
  | .economy _ => .economy
  | .storm => .storm
  | .tripped _ => .tripped

/-- Control mode codes (section 5.1, field 16). -/
def Mode.code : Mode → Nat
  | .doControl => 0
  | .fixedAir => 1
  | .held => 2

/-- Blower state codes (section 6.6, field 10). -/
def BlowerStatus.code : BlowerStatus → Nat
  | .unknown => 0
  | .stopped => 1
  | .starting => 2
  | .running => 3
  | .stopping => 4
  | .faulted => 5
  | .handControl => 6

/-- Return-line state codes (section 7.1, field 11). -/
def LineState.code : LineState → Nat
  | .pacing => 0
  | .heldStorm _ => 1
  | .heldStale => 2
  | .heldManual => 3
  | .stopped => 4

/-- Output state codes (section 8.1, field 9). -/
def OutputState.code : OutputState → Nat
  | .auto => 0
  | .supervised => 1

/-- Watch state codes (section 9.2, field 14). -/
def WatchState.code : WatchState → Nat
  | .off => 0
  | .waiting => 1
  | .armed => 2
  | .fired _ => 3

/-- The quality of a point (R35). -/
def PointState.quality : PointState → Quality
  | .empty => .none
  | .good _ => .good
  | .suspect _ => .suspect
  | .stale _ => .stale
  | .bad _ => .bad
  | .forced _ => .forced

/-- Quality codes (section 3.7, field 7). -/
def Quality.code : Quality → Nat
  | .none => 0
  | .good => 1
  | .suspect => 2
  | .stale => 3
  | .bad => 4
  | .forced => 5

/-- Indices 0 to 4 of the level conditions (R154). -/
def Level.index : Level → Nat
  | .airShort => 0
  | .floorShort => 1
  | .stormActive => 2
  | .supervisionLost => 3
  | .ringSilent => 4

/-- Indices 5 to 10 of the event conditions (R154). -/
def EventCondition.index : EventCondition → Nat
  | .routeRange => 5
  | .queueOverflow => 6
  | .loopCongestion => 7
  | .blowerStartFail => 8
  | .blowerTrip => 9
  | .storeFault => 10

/-- Subject codes: 0 to 127 a point, 128 to 138 an internal condition (R154). -/
def Subject.code : Subject → Nat
  | .point p => p.val
  | .level c => 128 + c.index
  | .event e => 128 + e.index

/-! ### Bytes -/

/-- A 16-bit field, most significant byte first. -/
def bytes16 (w : BitVec 16) : List Byte := [w.extractLsb' 8 8, w.extractLsb' 0 8]

/-- A three-byte field. -/
def bytesOf24 (w : BitVec 24) : List Byte := [w.extractLsb' 16 8, w.extractLsb' 8 8, w.extractLsb' 0 8]

/-- A value of three bytes, a signed two's-complement integer (R3). -/
def bytes24 (v : Int) : List Byte := bytesOf24 (BitVec.ofInt 24 v)

/-- A four-byte field, most significant byte first (R181). -/
def bytes32 (w : BitVec 32) : List Byte :=
  [w.extractLsb' 24 8, w.extractLsb' 16 8, w.extractLsb' 8 8, w.extractLsb' 0 8]

/-- A value carried in four bytes as a signed integer (section 11.2). -/
def bytesOfInt (v : Int) : List Byte := bytes32 (BitVec.ofInt 32 v)

/-- The 16-bit field of two bytes. -/
def word16 (hi lo : Byte) : BitVec 16 := hi ++ lo

/-- The signed value of three bytes (R3). -/
def int24 (a b c : Byte) : Int := (a ++ b ++ c : BitVec 24).toInt

/-- The four-byte field of four bytes. -/
def word32 (a b c d : Byte) : BitVec 32 := (a ++ b ++ c ++ d : BitVec 32)

/-! ### The frame check (R5) -/

/-- One's-complement addition of 16-bit words: a carry out of the sixteenth bit is added back. -/
def onesAdd (a b : Nat) : Nat := if a + b < 65536 then a + b else a + b - 65535

/-- The bytes as big-endian 16-bit words, an odd final byte padded with a zero byte. -/
def checkWords : List Byte → List Nat
  | [] => []
  | [a] => [a.toNat * 256]
  | a :: b :: rest => (a.toNat * 256 + b.toNat) :: checkWords rest

/-- The check over the bytes from the destination address through the last payload byte (R5). -/
def checkOf (covered : List Byte) : BitVec 16 :=
  BitVec.ofNat 16 (65535 - (checkWords covered).foldl onesAdd 0)

/-- The bytes the check covers (R3, R5). -/
def Frame.covered (f : Frame) : List Byte :=
  bytes16 f.dst ++ bytes16 f.src ++ [(f.kind ++ f.hops : BitVec 8), f.seq, BitVec.ofNat 8 f.payload.length] ++ f.payload

/-- A frame as it stands on the line: start delimiter, header, payload and check (R3, R5). -/
def Frame.wire (f : Frame) : List Byte := 0x7E :: (f.covered ++ bytes16 (checkOf f.covered))

/-- A complete frame's bytes as header, payload and received check (R3). -/
def parseFrame : List Byte → Option (Frame × BitVec 16)
  | _ :: d1 :: d0 :: s1 :: s0 :: kh :: seq :: len :: rest =>
    match rest.drop len.toNat with
    | [c1, c0] =>
      some ({ dst := word16 d1 d0, src := word16 s1 s0, kind := kh.extractLsb' 4 4, hops := kh.extractLsb' 0 4
              seq := seq, payload := rest.take len.toNat }, word16 c1 c0)
    | _ => none
  | _ => none

/-- The item size of SAMPLE, STATUS and COMMAND payloads (R3). -/
def Kind.itemSize : Kind → Option Nat
  | .sample => some 5
  | .status => some 2
  | .command => some 4
  | .request => none
  | .reply => none
  | .notice => none

/-- A SAMPLE, STATUS or COMMAND payload holds one to eight whole items; other payloads are not checked (R6, R7). -/
def Frame.itemsFit (f : Frame) : Bool :=
  match (Kind.ofCode f.kind).bind Kind.itemSize with
  | some n => f.payload.length != 0 && f.payload.length % n == 0 && decide (f.payload.length / n ≤ 8)
  | none => true

/-- The receiver after one byte: still waiting, or a frame complete (R4). -/
inductive Received where
  | waiting (bytes : List Byte)
  | complete (bytes : List Byte)
deriving DecidableEq, Repr

/-- One byte at ring-in (R4): while hunting every byte but 0x7E is ignored, a payload length above 48 discards the frame, and
the frame is complete with its second check byte. -/
def receiveByte (held : List Byte) (b : Byte) : Received :=
  match held with
  | [] => .waiting (if b == 0x7E then [b] else [])
  | _ :: _ =>
    let bytes := held ++ [b]
    match bytes[7]? with
    | none => .waiting bytes
    | some len =>
      if 48 < len.toNat then .waiting []
      else if bytes.length = 10 + len.toNat then .complete bytes
      else .waiting bytes

/-- The bytes so far of the frame in passage through the bypass, after more bytes: framed as R4 frames them, none between frames (R2; log
entry 29). -/
def passageAfter : List Byte → List Byte → List Byte
  | held, [] => held
  | held, b :: rest =>
    match receiveByte held b with
    | .waiting bytes => passageAfter bytes rest
    | .complete _ => passageAfter [] rest

/-! ### Items (R3) -/

/-- One SAMPLE item. -/
structure SampleItem where
  channel : Byte
  flags : Byte
  value : Int
deriving DecidableEq, Repr

/-- One STATUS item. -/
structure StatusItem where
  channel : Byte
  code : Byte
deriving DecidableEq, Repr

/-- One COMMAND item. -/
structure CommandItem where
  channel : Byte
  value : Int
deriving DecidableEq, Repr

/-- The items of a SAMPLE payload, in payload order. -/
def sampleItems : List Byte → List SampleItem
  | ch :: fl :: a :: b :: c :: rest => ⟨ch, fl, int24 a b c⟩ :: sampleItems rest
  | _ => []

/-- The items of a STATUS payload, in payload order. -/
def statusItems : List Byte → List StatusItem
  | ch :: code :: rest => ⟨ch, code⟩ :: statusItems rest
  | _ => []

/-- The items of a COMMAND payload, in payload order. -/
def commandItems : List Byte → List CommandItem
  | ch :: a :: b :: c :: rest => ⟨ch, int24 a b c⟩ :: commandItems rest
  | _ => []

/-- One COMMAND item as carried. -/
def CommandItem.bytes (i : CommandItem) : List Byte := i.channel :: bytes24 i.value

/-! ### Originated frames (R12) -/

/-- The kind of an originated frame. -/
def Body.kind : Body → Kind
  | .command _ _ _ => .command
  | .notice _ _ _ _ => .notice
  | .reply _ _ _ _ => .reply

/-- The payload of an originated frame (R3, R12, R166, R181). -/
def Body.payload : Body → List Byte
  | .command _ ch v => CommandItem.bytes ⟨ch, v⟩
  | .notice w subject v time => BitVec.ofNat 8 w.val :: subject :: (bytes24 v ++ bytes32 time)
  | .reply code tag result data => code :: tag :: result.code :: data

/-- The output record a queued COMMAND is recorded for (R13). -/
def Body.owner : Body → Option OutputIdx
  | .command o _ _ => o
  | .notice _ _ _ _ => none
  | .reply _ _ _ _ => none

/-- The frame the arbiter starts: own address, hops 15, the sequence counter's value (R12). -/
def Queued.frame (q : Queued) (own : Addr) (seq : Byte) : Frame :=
  { dst := q.dst, src := own, kind := q.body.kind.code, hops := 15, seq := seq, payload := q.body.payload }

/-! ### Management requests (R181) -/

/-- A management request with its arguments. -/
inductive Request where
  | readFields (table index first count : Byte)
  | writeFields (table index first : Byte) (count : Nat) (values : List Word32)
  | readStatus
  | commitStore
  | restart
  | lockRoute (entry : Byte)
  | forcePoint (point : Byte) (value : Word32)
  | releasePoint (point : Byte)
  | setRegime (lane regime : Byte)
  | restoreLane (lane : Byte)
  | acknowledge (watch : Byte)
  | releaseOutput (output : Byte)
  | refresh (seconds : Byte)
  | readHistory (count : Byte)
  | resumeCapture
deriving DecidableEq, Repr

/-- Request codes (R181). -/
def Request.code : Request → Byte
  | .readFields _ _ _ _ => 1
  | .writeFields _ _ _ _ _ => 2
  | .readStatus => 3
  | .commitStore => 4
  | .restart => 5
  | .lockRoute _ => 6
  | .forcePoint _ _ => 7
  | .releasePoint _ => 8
  | .setRegime _ _ => 9
  | .restoreLane _ => 10
  | .acknowledge _ => 11
  | .releaseOutput _ => 12
  | .refresh _ => 13
  | .readHistory _ => 14
  | .resumeCapture => 15

/-- The first `n` values of 4 bytes, when the bytes hold that many. -/
def takeWords : Nat → List Byte → Option (List Word32)
  | 0, _ => some []
  | n + 1, a :: b :: c :: d :: rest => (takeWords n rest).map (word32 a b c d :: ·)
  | _ + 1, _ => none

/-- The request a code and argument bytes spell; none for an unknown code or too few arguments (R183 steps 2 and 3).
Argument bytes beyond those needed are ignored. A WRITE_FIELDS count outside 1 to 8 needs 4 bytes only. -/
def Request.decode (code : Byte) (args : List Byte) : Option Request :=
  match code.toNat, args with
  | 1, t :: i :: f :: c :: _ => some (.readFields t i f c)
  | 2, t :: i :: f :: c :: rest =>
    if 1 ≤ c.toNat ∧ c.toNat ≤ 8 then (takeWords c.toNat rest).map (.writeFields t i f c.toNat)
    else some (.writeFields t i f c.toNat [])
  | 3, _ => some .readStatus
  | 4, _ => some .commitStore
  | 5, _ => some .restart
  | 6, e :: _ => some (.lockRoute e)
  | 7, p :: a :: b :: c :: d :: _ => some (.forcePoint p (word32 a b c d))
  | 8, p :: _ => some (.releasePoint p)
  | 9, l :: r :: _ => some (.setRegime l r)
  | 10, l :: _ => some (.restoreLane l)
  | 11, w :: _ => some (.acknowledge w)
  | 12, o :: _ => some (.releaseOutput o)
  | 13, v :: _ => some (.refresh v)
  | 14, n :: _ => some (.readHistory n)
  | 15, _ => some .resumeCapture
  | _, _ => none

/-- The argument bytes of a request, in the order and sizes of R181. -/
def Request.args : Request → List Byte
  | .readFields t i f c => [t, i, f, c]
  | .writeFields t i f n vs => [t, i, f, BitVec.ofNat 8 n] ++ vs.flatMap bytes32
  | .readStatus => []
  | .commitStore => []
  | .restart => []
  | .lockRoute e => [e]
  | .forcePoint p v => p :: bytes32 v
  | .releasePoint p => [p]
  | .setRegime l r => [l, r]
  | .restoreLane l => [l]
  | .acknowledge w => [w]
  | .releaseOutput o => [o]
  | .refresh v => [v]
  | .readHistory n => [n]
  | .resumeCapture => []

/-- The table codes of WRITE_FIELDS and READ_FIELDS (R181). -/
inductive TableName where
  | route | point | output | lane | zone | blower | returnLine | watch | plant | allocator
deriving DecidableEq, Repr

/-- Table codes 0 to 9 (R181). -/
def TableName.code : TableName → Byte
  | .route => 0
  | .point => 1
  | .output => 2
  | .lane => 3
  | .zone => 4
  | .blower => 5
  | .returnLine => 6
  | .watch => 7
  | .plant => 8
  | .allocator => 9

/-- The table a code names; codes above 9 name none (R184, R185). -/
def TableName.ofCode (c : Byte) : Option TableName :=
  match c.toNat with
  | 0 => some .route
  | 1 => some .point
  | 2 => some .output
  | 3 => some .lane
  | 4 => some .zone
  | 5 => some .blower
  | 6 => some .returnLine
  | 7 => some .watch
  | 8 => some .plant
  | 9 => some .allocator
  | _ => none

/-! ### History entries as carried (R176, section 10.5) -/

/-- The columns of an entry: kind code, subject, old state, new state and value, each present as R176 gives. -/
structure Columns where
  kind : Nat
  subject : Option Nat
  old : Option Nat
  new : Option Nat
  value : Option Int
deriving DecidableEq, Repr

/-- The code of a level in an entry: 0 inactive, 1 active (R176). -/
def levelCode (b : Bool) : Nat := if b then 1 else 0

/-- The table of R176. -/
def HistoryEvent.columns : HistoryEvent → Columns
  | .regime k o n => ⟨1, some k.val, some o.code, some n.code, none⟩
  | .zoneMode z o n => ⟨2, some z.val, some o.code, some n.code, none⟩
  | .blower b o n => ⟨3, some b.val, some o.code, some n.code, none⟩
  | .watchFired w v => ⟨4, some w.val, some 2, some 3, some v⟩
  | .trip k c => ⟨5, some k.val, none, none, some c.val⟩
  | .restore k c => ⟨6, some k.val, none, none, some c.val⟩
  | .override o x n => ⟨7, some o.val, some x.code, some n.code, none⟩
  | .supervision o n => ⟨8, some 131, some (levelCode o), some (levelCode n), none⟩
  | .condition c o n => ⟨9, some (128 + c.index), some (levelCode o), some (levelCode n), none⟩
  | .restart => ⟨10, none, none, none, none⟩
  | .store c g => ⟨11, none, none, some c, some g.toNat⟩

/-- A one-byte column; 0xFF when absent (section 10.5). -/
def columnByte : Option Nat → Byte
  | some n => BitVec.ofNat 8 n
  | none => 0xFF

/-- An entry in the 13-byte layout of section 10.5. -/
def Entry.bytes (e : Entry) : List Byte :=
  let c := e.event.columns
  bytes16 e.number ++ bytes32 e.time ++
    [BitVec.ofNat 8 c.kind, columnByte c.subject, columnByte c.old, columnByte c.new] ++
    bytes24 (c.value.getD (-8388608))

end Sys2Proof.Machine
end

