-- ==== Sys2Proof/Machine/Flags.lean ====
section
/-! DEFINITION. The standings other blocks read: usable points, level conditions, alarm lines, supervisor sources, idle zones,
zone valve outputs and blower status readings. -/
namespace Sys2Proof.Machine

/-! ### Points (R35) -/

/-- The reading a point holds, if it holds one (R35). -/
def PointState.reading : PointState → Option Reading
  | .empty => none
  | .good r => some r
  | .suspect r => some r
  | .stale r => some r
  | .bad r => r
  | .forced r => some r

/-- The filtered value of a usable point: quality GOOD, SUSPECT or FORCED (R35). -/
def PointState.usable : PointState → Option Int
  | .empty => none
  | .good r => some r.filtered
  | .suspect r => some r.filtered
  | .stale _ => none
  | .bad _ => none
  | .forced r => some r.filtered

/-- The filtered value of a named and usable point; none when the point is none or not usable. -/
def State.usable (s : State) (p : Option PointIdx) : Option Int :=
  p.bind fun i => (s.points.get i).state.usable

/-! ### Level conditions (R154) -/

/-- The level of a level condition. -/
def State.level (s : State) : Level → Bool
  | .airShort => s.allocator.airShort
  | .floorShort => s.allocator.floorShort
  | .stormActive => s.plant.storm
  | .supervisionLost => s.supervision.lost
  | .ringSilent => s.ring.silent

/-! ### Alarm lines (R171) -/

/-- The watch is FIRED. -/
def WatchState.isFired : WatchState → Bool
  | .off => false
  | .waiting => false
  | .armed => false
  | .fired _ => true

/-- NOTICE, RELAY, TRIP, WAKE and FREEZE as bits of the actions set (section 9.2, field 8). -/
def WatchConfig.doesNotice (c : WatchConfig) : Bool := c.actions.getLsbD 0
/-- RELAY is in the actions set. -/
def WatchConfig.doesRelay (c : WatchConfig) : Bool := c.actions.getLsbD 1
/-- TRIP is in the actions set. -/
def WatchConfig.doesTrip (c : WatchConfig) : Bool := c.actions.getLsbD 2
/-- WAKE is in the actions set. -/
def WatchConfig.doesWake (c : WatchConfig) : Bool := c.actions.getLsbD 3
/-- FREEZE is in the actions set. -/
def WatchConfig.doesFreeze (c : WatchConfig) : Bool := c.actions.getLsbD 4

/-- A watch holds line k while it is FIRED, its actions are armed, RELAY is in its set and its relay line is k (R171). -/
def Watch.holds (w : Watch) (k : Fin 4) : Bool :=
  w.state.isFired && w.config.armed && w.config.doesRelay && w.config.relayLine == k

/-- Alarm line ALMk is active while at least one watch holds it, once the bypass is over (R171, R190; DEDUCED, log entry 19). -/
def State.alarmLine (s : State) (k : Fin 4) : Bool :=
  s.power == .running && s.watches.rows.any (·.holds k)

/-! ### Supervisor sources (R19, R29) -/

/-- An address with its low k bits cleared. -/
def clearLow (k : Nat) (a : Addr) : Addr := (a >>> k) <<< k

/-- The address lies in the entry's block (R19). -/
def RouteConfig.covers (c : RouteConfig) (a : Addr) : Bool := clearLow c.exponent a == c.base

/-- The entry marks its block as supervisor sources (R29). -/
def RouteConfig.marks (c : RouteConfig) (a : Addr) : Bool :=
  c.valid && c.supervisor && c.matchField == .source && c.covers a

/-- The supervisor test (R29): an entry marks the address, or no valid entry has the supervisor flag set. -/
def State.isSupervisor (s : State) (a : Addr) : Bool :=
  s.routes.rows.any (·.config.marks a) || !(s.routes.rows.any fun r => r.config.valid && r.config.supervisor)

/-! ### Lanes and zones -/

/-- The zone's lane record. -/
def State.laneOfZone (s : State) (z : ZoneIdx) : Lane := s.lanes.get (laneOf z)

/-- The zone is idle (R82). -/
def State.isIdle (s : State) (z : ZoneIdx) : Bool := (s.laneOfZone z).idles (placeOf z)

/-- The lane is TRIPPED. -/
def Lane.isTripped (l : Lane) : Bool := l.state.regime == .tripped

/-- The zones of a lane, in index order (R85). -/
def zonesOf (k : LaneIdx) : List ZoneIdx := (indices 4).map (zoneAt k)

/-- The output is a zone valve output of some zone, and so of that zone's lane (R139). -/
def OutputConfig.valveLane (c : OutputConfig) : Option LaneIdx :=
  if c.kind == .zoneValve then some (laneOf c.owner) else none

/-- The output is a zone valve output of a TRIPPED lane. -/
def State.servesTripped (s : State) (c : OutputConfig) : Bool :=
  match c.valveLane with
  | some k => (s.lanes.get k).isTripped
  | none => false

/-- An output whose destination is 0 is unused (R139). -/
def OutputConfig.unused (c : OutputConfig) : Bool := c.destination == 0

/-- The output named is SUPERVISED. -/
def State.isSupervised (s : State) (o : Option OutputIdx) : Bool :=
  match o with
  | some i => (s.outputs.get i).state == .supervised
  | none => false

/-- The watch at an index is FIRED. -/
def State.isFired (s : State) (w : WatchIdx) : Bool := (s.watches.get w).state.isFired

/-- A watch's stage link is none or its stage watch is FIRED (R157, R169, R170). -/
def State.stageFired (s : State) (c : WatchConfig) : Bool :=
  match c.stage with
  | none => true
  | some j => s.isFired j

/-! ### Blower status readings (R112) -/

/-- The equipment state codes (00_scope "Quantities and units"). -/
inductive DriveReading where
  | stopped | running | fault | handControl
deriving DecidableEq, Repr

/-- A blower's status reading: the value of its status point when it is named, usable and 0 to 3 (R112). -/
def State.driveReading (s : State) (p : Option PointIdx) : Option DriveReading :=
  match p with
  | none => none
  | some i =>
    let st := (s.points.get i).state
    match st.usable, st.reading with
    | some _, some r =>
      if r.value = 0 then some .stopped
      else if r.value = 1 then some .running
      else if r.value = 2 then some .fault
      else if r.value = 3 then some .handControl
      else none
    | _, _ => none

/-- The blower is RUNNING. -/
def BlowerState.isRunning : BlowerState → Bool
  | .running _ => true
  | .unknown => false
  | .stopped => false
  | .starting _ _ => false
  | .stopping _ => false
  | .faulted => false
  | .handControl => false

/-- The blower is STARTING or STOPPING (R120). -/
def BlowerState.inTransition : BlowerState → Bool
  | .starting _ _ => true
  | .stopping _ => true
  | .unknown => false
  | .stopped => false
  | .running _ => false
  | .faulted => false
  | .handControl => false

end Sys2Proof.Machine
end

