-- ==== Sys2Proof/Machine/Ops.lean ====
section
/-! DEFINITION. The shared operations: history capture, arrivals raised to the watch unit, open orders, timers, and the ring-out
side (arbiter, transmit queue, forward buffer). -/
namespace Sys2Proof.Machine

/-! ### Timers -/

/-- An interval of seconds in tenths. -/
def tenths (seconds : Nat) : Nat := seconds * 10

/-! ### Records replaced -/

/-- One route entry replaced. -/
def State.setRoute (s : State) (i : RouteIdx) (r : Route) : State := s.withRoutes (s.routes.set i r)

/-- One point record replaced. -/
def State.setPoint (s : State) (i : PointIdx) (r : Point) : State := s.withPoints (s.points.set i r)

/-- One lane record replaced. -/
def State.setLane (s : State) (i : LaneIdx) (r : Lane) : State := s.withLanes (s.lanes.set i r)

/-- One zone record replaced. -/
def State.setZone (s : State) (i : ZoneIdx) (r : Zone) : State := s.withZones (s.zones.set i r)

/-- One blower record replaced. -/
def State.setBlower (s : State) (i : BlowerIdx) (r : Blower) : State := s.withBlowers (s.blowers.set i r)

/-- One return-line record replaced. -/
def State.setReturn (s : State) (i : LineIdx) (r : ReturnLine) : State := s.withReturns (s.returns.set i r)

/-- One output record replaced. -/
def State.setOutput (s : State) (i : OutputIdx) (r : Output) : State := s.withOutputs (s.outputs.set i r)

/-- One watch record replaced. -/
def State.setWatch (s : State) (i : WatchIdx) (r : Watch) : State := s.withWatches (s.watches.set i r)

/-! ### History capture (R175) -/

/-- One capture into the history (R175): lost when FROZEN; a full history drops its oldest entry first. -/
def History.capture (h : History) (time : BitVec 32) (e : HistoryEvent) : History :=
  if h.frozen then h
  else
    let kept := if h.entries.length < 64 then h.entries else h.entries.tail
    { h with entries := kept ++ [{ number := h.next, time := time, event := e }], next := h.next + 1 }

/-- A block captures an entry at the time count as it stands. -/
def State.capture (s : State) (e : HistoryEvent) : State := s.withHistory (s.history.capture s.timeCount e)

/-! ### Arrivals at the watch unit (R155, R160) -/

/-- A change of a condition is handed to the watch unit: it joins the arrivals that wait (DEDUCED, log entry 14). -/
def State.raise (s : State) (c : Change) : State := s.withRaised (s.raised ++ [c])

/-! ### Open orders -/

/-- One choice among `n` that the spec leaves open: settled by the free value, and only when there is something to choose
(DESIGN CHOICE, log entries 6 to 9). -/
def State.choose (s : State) (n : Nat) : Nat × State :=
  if n ≤ 1 then (0, s) else (Config.freeOrder s.freeIndex % n, s.withFreeIndex (s.freeIndex + 1))

/-! ### The ring-out arbiter (R11) -/

/-- The decision of the arbiter: which waiting frame starts on the line (R11). An originated frame takes the sequence counter's
value as it starts (R12). With nothing waiting the line stays IDLE. -/
def Ring.startNext (r : Ring) (own : Addr) : Ring :=
  match r.transmit, r.forward with
  | [], [] => { r with line := none }
  | [], f :: fs => { r with line := some f, forward := fs, runCount := 0 }
  | q :: qs, [] =>
    { r with line := some (q.frame own r.sequence), transmit := qs, runCount := 0, sequence := r.sequence + 1 }
  | q :: qs, f :: fs =>
    if r.runCount = 4 then
      { r with line := some (q.frame own r.sequence), transmit := qs, runCount := 0, sequence := r.sequence + 1 }
    else { r with line := some f, forward := fs, runCount := r.runCount + 1 }

/-- A frame joined: a decision is made when the line is IDLE (R11). -/
def Ring.arbitrate (r : Ring) (own : Addr) : Ring :=
  match r.line with
  | none => r.startNext own
  | some _ => r

/-! ### The transmit queue (R13, R14) -/

/-- The queued frame is a COMMAND recorded for the output. -/
def Queued.isOwnedBy (q : Queued) (o : OutputIdx) : Bool := q.body.owner == some o

/-- A queued COMMAND with its item value replaced (R13 case 1). -/
def Queued.withValue (q : Queued) (v : Int) : Queued :=
  match q.body with
  | .command o ch _ => { q with body := .command o ch v }
  | .notice _ _ _ _ => q
  | .reply _ _ _ _ => q

/-- A COMMAND of the output waits in the transmit queue. -/
def Ring.hasCommand (r : Ring) (o : OutputIdx) : Bool := r.transmit.any (·.isOwnedBy o)

/-- The value of the output's waiting COMMAND replaced, its place kept (R13 case 1). -/
def Ring.coalesce (r : Ring) (o : OutputIdx) (v : Int) : Ring :=
  { r with transmit := r.transmit.map fun q => if q.isOwnedBy o then q.withValue v else q }

/-- A frame joins the transmit queue at the tail (R13 case 2), and the arbiter decides when the line is IDLE (R11). -/
def Ring.join (r : Ring) (own : Addr) (q : Queued) : Ring :=
  Ring.arbitrate { r with transmit := r.transmit ++ [q] } own

/-- An offer of a frame that does not coalesce: joined and true, or dropped with QUEUE_OVERFLOW raised and false (R13, R14). -/
def State.enqueue (s : State) (q : Queued) : State × Bool :=
  if s.ring.transmit.length < 16 then (s.withRing (s.ring.join s.ownAddress q), true)
  else (s.raise (.event .queueOverflow), false)

/-- An offer of a NOTICE or MGMT_REPLY: never coalesced, lost at a full queue (R13, R14). -/
def State.send (s : State) (dst : Addr) (b : Body) : State := (s.enqueue { dst := dst, body := b }).1

/-- An offer of a COMMAND by an output record, answered as queued or dropped (R13). -/
def State.sendCommand (s : State) (o : OutputIdx) (v : Int) : State × Bool :=
  let c := (s.outputs.get o).config
  if s.ring.hasCommand o then (s.withRing (s.ring.coalesce o v), true)
  else s.enqueue { dst := c.destination, body := .command (some o) c.channel v }

/-- A configuration write detaches the output's waiting COMMAND, which goes out as built (R144). -/
def Queued.detach (o : OutputIdx) (q : Queued) : Queued :=
  match q.body with
  | .command owner ch v => if owner = some o then { q with body := .command none ch v } else q
  | .notice _ _ _ _ => q
  | .reply _ _ _ _ => q

/-- The transmit queue with the output's COMMAND detached (R144). -/
def Ring.detach (r : Ring) (o : OutputIdx) : Ring := { r with transmit := r.transmit.map (·.detach o) }

/-! ### The forward buffer (R10) -/

/-- A forwarded frame joins the forward buffer, or is lost with LOOP_CONGESTION at a full one (R10). -/
def State.forwardFrame (s : State) (f : Frame) : State :=
  if s.ring.forward.length < 4 then
    s.withRing (Ring.arbitrate { s.ring with forward := s.ring.forward ++ [f] } s.ownAddress)
  else s.raise (.event .loopCongestion)

/-- Each index in turn. -/
def State.each {α : Type} (l : List α) (f : α → State → State) (s : State) : State := l.foldl (fun s a => f a s) s

/-! ### Level conditions (R155) -/

/-- The level conditions the ring interface, the allocator and the output table own, written. STORM_ACTIVE is the storm state. -/
def State.writeLevel (s : State) (c : Level) (b : Bool) : State :=
  match c with
  | .airShort => s.withAllocator { s.allocator with airShort := b }
  | .floorShort => s.withAllocator { s.allocator with floorShort := b }
  | .stormActive => s.withPlant { s.plant with storm := b }
  | .supervisionLost => s.withSupervision { s.supervision with lost := b }
  | .ringSilent => s.withRing { s.ring with silent := b }

/-- The entry that records a change of a level: SUPERVISION for SUPERVISION_LOST, CONDITION for the others (R154). -/
def levelEntry (c : Level) (old new : Bool) : HistoryEvent :=
  match c with
  | .supervisionLost => .supervision old new
  | .airShort => .condition c old new
  | .floorShort => .condition c old new
  | .stormActive => .condition c old new
  | .ringSilent => .condition c old new

/-- An owner sets a level: a change is captured first and then handed to the watch unit; a level set again to the value it has
is no change (R155). -/
def State.setLevel (s : State) (c : Level) (b : Bool) : State :=
  if s.level c = b then s
  else ((s.writeLevel c b).capture (levelEntry c (!b) b)).raise (.level c b)

end Sys2Proof.Machine
end

