-- ==== Sys2Proof/Machine/Store.lean ====
section
/-! DEFINITION. Chapter 11: the snapshot and the two store images, the choice of the image loaded at start-up, and the state a
part takes from a store (R187, R188, R190). -/
namespace Sys2Proof.Machine

/-- The configuration in force of every table: what a commit's snapshot holds (R187). -/
def State.settings (s : State) : Settings :=
  { routes := s.routes.map (·.config)
    points := s.points.map (·.config)
    outputs := s.outputs.map (·.config)
    lanes := s.lanes.map (·.config)
    zones := s.zones.map (·.config)
    blowers := s.blowers.map (·.config)
    returns := s.returns.map (·.config)
    watches := s.watches.map (·.config)
    plant := s.plant.config
    allocator := s.allocator.config }

/-- The image a commit writes: not the valid image last completed, and image 0 when there is none (R187). -/
def Management.commitTarget (m : Management) : Fin 2 := if m.current = some 0 then 1 else 0

/-- The image being written by a commit that is abandoned fails its check (R188). -/
def Management.abandon (m : Management) : Management :=
  match m.commit with
  | none => m
  | some c => { m with commit := none, images := m.images.set c.target none }

/-- Image A is newer than image B: A's generation minus B's, modulo 65536, lies from 1 to 32767 (R190). -/
def Image.newer (a b : Image) : Bool :=
  let d := (a.generation - b.generation).toNat
  decide (1 ≤ d) && decide (d ≤ 32767)

/-- The image start-up loads, or none when neither is valid (R190 step 3). -/
def Management.chooseImage (m : Management) : Option (Fin 2 × Image) :=
  match m.images.get 0, m.images.get 1 with
  | some a, some b => if b.newer a then some (1, b) else some (0, a)
  | some a, none => some (0, a)
  | none, some b => some (1, b)
  | none, none => none

/-- Every block in its full-reset state with a configuration, the bypass still in force with what it carries (R2); the store, the waiting
commands and the settled open orders stay (R190 steps 1, 2 and 5). -/
def State.fullReset (s : State) (straps : BitVec 8) (g : Settings) : State :=
  let lanes := g.lanes.map Lane.fresh
  { power := .bypass
    ownAddress := 0xFE00 + straps.setWidth 16
    timeCount := 0
    ring := { Ring.fresh with passing := s.ring.passing, inPassage := s.ring.inPassage }
    routes := g.routes.map Route.fresh
    points := g.points.map Point.fresh
    plant := Plant.fresh g.plant
    lanes := lanes
    zones := Table.build fun z => Zone.fresh (lanes.get (laneOf z)) (placeOf z) (g.zones.get z)
    allocator := Allocator.fresh g.allocator
    blowers := g.blowers.map Blower.fresh
    returns := g.returns.map ReturnLine.fresh
    outputs := g.outputs.map Output.fresh
    supervision := Supervision.fresh
    watches := g.watches.map Watch.fresh
    history := { entries := [], next := 0, frozen := false }
    management := s.management
    raised := []
    freeIndex := s.freeIndex
    pending := s.pending }

end Sys2Proof.Machine
end

