-- ==== Sys2Proof/Machine/Outputs.lean ====
section
/-! DEFINITION. Chapter 8: offers, sending, the guard, and the changes of an output between AUTO and SUPERVISED with their
reports to the zones (R83, R84). -/
namespace Sys2Proof.Machine

/-! ### Zone mode decisions (R83, R84) -/

/-- The mode a zone decides from the state as it stands (R83). -/
def State.modeOf (s : State) (c : ZoneConfig) : Mode :=
  if s.isSupervised c.valveOutput then .held
  else if (s.usable c.doPoint).isNone then .fixedAir
  else .doControl

/-- A zone decides its mode: a change captures a ZONE_MODE entry, and a change into DO_CONTROL sets re-seed pending (R84). -/
def State.decideMode (z : ZoneIdx) (s : State) : State :=
  let zn := s.zones.get z
  let m := s.modeOf zn.config
  if zn.mode = m then s
  else (s.setZone z { zn with mode := m, reseed := zn.reseed || m == .doControl }).capture (.zoneMode z zn.mode m)

/-- The output table's report of a state change: each zone that names the output and is not idle decides its mode (R84). -/
def State.reportOutput (o : OutputIdx) (s : State) : State :=
  s.each (indices 32) fun z s =>
    if (s.zones.get z).config.valveOutput = some o ∧ s.isIdle z = false then s.decideMode z else s

/-- A change of an output's state with its OVERRIDE entry and its report (R141). -/
def State.changeOutput (o : OutputIdx) (new : OutputState) (s : State) : State :=
  let out := s.outputs.get o
  if out.state = new then s
  else ((s.setOutput o { out with state := new }).capture (.override o out.state new)).reportOutput o

/-! ### Sending and offers (R142, R143) -/

/-- The resend timer restarted with the full interval when that is not 0 (R142). -/
def Output.restartResend (out : Output) : Output :=
  if out.config.resend = 0 then out else { out with resendTimer := some (tenths out.config.resend) }

/-- To send a value: last commanded takes it, the resend timer restarts, a COMMAND is offered to the transmit queue, and the
queue's answer clears or sets unsent (R142, R143). -/
def State.sendValue (o : OutputIdx) (v : Int) (s : State) : State :=
  let s := s.setOutput o (Output.restartResend { s.outputs.get o with last := some v })
  let answer := s.sendCommand o v
  answer.1.setOutput o { answer.1.outputs.get o with unsent := !answer.2 }

/-- An ordinary offer reaches an AUTO output beyond its deadband, without a last value, or unsent (R142). -/
def Output.sends (out : Output) (v : Int) : Bool :=
  match out.last with
  | none => true
  | some l => decide (out.config.deadband ≤ (v - l).natAbs) || out.unsent

/-- A forced offer sends a value that differs; the deadband does not apply (R151). -/
def Output.sendsForced (out : Output) (v : Int) : Bool :=
  match out.last with
  | none => true
  | some l => v != l || out.unsent

/-- The value brought within the output's limits. -/
def OutputConfig.limit (c : OutputConfig) (v : Int) : Int := clampInt c.low c.high v

/-- An owner's offer (R142): ignored by an unused and by a SUPERVISED output. -/
def State.offer (o : OutputIdx) (v : Int) (s : State) : State :=
  let out := s.outputs.get o
  let w := out.config.limit v
  if out.config.unused then s
  else match out.state with
    | .supervised => s
    | .auto => if out.sends w then s.sendValue o w else s

/-- An owner's offer to an output it may not name; with none there is no offer (R79, R112, R126). -/
def State.offerTo (o : Option OutputIdx) (v : Int) (s : State) : State :=
  match o with
  | some i => s.offer i v
  | none => s

/-- A forced offer (R151, R152): ignored by an unused and by a SUPERVISED output. -/
def State.forcedOffer (o : OutputIdx) (v : Int) (s : State) : State :=
  let out := s.outputs.get o
  let w := out.config.limit v
  if out.config.unused then s
  else match out.state with
    | .supervised => s
    | .auto => if out.sendsForced w then s.sendValue o w else s

/-- The base position of a trim: the last commanded value, or the midpoint of the limits (R93, R135). -/
def Output.base (out : Output) : Int :=
  match out.last with
  | some l => l
  | none => (out.config.low + out.config.high).tdiv 2

/-- The zone valve outputs of a lane, in index order (R139). -/
def State.valvesOf (s : State) (k : LaneIdx) : List OutputIdx :=
  (indices 64).filter fun o => (s.outputs.get o).config.valveLane == some k

/-- Trip entry at the outputs: each zone valve output of the lane is released and given its trip value (R151). -/
def State.tripOutputs (k : LaneIdx) (s : State) : State :=
  s.each (s.valvesOf k) fun o s =>
    let s := s.changeOutput o .auto
    s.forcedOffer o (s.outputs.get o).config.trip

/-- OFFLINE entry at the outputs: each zone valve output of the lane is offered its low limit (R152). -/
def State.offlineOutputs (k : LaneIdx) (s : State) : State :=
  s.each (s.valvesOf k) fun o s => s.forcedOffer o (s.outputs.get o).config.low

/-! ### Resend (R145) -/

/-- The resend timer of an output expires (R145): an AUTO output sends its last commanded value again, a SUPERVISED one only
restarts the timer. -/
def State.resend (o : OutputIdx) (s : State) : State :=
  let out := s.outputs.get o
  match out.state, out.last with
  | .auto, some l => s.sendValue o l
  | .auto, none => s.setOutput o { out with resendTimer := none }
  | .supervised, _ => s.setOutput o out.restartResend

/-! ### The guard (R146) -/

/-- The output record a command item is for: the lowest-index used record with its destination and channel (R146). -/
def State.outputFor (s : State) (dst : Addr) (channel : Byte) : Option OutputIdx :=
  (indices 64).find? fun o =>
    let c := (s.outputs.get o).config
    !c.unused && c.destination == dst && c.channel == channel

/-- The guard's note of a value an actuator is given by a passing frame: last commanded, resend timer, unsent, and the value of
a waiting COMMAND (R146, cases 2 and 4). -/
def State.noteValue (o : OutputIdx) (v : Int) (s : State) : State :=
  let s := s.setOutput o (Output.restartResend { s.outputs.get o with last := some v, unsent := false })
  if s.ring.hasCommand o then s.withRing (s.ring.coalesce o v) else s

/-- One item of a guarded COMMAND frame: the state after it, and the item as it goes on, none when it is removed (R146). -/
def State.guardItem (dst src : Addr) (item : CommandItem) (s : State) : State × Option CommandItem :=
  match s.outputFor dst item.channel with
  | none => (s, some item)
  | some o =>
    let c := (s.outputs.get o).config
    if s.servesTripped c then (s.noteValue o c.trip, some { item with value := c.trip })
    else if s.isSupervisor src = false then (s, none)
    else
      let v := c.limit item.value
      let s := s.noteValue o v
      let s := if s.supervision.countdown.isSome then s.changeOutput o .supervised else s
      (s, some { item with value := v })

/-- The items of one guarded frame in payload order, with the items that remain (R146). Where the items of a frame name outputs out of index
order, the outputs change, with their OVERRIDE entries and reports, in the payload order of R146 and not in the index order of R141 (DESIGN CHOICE,
log entry 26). -/
def State.guardItems (dst src : Addr) : List CommandItem → State → State × List CommandItem
  | [], s => (s, [])
  | item :: rest, s =>
    let one := s.guardItem dst src item
    let more := one.1.guardItems dst src rest
    (more.1, one.2.toList ++ more.2)

/-! ### Configuration writes (R144) -/

/-- The output now stands for another actuator or role: last absent, unsent clear, timer stopped, the waiting COMMAND detached,
a SUPERVISED output back to AUTO (R144). -/
def State.reassignOutput (o : OutputIdx) (s : State) : State :=
  let s := s.setOutput o { s.outputs.get o with last := none, unsent := false, resendTimer := none }
  (s.withRing (s.ring.detach o)).changeOutput o .auto

/-- The limits moved past the last commanded value: the clamped value is sent at once (R144). -/
def State.reclampOutput (o : OutputIdx) (s : State) : State :=
  let out := s.outputs.get o
  match out.last with
  | none => s
  | some l => if out.config.limit l = l then s else s.sendValue o (out.config.limit l)

/-- A written resend interval: 0 stops a running timer; a non-zero one starts the stopped timer of a used output with a last
commanded value (R144). -/
def Output.rewriteResend (out : Output) : Output :=
  if out.config.resend = 0 then { out with resendTimer := none }
  else if out.config.unused = false ∧ out.resendTimer = none ∧ out.last.isSome then
    { out with resendTimer := some (tenths out.config.resend) }
  else out

/-- An accepted configuration write to an output takes effect (R140, R144). -/
def State.writeOutput (o : OutputIdx) (new : OutputConfig) (s : State) : State :=
  let old := (s.outputs.get o).config
  let s := s.setOutput o { s.outputs.get o with config := new }
  let s := if old.destination ≠ new.destination ∨ old.channel ≠ new.channel ∨ old.kind ≠ new.kind then
      s.reassignOutput o else s
  let s := if old.owner ≠ new.owner ∧ s.servesTripped new then s.changeOutput o .auto else s
  let s := if old.low ≠ new.low ∨ old.high ≠ new.high then s.reclampOutput o else s
  if old.resend ≠ new.resend then s.setOutput o (s.outputs.get o).rewriteResend else s

end Sys2Proof.Machine
end

