-- ==== Sys2Proof/Machine/Zones.lean ====
section
/-! DEFINITION. Chapter 5: the computation of a zone at its lane's period, the valve trim, and the economy cycle. -/
namespace Sys2Proof.Machine

/-! ### Demand -/

/-- A demand formed as an integer, clamped to [min air, max air]. -/
def ZoneConfig.limit (c : ZoneConfig) (u : Int) : Nat := (clampInt c.minAir c.maxAir u).toNat

/-- The integral held within ±(max air × 256) (R81, R91, R92). -/
def ZoneConfig.limitIntegral (c : ZoneConfig) (a : Int) : Int := clampInt (-(c.maxAir * 256 : Int)) (c.maxAir * 256) a

/-- A zone's demand set outside its AIR_OFF cases: off demand is cleared (R81), also where the demand of an idle zone becomes 0
(DEDUCED, log entry 16). -/
def Zone.withDemand (zn : Zone) (d : Nat) : Zone := { zn with demand := d, offDemand := false }

/-- The AIR_OFF demand: min air, with off demand set (R89, R96). -/
def Zone.airOff (zn : Zone) : Zone := { zn with demand := zn.config.minAir, offDemand := true }

/-- The AIR_ON demand: what the frozen integral stands for, without a proportional term (R96). -/
def Zone.airOn (zn : Zone) : Zone := zn.withDemand (zn.config.limit (zn.config.biasAir + zn.integral.tdiv 256))

/-! ### Setpoint and PI (R90 to R92) -/

/-- The ammonia trim of a lane: 0 without a usable ammonia point (R90). -/
def LaneConfig.trim (c : LaneConfig) (ammonia : Option Int) : Int :=
  match ammonia with
  | none => 0
  | some a => clampInt c.trimLow c.trimHigh (((a - c.ammoniaTarget) * c.trimGain).tdiv 256)

/-- The effective setpoint composed from the lane's regime (R90). TRIPPED and OFFLINE lanes do not reach this step. -/
def composeSetpoint (regime : Regime) (c : ZoneConfig) (trim : Int) : Int :=
  clampInt 200 4000 <| match regime with
    | .normal => c.baseSetpoint + trim
    | .economy => c.baseSetpoint - c.economyOffset
    | .storm => c.stormSetpoint
    | .offline => c.baseSetpoint
    | .tripped => c.baseSetpoint

/-- The error: the effective setpoint less the filtered DO clamped to [0, 20000] (R91). -/
def errorOf (setpoint filteredDo : Int) : Int := setpoint - clampInt 0 20000 filteredDo

/-- The proportional term (R91). -/
def ZoneConfig.proportional (c : ZoneConfig) (e : Int) : Int := (e * c.kp).tdiv 16000

/-- bias air + p + A / 256, the division truncating toward zero (R92). -/
def ZoneConfig.pi (c : ZoneConfig) (p a : Int) : Int := c.biasAir + p + a.tdiv 256

/-- The integral taken up without a step in the demand (R91). -/
def Zone.reseeded (zn : Zone) (p : Int) : Int :=
  zn.config.limitIntegral (((zn.demand : Int) - zn.config.biasAir - p) * 256)

/-- Integration is skipped when it would drive the demand further past a bound, or up against a cut grant (R92). -/
def Zone.integrates (zn : Zone) (e p : Int) : Bool :=
  let u0 := zn.config.pi p zn.integral
  !((decide ((zn.config.maxAir : Int) < u0) && decide (0 < e)) ||
    (decide (u0 < zn.config.minAir) && decide (e < 0)) || (zn.cut && decide (0 < e)))

/-- The integral after the computation (R91, R92); `period` is the length in seconds of the period that has just ended. -/
def Zone.nextIntegral (zn : Zone) (e p : Int) (period : Nat) : Int :=
  if zn.reseed then zn.reseeded p
  else if zn.integrates e p then zn.config.limitIntegral (zn.integral + (e * zn.config.ki * period).tdiv 1000)
  else zn.integral

/-- The PI computation of a zone from its effective setpoint and its filtered DO (R91, R92). -/
def Zone.computePi (zn : Zone) (setpoint filteredDo : Int) (period : Nat) : Zone :=
  let e := errorOf setpoint filteredDo
  let p := zn.config.proportional e
  let a := zn.nextIntegral e p period
  { zn with setpoint := setpoint, integral := a, demand := zn.config.limit (zn.config.pi p a), reseed := false
            offDemand := false }

/-! ### Valve trim (R93) -/

/-- A trim step: the gap times the gain over 1024, truncated toward zero and limited to ±rate (R93, R135). -/
def trimStep (gap gain rate : Int) : Int := clampInt (-rate) rate ((gap * gain).tdiv 1024)

/-- The step of a zone's valve: 0 without a grant or a usable airflow point (R93). -/
def State.valveStep (s : State) (zn : Zone) : Int :=
  match zn.grant, s.usable zn.config.airflowPoint with
  | some g, some flow => trimStep (g - flow) zn.config.valveGain zn.config.valveRate
  | _, _ => 0

/-- The valve offer at the end of the FIXED_AIR, AIR_OFF and DO_CONTROL branches (R93, R94). -/
def State.trimValve (z : ZoneIdx) (s : State) : State :=
  let zn := s.zones.get z
  match zn.config.valveOutput with
  | none => s
  | some o => s.offer o ((s.outputs.get o).base + s.valveStep zn)

/-! ### The computation (R85 to R89) -/

/-- The demand of the HELD branch: the air the valve passes (R87). -/
def State.heldDemand (s : State) (zn : Zone) : Nat :=
  match s.usable zn.config.airflowPoint with
  | some flow => (clampInt 0 65535 flow).toNat
  | none => zn.demand

/-- The lane is in ECONOMY with cycle phase AIR_OFF. -/
def LaneState.isAirOff : LaneState → Bool
  | .economy c => c.phase == .airOff
  | .offline => false
  | .normal => false
  | .storm => false
  | .tripped _ => false

/-- The branch of the computation after the mode decision (R85). -/
def State.computeBranch (z : ZoneIdx) (period : Nat) (s : State) : State :=
  let zn := s.zones.get z
  let l := s.laneOfZone z
  if l.isTripped then s.setZone z (zn.withDemand zn.config.tripAir)
  else match zn.mode with
    | .held => s.setZone z (zn.withDemand (s.heldDemand zn))
    | .fixedAir => (s.setZone z (zn.withDemand (clampNat zn.config.minAir zn.config.maxAir zn.config.fixedAir))).trimValve z
    | .doControl =>
      if zn.config.cyclic && l.state.isAirOff then (s.setZone z zn.airOff).trimValve z
      else
        let trim := l.config.trim (s.usable l.config.ammoniaPoint)
        let setpoint := composeSetpoint l.state.regime zn.config trim
        (s.setZone z (zn.computePi setpoint ((s.usable zn.config.doPoint).getD 0) period)).trimValve z

/-- One zone at its lane's period: an idle zone is passed over; any other decides its mode and takes its branch (R82, R83, R85). The expiry is
taken whole: no report of the output table comes between a zone's mode and its valve offer, although R94 speaks of one that does (DESIGN CHOICE,
log entry 25). -/
def State.computeZone (period : Nat) (z : ZoneIdx) (s : State) : State :=
  if s.isIdle z then s else (s.decideMode z).computeBranch z period

/-- The zones of a lane compute in index order (R85). -/
def State.computeZones (k : LaneIdx) (period : Nat) (s : State) : State := s.each (zonesOf k) (State.computeZone period)

/-! ### The economy cycle (R95 to R97) -/

/-- The on-fraction of a new cycle (R95). -/
def LaneConfig.onFraction (c : LaneConfig) (ammonia : Option Int) : Nat :=
  let raw := match ammonia with
    | none => c.baseOn
    | some a => c.baseOn + ((a - c.ammoniaTarget) * c.onSlope).tdiv 1000
  (if 64 < c.minimumOn then 64 else clampInt c.minimumOn 64 raw).toNat

/-- A cycle's first phase and its length: AIR_OFF for the whole cycle when the AIR_ON length is 0, else AIR_ON (R96). -/
def Cycle.start (onFraction length : Nat) : Cycle :=
  let on := length * onFraction / 64
  let off := length - on
  if on = 0 then { phase := .airOff, onFraction := onFraction, onLength := on, offLength := off, timer := tenths off }
  else { phase := .airOn, onFraction := onFraction, onLength := on, offLength := off, timer := tenths on }

/-- The cycle a lane starts, from its values in force (R95). Its start at the entry into ECONOMY changes no demand
(DEDUCED, log entry 15). -/
def State.newCycle (s : State) (c : LaneConfig) : Cycle :=
  Cycle.start (c.onFraction (s.usable c.ammoniaPoint)) c.cycleLength

/-- A zone follows its lane's cycle: not idle, cyclic enable yes, mode DO_CONTROL (R96). -/
def State.follows (s : State) (z : ZoneIdx) : Bool :=
  let zn := s.zones.get z
  !s.isIdle z && zn.config.cyclic && zn.mode == .doControl

/-- A change of phase at the zones that follow the cycle (R96). -/
def State.phaseChange (k : LaneIdx) (p : Phase) (s : State) : State :=
  s.each (zonesOf k) fun z s =>
    if s.follows z then
      s.setZone z (match p with
        | .airOff => (s.zones.get z).airOff
        | .airOn => (s.zones.get z).airOn)
    else s

/-- The end of a cycle: each following zone whose off demand is set takes the AIR_ON demand (R97). -/
def State.endCycle (k : LaneIdx) (s : State) : State :=
  s.each (zonesOf k) fun z s =>
    if s.follows z && (s.zones.get z).offDemand then s.setZone z (s.zones.get z).airOn else s

/-- The phase timer of a lane in ECONOMY expires: AIR_ON turns to AIR_OFF, or the cycle ends and a new one starts; a phase other
than the one just ended changes the following zones' demands (R95, R96). -/
def State.advancePhase (k : LaneIdx) (c : Cycle) (s : State) : State :=
  let next := if c.phase = .airOn ∧ c.offLength ≠ 0 then { c with phase := .airOff, timer := tenths c.offLength }
    else s.newCycle (s.lanes.get k).config
  let s := s.setLane k { s.lanes.get k with state := .economy next }
  if next.phase = c.phase then s else s.phaseChange k next.phase

/-! ### Trip, restore, idle and initial states (R82, R99 to R101) -/

/-- Each zone of a lane that is not idle, changed. -/
def State.eachWorking (k : LaneIdx) (f : Zone → Zone) (s : State) : State :=
  s.each (zonesOf k) fun z s => if s.isIdle z then s else s.setZone z (f (s.zones.get z))

/-- Trip entry at the zones: the demand becomes trip air (R99). -/
def State.tripZones (k : LaneIdx) (s : State) : State := s.eachWorking k fun zn => zn.withDemand zn.config.tripAir

/-- A restore at the zones: re-seed pending is set (R100). -/
def State.restoreZones (k : LaneIdx) (s : State) : State := s.eachWorking k fun zn => { zn with reseed := true }

/-- OFFLINE entry at the zones: each is idle with demand 0 (R101). -/
def State.offlineZones (k : LaneIdx) (s : State) : State :=
  s.each (zonesOf k) fun z s => s.setZone z ((s.zones.get z).withDemand 0)

/-- OFFLINE exit at the zones: each that stops being idle takes its initial state (R75, R82, R101). A zone beyond the zone count stays idle and
stays as it was, although R75 step 3 and R101 speak of the lane's zones (DESIGN CHOICE, log entry 28). -/
def State.initialZones (k : LaneIdx) (s : State) : State := s.eachWorking k fun zn => Zone.initial zn.config

end Sys2Proof.Machine
end

