-- ==== Sys2Proof/Machine/Allocation.lean ====
section
/-! DEFINITION. Chapter 6: the allocation of capacity among zone demands, the common speed, the blower states and staging. -/
namespace Sys2Proof.Machine

/-! ### Blower state changes (R114) -/

/-- A change of a blower's state with its BLOWER entry (R114). The timers and the stop-pending flag belong to the state, so those of
the old state end with it. -/
def State.changeBlower (b : BlowerIdx) (new : BlowerState) (s : State) : State :=
  let bl := s.blowers.get b
  (s.setBlower b { bl with state := new }).capture (.blower b bl.state.status new.status)

/-- RUNNING on entry: stop-pending is set while in service is no (R114). -/
def BlowerConfig.entersRunning (c : BlowerConfig) : BlowerState := .running (!c.inService)

/-- The run output of a blower is offered a value. -/
def State.offerRun (b : BlowerIdx) (v : Int) (s : State) : State := s.offerTo (s.blowers.get b).config.runOutput v

/-- The speed output of a blower is offered a value. -/
def State.offerSpeed (b : BlowerIdx) (v : Int) (s : State) : State := s.offerTo (s.blowers.get b).config.speedOutput v

/-- The state a drive that is not under the part's command is found in (R115: UNKNOWN, STOPPED and LOCAL). -/
def State.adopt (b : BlowerIdx) (r : DriveReading) (s : State) : State :=
  match r with
  | .stopped => s.changeBlower b .stopped
  | .running => s.changeBlower b (s.blowers.get b).config.entersRunning
  | .fault => s.changeBlower b .faulted
  | .handControl => s.changeBlower b .handControl

/-- A fault while STARTING: FAULTED, run offered 0, BLOWER_START_FAIL (R115, R117). -/
def State.failStart (b : BlowerIdx) (s : State) : State :=
  ((s.changeBlower b .faulted).offerRun b 0).raise (.event .blowerStartFail)

/-- A fault of a RUNNING blower: FAULTED, run and speed offered 0, BLOWER_TRIP (R115). -/
def State.tripRunning (b : BlowerIdx) (s : State) : State :=
  (((s.changeBlower b .faulted).offerRun b 0).offerSpeed b 0).raise (.event .blowerTrip)

/-- A fault of a STOPPING blower: FAULTED, run offered 0, BLOWER_TRIP (R115). -/
def State.tripStopping (b : BlowerIdx) (s : State) : State :=
  ((s.changeBlower b .faulted).offerRun b 0).raise (.event .blowerTrip)

/-- The review of a blower against a status reading: the table of R115. -/
def State.review (b : BlowerIdx) (r : DriveReading) (s : State) : State :=
  match (s.blowers.get b).state, r with
  | .unknown, r => s.adopt b r
  | .stopped, .stopped => s
  | .stopped, r => s.adopt b r
  | .starting _ _, .stopped => s
  | .starting none _, .running => s.changeBlower b (s.blowers.get b).config.entersRunning
  | .starting (some _) _, .running => s
  | .starting _ _, .fault => s.failStart b
  | .starting _ _, .handControl => s.changeBlower b .handControl
  | .running _, .stopped => s.tripRunning b
  | .running _, .running => s
  | .running _, .fault => s.tripRunning b
  | .running _, .handControl => s.changeBlower b .handControl
  | .stopping _, .stopped => s
  | .stopping _, .running => s
  | .stopping _, .fault => s.tripStopping b
  | .stopping _, .handControl => s.changeBlower b .handControl
  | .faulted, _ => s
  | .handControl, .handControl => s
  | .handControl, r => s.adopt b r

/-- A blower's review at an allocation; without a status reading its state stays (R112, R115). -/
def State.reviewBlower (b : BlowerIdx) (s : State) : State :=
  match s.driveReading (s.blowers.get b).config.statusPoint with
  | none => s
  | some r => s.review b r

/-! ### Sums and grants (R107 to R109) -/

/-- The zones that take part in an allocation (R107). -/
def State.takingPart (s : State) : List ZoneIdx := (indices 32).filter fun z => !s.isIdle z

/-- The floor of a zone: the smaller of its min air and its demand (R107). -/
def Zone.floor (zn : Zone) : Nat := min zn.config.minAir zn.demand

/-- D, the sum of the demands (R107). -/
def State.totalDemand (s : State) : Nat := (s.takingPart.map fun z => (s.zones.get z).demand).sum

/-- F, the sum of the floors (R107). -/
def State.totalFloor (s : State) : Nat := (s.takingPart.map fun z => (s.zones.get z).floor).sum

/-- The RUNNING blowers, in index order. -/
def State.runningBlowers (s : State) : List BlowerIdx := (indices 6).filter fun b => (s.blowers.get b).state.isRunning

/-- C, the sum of cmax over the RUNNING blowers (R107). -/
def State.capacity (s : State) : Nat := (s.runningBlowers.map fun b => (s.blowers.get b).config.cmax).sum

/-- The grant of a zone with demand d and floor fl under the sums D, C and F (R108). -/
def grantOf (D C F d fl : Nat) : Nat :=
  if D ≤ C then d
  else if F ≤ C then
    let share := (C - F) * 65536 / (D - F)
    fl + (d - fl) * share / 65536
  else fl * C / F

/-- A zone's grant and CUT as an allocation writes them (R109). -/
def Zone.granted (zn : Zone) (D C F : Nat) : Zone :=
  let g := grantOf D C F zn.demand zn.floor
  { zn with grant := some g, cut := decide (g < zn.demand) }

/-- The grants and CUTs of the taking-part zones written (R109). -/
def State.writeGrants (D C F : Nat) (s : State) : State :=
  s.each s.takingPart fun z s => s.setZone z ((s.zones.get z).granted D C F)

/-- G, the sum of the grants an allocation writes (R109). -/
def State.totalGrant (s : State) (D C F : Nat) : Nat :=
  (s.takingPart.map fun z => grantOf D C F (s.zones.get z).demand (s.zones.get z).floor).sum

/-! ### Common speed (R111) -/

/-- A quotient rounded up to the next whole number, for a divisor above 0. -/
def ceilDiv (a b : Int) : Int := -((-a) / b)

/-- The common speed for a total grant G over the sums Smin and Sspan (R111). -/
def commonSpeed (G smin span : Int) : Int :=
  if 0 < span then clampInt 0 1000 (ceilDiv ((G - smin) * 1000) span)
  else if smin < G then 1000 else 0

/-- The speed of the RUNNING blowers of the state for a total grant (R111). -/
def State.speedFor (s : State) (G : Nat) : Int :=
  let smin : Int := (s.runningBlowers.map fun b => ((s.blowers.get b).config.cmin : Int)).sum
  let span : Int :=
    (s.runningBlowers.map fun b => ((s.blowers.get b).config.cmax : Int) - (s.blowers.get b).config.cmin).sum
  commonSpeed G smin span

/-- Each RUNNING blower is offered the common speed (R106 step 6, R111), in index order, where the spec gives no order (DESIGN CHOICE, log
entry 30). -/
def State.offerCommonSpeed (G : Nat) (s : State) : State :=
  let f := s.speedFor G
  s.each s.runningBlowers fun b s => s.offerSpeed b f

/-! ### Staging (R116, R118, R120 to R122) -/

/-- Rank order: lead rank first, index among equals (R112). -/
def State.rankKey (s : State) (b : BlowerIdx) : Nat := (s.blowers.get b).config.rank.val * 6 + b.val

/-- The lowest-rank blower of a list (R112). -/
def State.lowestRank (s : State) : List BlowerIdx → Option BlowerIdx
  | [] => none
  | b :: rest =>
    match s.lowestRank rest with
    | none => some b
    | some c => if s.rankKey b ≤ s.rankKey c then some b else some c

/-- The highest-rank blower of a list (R112). -/
def State.highestRank (s : State) : List BlowerIdx → Option BlowerIdx
  | [] => none
  | b :: rest =>
    match s.highestRank rest with
    | none => some b
    | some c => if s.rankKey c ≤ s.rankKey b then some b else some c

/-- The blower staging may start: the lowest-rank one in service and STOPPED (R121). -/
def State.candidate (s : State) : Option BlowerIdx :=
  s.lowestRank ((indices 6).filter fun b => (s.blowers.get b).config.inService && (s.blowers.get b).state == .stopped)

/-- The stage counts written. -/
def State.setCounts (up down : Nat) (s : State) : State :=
  s.withAllocator { s.allocator with upCount := up, downCount := down }

/-- Staging starts a blower (R116); both counts return to 0 (R120). -/
def State.startBlower (b : BlowerIdx) (s : State) : State :=
  let c := (s.blowers.get b).config
  (((s.changeBlower b (.starting (some (tenths c.warmUp)) (tenths c.timeout))).offerSpeed b 0).offerRun b 1).setCounts 0 0

/-- Staging stops a blower (R118); both counts return to 0 (R120). -/
def State.stopBlower (b : BlowerIdx) (s : State) : State :=
  let c := (s.blowers.get b).config
  ((s.changeBlower b (.stopping (tenths c.rundown))).offerSpeed b 0).setCounts 0 0

/-- Staging up: the count after this allocation, and the blower to start (R121). -/
def State.stageUp (s : State) (D C : Nat) : Nat × Option BlowerIdx :=
  let a := s.allocator
  if C = 0 ∧ 0 < D then (0, s.candidate)
  else if C * a.config.upThreshold < D * 1000 then
    let up := min (a.upCount + 1) a.config.upDelay
    (up, if a.config.upDelay ≤ up then s.candidate else none)
  else (0, none)

/-- The blower staging down would stop when its condition holds, or none (R122 cases 2 to 4). -/
def State.surplus (s : State) (D C : Nat) : Option BlowerIdx :=
  match s.runningBlowers with
  | [] => none
  | [b] => if D = 0 then some b else none
  | bs =>
    (s.highestRank bs).bind fun l =>
      if D * 1000 < (C - (s.blowers.get l).config.cmax) * s.allocator.config.downThreshold then some l else none

/-- Staging down after staging up made no start (R122 cases 2 to 4). -/
def State.stageDown (D C up : Nat) (s : State) : State :=
  match s.surplus D C with
  | none => s.setCounts up 0
  | some l =>
    let down := s.allocator.downCount + 1
    if s.allocator.config.downDelay ≤ down then s.stopBlower l else s.setCounts up down

/-- Staging at step 7 of an allocation (R120 to R122): it waits while a blower is STARTING or STOPPING; a stop-pending blower comes
first; at most one blower is started or stopped. -/
def State.stage (D C : Nat) (s : State) : State :=
  if s.blowers.rows.any (·.state.inTransition) then s
  else
    match s.highestRank ((indices 6).filter fun b => (s.blowers.get b).state == .running true) with
    | some b => s.stopBlower b
    | none =>
      match s.stageUp D C with
      | (_, some b) => s.startBlower b
      | (up, none) => s.stageDown D C up

/-! ### The allocation (R106) -/

/-- The sums of an allocation written into the allocator record (R106). -/
def State.writeSums (D C G : Nat) (s : State) : State :=
  s.withAllocator { s.allocator with lastDemand := D, lastCapacity := C, lastGrant := G }

/-- The allocation timer restarted with the full period (R104). -/
def State.restartAllocation (s : State) : State :=
  s.withAllocator { s.allocator with timer := some (tenths s.allocator.config.period) }

/-- One allocation, steps 1 to 7 of R106; the conditions it raises wait for step 8. -/
def State.allocate (s : State) : State :=
  let s := s.restartAllocation.each (indices 6) State.reviewBlower
  let D := s.totalDemand
  let C := s.capacity
  let F := s.totalFloor
  let G := s.totalGrant D C F
  let s := (s.writeGrants D C F).writeSums D C G
  let s := (s.setLevel .airShort (decide (C < D))).setLevel .floorShort (decide (C < F))
  (s.offerCommonSpeed G).stage D C

end Sys2Proof.Machine
end

