-- ==== Sys2Proof/Machine/Lanes.lean ====
section
/-! DEFINITION. Chapter 4: regime changes, staged parameters, the lane period, storm entry and exit, trips and restores. -/
namespace Sys2Proof.Machine

/-! ### Regime changes (R54) -/

/-- The lane is in ECONOMY. -/
def LaneState.isEconomy : LaneState → Bool
  | .economy _ => true
  | .offline => false
  | .normal => false
  | .storm => false
  | .tripped _ => false

/-- The lane is in a working regime: NORMAL, ECONOMY or STORM (R69). -/
def LaneState.isWorking : LaneState → Bool
  | .normal => true
  | .economy _ => true
  | .storm => true
  | .offline => false
  | .tripped _ => false

/-- A change of a lane's regime (R54): a cycle ends as the lane leaves ECONOMY (R97), the dwell accumulator returns to 0, one REGIME
entry is captured; the cycle or the trip cause comes and goes with the regime it belongs to. -/
def State.changeRegime (k : LaneIdx) (new : LaneState) (s : State) : State :=
  let old := (s.lanes.get k).state
  let s := if old.isEconomy then s.endCycle k else s
  (s.setLane k { s.lanes.get k with state := new, dwell := 0 }).capture (.regime k old.regime new.regime)

/-- The regime a lane that starts or resumes control takes: STORM when the storm is ACTIVE, else NORMAL (R72, R73). -/
def State.controlState (s : State) : LaneState := if s.plant.storm then .storm else .normal

/-! ### Staged parameters (R55, R56) -/

/-- A zone as its lane's pending set is applied: its fields take their pending values; a zone that becomes idle has demand 0, one
that stops being idle takes its initial state (R56, R82). -/
def Zone.applied (zn : Zone) (c : ZoneConfig) (wasIdle isIdle : Bool) : Zone :=
  let zn := { zn with config := c }
  if isIdle && !wasIdle then zn.withDemand 0
  else if wasIdle && !isIdle then Zone.initial c
  else zn

/-- A lane's pending set applied whole (R56). -/
def State.applyPending (k : LaneIdx) (s : State) : State :=
  let l := s.lanes.get k
  match l.pending with
  | none => s
  | some p =>
    let new := { l with config := p.lane, pending := none }
    (s.setLane k new).each (indices 4) fun i s =>
      let z := zoneAt k i
      s.setZone z ((s.zones.get z).applied (p.zones.get i) (l.idles i) (new.idles i))

/-- A lane's period timer started with the full period in force (R57). -/
def State.startPeriod (k : LaneIdx) (s : State) : State :=
  let l := s.lanes.get k
  s.setLane k { l with timer := some (tenths l.config.period) }

/-! ### The economy dwell (R64) -/

/-- The dwell accumulator grows at a NORMAL lane's expiry when all four conditions hold (R64). -/
def State.dwells (s : State) (l : Lane) : Bool :=
  l.config.autoEconomy && !s.plant.storm &&
    match s.usable l.config.ammoniaPoint with
    | some a => decide (a ≤ l.config.enterLevel)
    | none => false

/-- The dwell evaluated at a period expiry of a NORMAL lane; at the economy dwell the lane enters ECONOMY (R64, R65). `ended` is the
length in seconds of the period that has just ended. -/
def State.evaluateDwell (k : LaneIdx) (ended : Nat) (s : State) : State :=
  let l := s.lanes.get k
  match l.state with
  | .normal =>
    if s.dwells l then
      if l.config.dwellMinutes * 60 ≤ l.dwell + ended then s.changeRegime k (.economy (s.newCycle l.config))
      else s.setLane k { l with dwell := l.dwell + ended }
    else s.setLane k { l with dwell := 0 }
  | .offline => s
  | .economy _ => s
  | .storm => s
  | .tripped _ => s

/-- A lane period expiry (R58): pending set, timer, dwell, zones. -/
def State.lanePeriod (k : LaneIdx) (s : State) : State :=
  let ended := (s.lanes.get k).config.period
  ((((s.applyPending k).startPeriod k).evaluateDwell k ended).computeZones k ended)

/-! ### OFFLINE (R74, R75) -/

/-- A lane enters OFFLINE (R74). -/
def State.enterOffline (k : LaneIdx) (s : State) : State :=
  let s := s.changeRegime k .offline
  let s := s.setLane k { s.lanes.get k with timer := none }
  (s.offlineZones k).offlineOutputs k

/-- The regime a lane leaves OFFLINE for. -/
inductive Leaving where
  | control
  | economy
deriving DecidableEq, Repr

/-- A lane leaves OFFLINE (R75): pending set, regime, zones' initial state, first cycle, period timer. -/
def State.leaveOffline (k : LaneIdx) (target : Leaving) (s : State) : State :=
  let s := s.applyPending k
  let new : LaneState := match target with
    | .control => s.controlState
    | .economy => .economy (s.newCycle (s.lanes.get k).config)
  ((s.changeRegime k new).initialZones k).startPeriod k

/-! ### Trips and restores (R69 to R72) -/

/-- One lane trips: TRIP entry, regime change, trip entry at its zones and at its valve outputs (R69, R71). -/
def State.tripLane (k : LaneIdx) (cause : WatchIdx) (s : State) : State :=
  ((((s.capture (.trip k cause)).changeRegime k (.tripped cause)).tripZones k).tripOutputs k)

/-- The trip request reaches one lane: a lane in a working regime trips, any other keeps its regime and cause (R69). -/
def State.tripIfWorking (k : LaneIdx) (cause : WatchIdx) (s : State) : State :=
  if (s.lanes.get k).state.isWorking then s.tripLane k cause else s

/-- The lane's trip group spreads trips: it is not none and its cross-trip enable is yes (R70). -/
def State.spreads (s : State) (k : LaneIdx) : Bool :=
  match (s.lanes.get k).config.tripGroup with
  | some g => s.plant.config.crossTrip.get g
  | none => false

/-- A trip request naming a lane: the named lane, then the other working lanes of its group in index order (R69, R70). -/
def State.tripRequest (k : LaneIdx) (cause : WatchIdx) (s : State) : State :=
  let s := s.tripIfWorking k cause
  if s.spreads k then
    s.each (indices 8) fun j s =>
      if j ≠ k ∧ (s.lanes.get j).config.tripGroup = (s.lanes.get k).config.tripGroup then s.tripIfWorking j cause else s
  else s

/-- An accepted restore of a lane TRIPPED by a cause: RESTORE entry, regime change, re-seed pending at its zones (R72, R100). -/
def State.restoreFrom (k : LaneIdx) (cause : WatchIdx) (s : State) : State :=
  let s := s.capture (.restore k cause)
  (s.changeRegime k s.controlState).restoreZones k

/-! ### Storm (R60 to R63) -/

/-- A lane's regime after the storm becomes ACTIVE or INACTIVE; none when the lane keeps its regime (R63). -/
def LaneState.afterStorm (active : Bool) : LaneState → Option LaneState
  | .normal => if active then some .storm else none
  | .economy _ => if active then some .storm else none
  | .storm => if active then none else some .normal
  | .offline => none
  | .tripped _ => none

/-- A storm entry or exit as one event (R63): the CONDITION entry, the lanes in index order, then the hand-over of STORM_ACTIVE. -/
def State.changeStorm (active : Bool) (s : State) : State :=
  let s := (s.writeLevel .stormActive active).capture (levelEntry .stormActive (!active) active)
  let s := s.each (indices 8) fun k s =>
    match (s.lanes.get k).state.afterStorm active with
    | some new => s.changeRegime k new
    | none => s
  s.raise (.level .stormActive active)

end Sys2Proof.Machine
end

