-- ==== Sys2Proof/Machine/Watches.lean ====
section
/-! DEFINITION. Chapter 9: evaluation, counting, stage links, firing and actions, and the arrivals that wait at the watch unit. -/
namespace Sys2Proof.Machine

/-! ### Truth (R161, R162) -/

/-- The subject an arrival changes. -/
def Change.subject : Change → Subject
  | .point p => .point p
  | .level c _ => .level c
  | .event e => .event e

/-- The truth of a value test for a filtered value, from the last truth (R161). A true clause goes before a false one. -/
def WatchConfig.valueTruth (c : WatchConfig) (v : Int) (last : Bool) : Bool :=
  match c.test with
  | .above => if c.high ≤ v then true else if v ≤ c.high - c.hysteresis then false else last
  | .below => if v ≤ c.low then true else if c.low + c.hysteresis ≤ v then false else last
  | .outside =>
    if c.high ≤ v ∨ v ≤ c.low then true
    else if c.low + c.hysteresis ≤ v ∧ v ≤ c.high - c.hysteresis then false
    else last
  | .unusable => last
  | .active => last

/-- The answer of a watch to a change of its subject: the truth it forms and the value it would report, or none when it does not
evaluate (R161, R162, R165 step 2). -/
def State.answer (s : State) (w : Watch) (ch : Change) : Option (Bool × Int) :=
  match ch with
  | .point p =>
    let st := (s.points.get p).state
    match w.config.test with
    | .unusable => some (st.usable.isNone, (st.quality.code : Int))
    | .active => none
    | .above => st.usable.map fun v => (w.config.valueTruth v w.truth, v)
    | .below => st.usable.map fun v => (w.config.valueTruth v w.truth, v)
    | .outside => st.usable.map fun v => (w.config.valueTruth v w.truth, v)
  | .level _ b => if w.config.test = .active then some (b, 1) else none
  | .event _ => if w.config.test = .active then some (true, 1) else none

/-! ### Stage links (R164) -/

/-- A watch linked to one that enters FIRED: WAITING becomes ARMED with a full count (R164). -/
def Watch.armBy (w : Watch) (j : WatchIdx) : Watch :=
  if w.config.stage = some j ∧ w.state = .waiting then { w with state := .armed, count := w.config.persistence - 1 } else w

/-- A watch linked to one that leaves FIRED: ARMED returns to WAITING with a full count (R164). -/
def Watch.disarmBy (w : Watch) (j : WatchIdx) : Watch :=
  if w.config.stage = some j ∧ w.state = .armed then { w with state := .waiting, count := w.config.persistence - 1 } else w

/-- The watches linked to one that enters FIRED (R164). -/
def State.armLinked (j : WatchIdx) (s : State) : State := s.withWatches (s.watches.map (·.armBy j))

/-- The watches linked to one that leaves FIRED (R164). -/
def State.disarmLinked (j : WatchIdx) (s : State) : State := s.withWatches (s.watches.map (·.disarmBy j))

/-! ### Firing (R165 to R168) -/

/-- The NOTICE action: one frame to the notice address, none when that is 0 (R166). -/
def State.sendNotice (w : WatchIdx) (value : Int) (s : State) : State :=
  let addr := s.plant.config.noticeAddress
  if addr = 0 then s
  else s.send addr (.notice w (BitVec.ofNat 8 (s.watches.get w).config.subject.code) value s.timeCount)

/-- History capture freezes (R177). -/
def State.freeze (s : State) : State := s.withHistory { s.history with frozen := true }

/-- A fired watch's hold timer, running only with rearm AUTO (R165 step 4). -/
def WatchConfig.holdTimer (c : WatchConfig) : Option Nat :=
  match c.rearm with
  | .auto => some (tenths c.hold)
  | .manual => none

/-- The TRIP action sends a trip request for the target lane with this watch as cause (R167). -/
def State.actTrip (w : WatchIdx) (c : WatchConfig) (s : State) : State :=
  if c.armed && c.doesTrip then s.tripRequest c.targetLane w else s

/-- The NOTICE action of an armed firing (R165 step 3). -/
def State.actNotice (w : WatchIdx) (c : WatchConfig) (value : Int) (s : State) : State :=
  if c.armed && c.doesNotice then s.sendNotice w value else s

/-- The FREEZE action of an armed firing (R165 step 6). -/
def State.actFreeze (c : WatchConfig) (s : State) : State := if c.armed && c.doesFreeze then s.freeze else s

/-- Whether the WAKE action finds its target lane in ECONOMY (R167, R68). -/
def State.wakesLane (s : State) (c : WatchConfig) : Bool :=
  c.armed && c.doesWake && (s.lanes.get c.targetLane).state.isEconomy

/-- Steps 3 (WAKE) to 6 of a firing (R165). The woken lane's allocation request may be taken before or after this firing's freeze
(R168): the order is open (free value, DESIGN CHOICE, log entry 7). With or without FREEZE the allocation is taken within the firing,
so before a later watch is evaluated at the same change and before that watch freezes: R168 and R177 leave that order open too
(DESIGN CHOICE, log entry 33). -/
def State.actWakeAndFreeze (w : WatchIdx) (c : WatchConfig) (s : State) : State :=
  if s.wakesLane c then
    let s := s.changeRegime c.targetLane .normal
    let pick := if c.doesFreeze then s.choose 2 else (0, s)
    if pick.1 = 0 then (pick.2.allocate.armLinked w).actFreeze c
    else ((pick.2.armLinked w).actFreeze c).allocate
  else (s.armLinked w).actFreeze c

/-- A watch fires (R165). The RELAY action needs no step of its own: the line follows the FIRED watches (R171). -/
def State.fire (w : WatchIdx) (value : Int) (s : State) : State :=
  let old := s.watches.get w
  let c := old.config
  let s := s.setWatch w { old with state := .fired c.holdTimer, occurrence := true }
  let s := s.capture (.watchFired w value)
  ((s.actNotice w c value).actTrip w c).actWakeAndFreeze w c

/-! ### Evaluation (R160, R163) -/

/-- A truth counted in ARMED (R163). -/
def State.count (w : WatchIdx) (truth : Bool) (value : Int) (s : State) : State :=
  let x := s.watches.get w
  if truth then
    if x.count = 0 then s.fire w value else s.setWatch w { x with count := x.count - 1 }
  else s.setWatch w { x with count := x.config.persistence - 1 }

/-- One watch's evaluation of one arrival (R160 to R163). -/
def State.evaluateWatch (ch : Change) (w : WatchIdx) (s : State) : State :=
  let x := s.watches.get w
  if x.state = .off ∨ x.config.subject ≠ ch.subject then s
  else match s.answer x ch with
    | none => s
    | some (truth, value) =>
      let s := s.setWatch w { x with truth := truth }
      if x.state = .armed then s.count w truth value else s

/-- Every watch evaluates one arrival, in index order (R160). -/
def State.evaluate (ch : Change) (s : State) : State := s.each (indices 32) (State.evaluateWatch ch)

/-- The arrivals that wait are taken in the order they arrived; those an evaluation causes are taken after it (R160). Each round
takes what the round before it raised. Only a firing raises anything and a watch that fired stays FIRED, so 33 rounds take them all
(DEDUCED, log entry 24). -/
def State.drainRounds : Nat → State → State
  | 0, s => s
  | n + 1, s =>
    match s.raised with
    | [] => s
    | arrivals => State.drainRounds n ((s.withRaised []).each arrivals State.evaluate)

/-- The watch unit takes every arrival that waits (R160). -/
def State.drain (s : State) : State := s.drainRounds 33

/-! ### Rearm (R169, R170) -/

/-- A watch leaves FIRED for ARMED or WAITING, and its linked watches follow (R164, R169, R170). -/
def State.rearm (w : WatchIdx) (x : Watch) (s : State) : State :=
  (s.setWatch w { x with state := if s.stageFired x.config then .armed else .waiting }).disarmLinked w

/-- The hold timer of a FIRED watch expires: its count and its occurrence flag stay as they are (R169). -/
def State.holdExpires (w : WatchIdx) (s : State) : State := s.rearm w (s.watches.get w)

/-- ACKNOWLEDGE of a watch (R170). -/
def State.acknowledgeWatch (w : WatchIdx) (s : State) : State :=
  let x := s.watches.get w
  if x.state.isFired then s.rearm w { x with count := x.config.persistence - 1, occurrence := false }
  else s.setWatch w { x with occurrence := false }

end Sys2Proof.Machine
end

