-- ==== Sys2Proof/Machine/Resets.lean ====
section
/-! DEFINITION. The fall of RESETn, start-up, the end of the bypass, and the warm restart of every block (R2, R17, R34, R51, R57,
R78, R102, R104, R125, R128, R138, R153, R174, R189, R190). -/
namespace Sys2Proof.Machine

/-- The frame in passage as RESETn falls: the rest of a frame the part was receiving now passes, and one that was passing goes on (R2;
DEDUCED, log entry 29). -/
def State.passageAtReset (s : State) : List Byte :=
  match s.power with
  | .running => s.ring.received
  | .resetLow => s.ring.inPassage
  | .bypass => s.ring.inPassage

/-- RESETn falls (R2, R190): the frame on the line and the frame being received are lost, buffer and queue are emptied, the
bypass is made (one in force stays, with what it carries), a commit in flight is abandoned. What start-up replaces
is kept until then (DESIGN CHOICE, log entry 13). -/
def State.assertReset (s : State) : State :=
  let r := { s.ring with received := [], inPassage := s.passageAtReset, forward := [], transmit := [], line := none }
  ((s.withPower .resetLow).withRing r).withManagement s.management.abandon

/-- Start-up with an image (R190 step 3). -/
def State.startFrom (i : Fin 2) (image : Image) (straps : BitVec 8) (s : State) : State :=
  (s.fullReset straps image.settings).withManagement
    { s.management with commit := none, generation := image.generation, current := some i }

/-- Start-up with no valid image: the defaults, then the STORE entry and STORE_FAULT (R190 steps 4 and 6). -/
def State.startDefault (straps : BitVec 8) (s : State) : State :=
  let s := (s.fullReset straps Settings.default).withManagement
    { s.management with commit := none, generation := 0, current := none }
  ((s.capture (.store 0 0)).raise (.event .storeFault)).drain

/-- RESETn rises and start-up runs (R190). A commit in flight at a power-up is abandoned first (DESIGN CHOICE, log entry 12). -/
def State.startUp (straps : BitVec 8) (s : State) : State :=
  let s := s.withManagement s.management.abandon
  match s.management.chooseImage with
  | some (i, image) => s.startFrom i image straps
  | none => s.startDefault straps

/-- A lane's period timer started with its full period, stopped in OFFLINE (R57). -/
def Lane.startTimer (l : Lane) : Lane :=
  { l with timer := if l.state = .offline then none else some (tenths l.config.period) }

/-- A return line's pacing timer started with its full period (R128). -/
def ReturnLine.startTimer (l : ReturnLine) : ReturnLine := { l with timer := some (tenths l.config.period) }

/-- The ring-silence timer started with the plant record's ring-silence time (R15). -/
def State.startSilence (s : State) : State :=
  s.withRing { s.ring with silence := some (tenths s.plant.config.silenceTime) }

/-- The bypass ends (R2, R57, R104, R128): nothing passes any more, the part receives, and its timers start. -/
def State.startReceiving (s : State) : State :=
  let s := ((s.withPower .running).withRing { s.ring with passing := [] }).startSilence
  let s := s.withLanes (s.lanes.map Lane.startTimer)
  s.restartAllocation.withReturns (s.returns.map ReturnLine.startTimer)

/-- The first idle line after start-up (R2): the bypass ends, but never in the middle of a frame, where the line is not idle and the bypass stays
in force (log entry 29). -/
def State.endBypass (s : State) : State :=
  match s.power with
  | .bypass => if s.ring.inPassage = [] then s.startReceiving else s
  | .resetLow => s
  | .running => s

/-! ### Warm restart (R189) -/

/-- The ring interface (R17). -/
def Ring.restart (r : Ring) : Ring := { r with forward := [], transmit := [], runCount := 0 }

/-- A lane (R78). -/
def Lane.restart (l : Lane) : Lane :=
  let state := match l.state with
    | .tripped w => .tripped w
    | .offline => l.config.startState
    | .normal => l.config.startState
    | .economy _ => l.config.startState
    | .storm => l.config.startState
  Lane.startTimer { l with state := state, dwell := 0, pending := none }

/-- The allocator (R125). -/
def Allocator.restart (a : Allocator) : Allocator :=
  { a with upCount := 0, downCount := 0, timer := some (tenths a.config.period), airShort := false, floorShort := false }

/-- An output, given whether the restart emptied its COMMAND (R153). -/
def Output.restart (o : Output) (emptied : Bool) : Output :=
  { o with state := .auto, unsent := emptied
           resendTimer := if o.last.isSome ∧ o.config.resend ≠ 0 then some (tenths o.config.resend) else none }

/-- A watch (R174). -/
def State.restartWatch (s : State) (w : Watch) : Watch :=
  if w.state.isFired then w
  else { w with state := w.config.rest (s.stageFired w.config), count := w.config.persistence - 1, truth := false }

/-- The ring interface and the outputs it empties commands of (R17, R153, R189 step 1). -/
def State.restartRingAndOutputs (s : State) : State :=
  let outputs := Table.build fun o => (s.outputs.get o).restart (s.ring.hasCommand o)
  (s.withOutputs outputs).withRing s.ring.restart

/-- The other blocks take their warm-restart state (R189 step 2). -/
def State.restartBlocks (s : State) : State :=
  let lanes := s.lanes.map Lane.restart
  let s := s.withRoutes (s.routes.map fun r => { r with hit := false })
  let s := s.withPoints (s.points.map fun p => Point.fresh p.config)
  let s := (s.withLanes lanes).withPlant (Plant.fresh s.plant.config)
  let s := s.withZones (Table.build fun z => Zone.fresh (lanes.get (laneOf z)) (placeOf z) (s.zones.get z).config)
  let s := s.withAllocator s.allocator.restart
  let s := s.withReturns (s.returns.map fun r => (ReturnLine.fresh r.config).startTimer)
  (s.withSupervision Supervision.fresh).withWatches (s.watches.map s.restartWatch)

/-- The part takes its warm-restart state, up to the RESTART entry (R189 steps 1 to 3). -/
def State.warmRestart (s : State) : State := (s.restartRingAndOutputs.restartBlocks).capture .restart

end Sys2Proof.Machine
end

