-- ==== Sys2Proof/Machine/Points.lean ====
section
/-! DEFINITION. Chapter 3: taking an item, the filter, quality, ageing and forcing, and the hand-over of update events to storm
detection, the wake checks and the watches (R45, R60, R61, R66, R67). -/
namespace Sys2Proof.Machine

/-! ### Storm detection and wake checks (R60, R61, R66 to R68) -/

/-- Storm detection at a usable update of the influent point with a filtered value (R60, R61). -/
def State.detectStorm (v : Int) (s : State) : State :=
  let c := s.plant.config
  if s.plant.storm then
    if v ≤ c.exitLevel then
      match s.plant.exitHold with
      | none => s.withPlant { s.plant with exitHold := some (tenths c.stormHold) }
      | some _ => s
    else s.withPlant { s.plant with exitHold := none }
  else if c.enterLevel ≤ v then (s.changeStorm true).drain
  else s

/-- A lane wakes from ECONOMY: NORMAL, the cycle ended, then one allocation run at once and its conditions handed over (R68, R105, R106). -/
def State.wakeLane (k : LaneIdx) (s : State) : State := ((s.changeRegime k .normal).allocate).drain

/-- A lane in ECONOMY whose wake mask includes AMMONIA and whose ammonia point is p (R66). -/
def Lane.wakesByAmmonia (l : Lane) (p : PointIdx) : Bool :=
  l.state.isEconomy && l.config.wakeMask.getLsbD 0 && l.config.ammoniaPoint == some p

/-- A lane in ECONOMY whose wake mask includes INFLUENT (R67). -/
def Lane.wakesByInfluent (l : Lane) : Bool := l.state.isEconomy && l.config.wakeMask.getLsbD 1

/-- The ammonia wake checks at a usable update, lanes in index order (R66). -/
def State.checkAmmonia (p : PointIdx) (v : Int) (s : State) : State :=
  s.each (indices 8) fun k s =>
    let l := s.lanes.get k
    if l.wakesByAmmonia p && decide (l.config.wakeAmmonia ≤ v) then s.wakeLane k else s

/-- The influent wake checks at a usable update, lanes in index order; each woken lane's allocation runs before the next lane is
checked (R67). -/
def State.checkInfluent (v : Int) (s : State) : State :=
  s.each (indices 8) fun k s =>
    let l := s.lanes.get k
    if l.wakesByInfluent && decide (l.config.wakeInfluent ≤ v) then s.wakeLane k else s

/-! ### Update events (R44, R45) -/

/-- The dependants of a point (R45). -/
inductive Dependant where
  | watches | storm | influentWake | ammoniaWake
deriving DecidableEq, Repr

/-- The dependants an update event of the point concerns as the state stands. The storm and wake checks act only on a usable point. -/
def State.dependants (s : State) (p : PointIdx) : List Dependant :=
  let usable := (s.points.get p).state.usable.isSome
  let influent := s.plant.config.influentPoint == some p
  (if s.watches.rows.any (fun w => w.state != .off && w.config.subject == .point p) then [.watches] else []) ++
  (if influent && usable then [.storm] else []) ++
  (if influent && usable && s.lanes.rows.any (·.wakesByInfluent) then [.influentWake] else []) ++
  (if usable && s.lanes.rows.any (·.wakesByAmmonia p) then [.ammoniaWake] else [])

/-- One dependant takes the update event whole; the watch unit also takes what its evaluations raised (R45, R160). -/
def State.takeUpdate (p : PointIdx) (d : Dependant) (s : State) : State :=
  let v := (s.points.get p).state.usable
  match d, v with
  | .watches, _ => (s.evaluate (.point p)).drain
  | .storm, some v => s.detectStorm v
  | .influentWake, some v => s.checkInfluent v
  | .ammoniaWake, some v => s.checkAmmonia p v
  | .storm, none => s
  | .influentWake, none => s
  | .ammoniaWake, none => s

/-- The dependants take the event one after another in an order the spec leaves open (R45, R67; DESIGN CHOICE, log entry 6). -/
def State.takeUpdates (p : PointIdx) : Nat → List Dependant → State → State
  | 0, _, s => s
  | n + 1, ds, s =>
    let pick := s.choose ds.length
    match ds[pick.1]? with
    | none => s
    | some d => State.takeUpdates p n (ds.eraseIdx pick.1) (pick.2.takeUpdate p d)

/-- An update event of a point, handed to its dependants (R45). -/
def State.updateEvent (p : PointIdx) (s : State) : State :=
  let ds := s.dependants p
  s.takeUpdates p ds.length ds

/-! ### Readings and the filter (R38, R39) -/

/-- The filtered value a new reading goes on from; none when the filter is re-seeded: NONE, STALE and BAD (R39). -/
def PointState.filterFrom : PointState → Option Int
  | .empty => none
  | .good r => some r.filtered
  | .suspect r => some r.filtered
  | .stale _ => none
  | .bad _ => none
  | .forced _ => none

/-- The filtered value after a reading; the division floors toward negative infinity (R36, R39). -/
def Point.filter (pt : Point) (v : Int) : Int :=
  if pt.config.kind = .equipment then v
  else match pt.state.filterFrom with
    | some old => old + (v - old).fdiv (2 ^ pt.config.shift)
    | none => v

/-- The age timer restarted with the full age limit; with a limit of 0 it is not started (R43). -/
def PointConfig.startAge (c : PointConfig) : Option Nat := if c.ageLimit = 0 then none else some c.ageLimit

/-- A reading taken (R38). -/
def Point.takeReading (pt : Point) (raw : Int) (overrange : Bool) : Point :=
  let v := clampInt pt.config.low pt.config.high raw
  let r : Reading := { value := v, filtered := pt.filter v }
  { pt with state := if v ≠ raw ∨ overrange then .suspect r else .good r, age := pt.config.startAge }

/-- A CALIBRATING item (R40): it leaves a NONE point NONE, with the last sequence `Point.take` has written (DESIGN CHOICE, log entry 32). -/
def Point.takeCalibrating (pt : Point) : Point :=
  match pt.state with
  | .good r => { pt with state := .suspect r }
  | .empty => pt
  | .suspect _ => pt
  | .stale _ => pt
  | .bad _ => pt
  | .forced _ => pt

/-- A FAULT item, or a STATUS item with a code from 4 to 255: BAD, the value held (R41, R42). -/
def Point.takeFault (pt : Point) : Point := { pt with state := .bad pt.state.reading }

/-- An accepted SAMPLE item by its instrument flags: bit 0 FAULT, bit 1 CALIBRATING, bit 2 OVERRANGE (R3, R37). -/
def Point.takeSample (pt : Point) (flags : Byte) (value : Int) : Point :=
  if flags.getLsbD 0 then pt.takeFault
  else if flags.getLsbD 1 then pt.takeCalibrating
  else pt.takeReading value (flags.getLsbD 2)

/-- An accepted STATUS item (R42). -/
def Point.takeStatus (pt : Point) (code : Byte) : Point :=
  if code.toNat ≤ 3 then
    { pt with state := .good { value := code.toNat, filtered := code.toNat }, age := pt.config.startAge }
  else pt.takeFault

/-- An arrival is accepted unless it is a repeat or the point is FORCED (R37). -/
def Point.accepts (pt : Point) (seq : Byte) : Bool :=
  !(pt.lastSeq == some seq) && !(pt.state.quality == .forced)

/-- What a hand-over carries besides the sequence number (R27). -/
inductive ItemValue where
  | sample (flags : Byte) (value : Int)
  | status (code : Byte)
deriving DecidableEq, Repr

/-- The point after an accepted item (R37). Every accepted item updates the last sequence, also a CALIBRATING one that leaves the point NONE (R37,
R40), although R35 has it absent in NONE (DESIGN CHOICE, log entry 32). -/
def Point.take (pt : Point) (seq : Byte) (i : ItemValue) : Point :=
  let pt := { pt with lastSeq := some seq }
  match i with
  | .sample flags value => pt.takeSample flags value
  | .status code => pt.takeStatus code

/-- One arrival at a point (R37): ignored, or taken with its update event. -/
def State.arriveAtPoint (p : PointIdx) (seq : Byte) (i : ItemValue) (s : State) : State :=
  let pt := s.points.get p
  if pt.accepts seq then (s.setPoint p (pt.take seq i)).updateEvent p else s

/-! ### Ageing, forcing, release, configuration (R43, R46 to R48) -/

/-- The age timer of a point expires (R43). -/
def State.agePoint (p : PointIdx) (s : State) : State :=
  let pt := { s.points.get p with age := none }
  match pt.state with
  | .good r => (s.setPoint p { pt with state := .stale r }).updateEvent p
  | .suspect r => (s.setPoint p { pt with state := .stale r }).updateEvent p
  | .empty => s.setPoint p pt
  | .stale _ => s.setPoint p pt
  | .bad _ => s.setPoint p pt
  | .forced _ => s.setPoint p pt

/-- FORCE_POINT on a point (R46). -/
def State.force (p : PointIdx) (raw : Int) (s : State) : State :=
  let pt := s.points.get p
  let v := clampInt pt.config.low pt.config.high raw
  (s.setPoint p { pt with state := .forced { value := v, filtered := v }, age := none }).updateEvent p

/-- RELEASE_POINT on a point (R47). -/
def State.release (p : PointIdx) (s : State) : State :=
  let pt := s.points.get p
  if pt.state.quality = .forced then (s.setPoint p (Point.fresh pt.config)).updateEvent p else s

/-- An accepted configuration write returns the point to NONE, an update event if its quality was not NONE (R44, R48). -/
def State.writePoint (p : PointIdx) (c : PointConfig) (s : State) : State :=
  let pt := s.points.get p
  let s := s.setPoint p (Point.fresh c)
  if pt.state.quality = .none then s else s.updateEvent p

end Sys2Proof.Machine
end

