-- ==== Sys2Proof/Machine/Routes.lean ====
section
/-! DEFINITION. Chapter 2: lookup, the dispositions, the mapping of items to points, and locks. -/
namespace Sys2Proof.Machine

/-! ### Lookup (R20 to R22) -/

/-- The address of a frame that the entry's match field names (R20). -/
def RouteConfig.address (c : RouteConfig) (f : Frame) : Addr :=
  match c.matchField with
  | .source => f.src
  | .destination => f.dst

/-- A valid entry matches a frame of a kind (R20). -/
def RouteConfig.claims (c : RouteConfig) (k : Kind) (f : Frame) : Bool :=
  c.valid && c.kinds.getLsbD k.bit && c.covers (c.address f)

/-- The deciding entry: the first in index order that matches (R21). -/
def State.lookup (s : State) (k : Kind) (f : Frame) : Option RouteIdx :=
  (indices 64).find? fun i => (s.routes.get i).config.claims k f

/-- The deciding entry's hit flag set (R22). -/
def State.markHit (i : RouteIdx) (s : State) : State := s.setRoute i { s.routes.get i with hit := true }

/-! ### From item to point (R25 to R27) -/

/-- The point index of an item from the address matched and its channel (R25). -/
def RouteConfig.pointIndex (c : RouteConfig) (a : Addr) (channel : Byte) : Nat :=
  c.pointBase + (a.toNat - c.base.toNat) * c.channels + channel.toNat

/-- The point an item is for; none when the item is skipped (R26). -/
def RouteConfig.pointFor (c : RouteConfig) (a : Addr) (channel : Byte) : Option PointIdx :=
  if h : channel.toNat < c.channels ∧ c.pointIndex a channel < 128 then some ⟨c.pointIndex a channel, h.2⟩ else none

/-- One item in its place in the payload order: handed to its point, or skipped with one ROUTE_RANGE (R26, R27). -/
def State.handOver (c : RouteConfig) (a : Addr) (seq channel : Byte) (i : ItemValue) (s : State) : State :=
  match c.pointFor a channel with
  | some p => s.arriveAtPoint p seq i
  | none => (s.raise (.event .routeRange)).drain

/-- The items of a SAMPLE or STATUS frame acted on, in payload order; other kinds are not acted on (R24, R27). -/
def State.takeItems (c : RouteConfig) (k : Kind) (f : Frame) (s : State) : State :=
  let a := c.address f
  match k with
  | .sample => s.each (sampleItems f.payload) fun i s => s.handOver c a f.seq i.channel (.sample i.flags i.value)
  | .status => s.each (statusItems f.payload) fun i s => s.handOver c a f.seq i.channel (.status i.code)
  | .command => s
  | .request => s
  | .reply => s
  | .notice => s

/-! ### Dispositions (R23, R24, R28) -/

/-- A frame with the items the guard left as its payload; removed when none remain (R28). -/
def Frame.withItems (f : Frame) (items : List CommandItem) : Option Frame :=
  if items.isEmpty then none else some { f with payload := items.flatMap CommandItem.bytes }

/-- A frame decided by GUARD: a COMMAND's items go to the guard, any other kind is handled as under PASS (R28). -/
def State.guardFrame (k : Kind) (f : Frame) (s : State) : State × Option Frame :=
  match k with
  | .command =>
    let r := s.guardItems f.dst f.src (commandItems f.payload)
    (r.1, f.withItems r.2)
  | .sample => (s, some f)
  | .status => (s, some f)
  | .request => (s, some f)
  | .reply => (s, some f)
  | .notice => (s, some f)

/-- The disposition of a deciding entry carried out: the state, and the frame to go on, none when it is removed. -/
def State.dispose (c : RouteConfig) (k : Kind) (f : Frame) (s : State) : State × Option Frame :=
  match c.disposition with
  | .pass => (s, some f)
  | .observe => (s.takeItems c k f, some f)
  | .consume => (s.takeItems c k f, none)
  | .guard => s.guardFrame k f
  | .discard => (s, none)

/-- What the route table does with a frame (R21 to R28). A frame no entry matches, and a frame of no kind of the layout, passes. -/
def State.route (f : Frame) (s : State) : State × Option Frame :=
  match Kind.ofCode f.kind with
  | none => (s, some f)
  | some k =>
    match s.lookup k f with
    | none => (s, some f)
    | some i => (s.markHit i).dispose (s.routes.get i).config k f

end Sys2Proof.Machine
end

