-- ==== Sys2Proof/Machine/Returns.lean ====
section
/-! DEFINITION. Chapter 7: one pacing of a return line. -/
namespace Sys2Proof.Machine

/-- A target held within [min flow, max flow] (R126). -/
def ReturnConfig.limit (c : ReturnConfig) (t : Nat) : Nat := clampNat c.minFlow c.maxFlow t

/-- A lane counts in the weights: NORMAL, ECONOMY, STORM or TRIPPED (R131). -/
def Lane.counts (l : Lane) : Bool := l.state.regime != .offline

/-- The plant weight (R131). -/
def State.plantWeight (s : State) : Nat := ((s.lanes.rows.filter (·.counts)).map (·.config.influentWeight)).sum

/-- The line weight (R131). -/
def State.lineWeight (s : State) (r : LineIdx) : Nat :=
  ((s.lanes.rows.filter fun l => l.counts && l.config.returnLine == some r).map (·.config.influentWeight)).sum

/-- A lane served by the line is in STORM (R132). -/
def State.lineInStorm (s : State) (r : LineIdx) : Bool :=
  s.lanes.rows.any fun l => l.config.returnLine == some r && l.state.regime == .storm

/-- The line's share of the influent (R134 step 1). -/
def shareOf (influent : Int) (lineWeight plantWeight : Nat) : Nat := influent.toNat * lineWeight / plantWeight

/-- The effective ratio (R134 step 2). -/
def ReturnConfig.effectiveRatio (c : ReturnConfig) (blanket : Option Int) : Nat :=
  let boosted := match blanket with
    | some b => if c.blanketThreshold ≤ b then c.ratio + c.boost else c.ratio
    | none => c.ratio
  min boosted 2000

/-- The target computed in PACING (R134 step 3). -/
def ReturnConfig.pacedTarget (c : ReturnConfig) (share : Nat) (blanket : Option Int) : Nat :=
  c.limit (share * c.effectiveRatio blanket / 1000)

/-- The target a line holds in HELD_STORM: the one held already, or the one found at entry (R132). -/
def ReturnLine.stormTarget (l : ReturnLine) : Nat :=
  match l.state with
  | .heldStorm h => h
  | .pacing => l.config.limit l.target
  | .heldStale => l.config.limit l.target
  | .heldManual => l.config.limit l.target
  | .stopped => l.config.limit l.target

/-- The state and target a line chooses at its pacing expiry: the first of the five conditions of section 7.3 that holds
(R129 to R134). -/
def State.choosePacing (s : State) (r : LineIdx) : LineState × Nat :=
  let l := s.returns.get r
  let c := l.config
  if s.isSupervised c.pumpOutput then (.heldManual, c.limit l.target)
  else if s.lineWeight r = 0 ∨ s.plantWeight = 0 then (.stopped, 0)
  else if s.lineInStorm r then (.heldStorm l.stormTarget, l.stormTarget)
  else match s.usable s.plant.config.influentPoint with
    | none => (.heldStale, c.limit l.target)
    | some q => (.pacing, c.pacedTarget (shareOf q (s.lineWeight r) s.plantWeight) (s.usable c.blanketPoint))

/-- The pump trim (R135), made in the state its own expiry has just chosen (DESIGN CHOICE, log entry 25). -/
def State.trimPump (r : LineIdx) (s : State) : State :=
  let l := s.returns.get r
  match l.config.pumpOutput with
  | none => s
  | some o =>
    let step := match s.usable l.config.flowPoint with
      | some flow => trimStep (l.target - flow) l.config.gain l.config.rate
      | none => 0
    s.offer o ((s.outputs.get o).base + step)

/-- The pump of a STOPPED line is offered its output's low limit (R131). -/
def State.stopPump (r : LineIdx) (s : State) : State :=
  match (s.returns.get r).config.pumpOutput with
  | none => s
  | some o => s.offer o (s.outputs.get o).config.low

/-- One pacing of a line (R129): timer, state and target, trim. The expiry is taken whole: no item of the guard comes between the choice of the state
and the pump offer, although R135 speaks of one that does (DESIGN CHOICE, log entry 25). -/
def State.pace (r : LineIdx) (s : State) : State :=
  let l := s.returns.get r
  let choice := s.choosePacing r
  let s := s.setReturn r { l with state := choice.1, target := choice.2, timer := some (tenths l.config.period) }
  match choice.1 with
  | .heldManual => s
  | .stopped => s.stopPump r
  | .pacing => s.trimPump r
  | .heldStorm _ => s.trimPump r
  | .heldStale => s.trimPump r

/-- An accepted configuration write re-clamps the target and the held target of a line that is not STOPPED (R127). -/
def ReturnLine.rewrite (l : ReturnLine) (c : ReturnConfig) : ReturnLine :=
  match l.state with
  | .stopped => { l with config := c }
  | .heldStorm h => { l with config := c, state := .heldStorm (c.limit h), target := c.limit l.target }
  | .pacing => { l with config := c, target := c.limit l.target }
  | .heldStale => { l with config := c, target := c.limit l.target }
  | .heldManual => { l with config := c, target := c.limit l.target }

end Sys2Proof.Machine
end

