-- ==== Sys2Proof/Machine/Fields.lean ====
section
/-! DEFINITION. The field tables of chapters 2 to 9: what each field reads as, what a written value does to it, and the checks on a
record as it will stand (R31, R48, R55, R59, R80, R103, R113, R127, R140, R157, R184, R185). -/
namespace Sys2Proof.Machine

/-! ### Values read -/

/-- The absent marker (section 3.7). -/
def absentMarker : Int := -2147483648

/-- An optional value as read. -/
def optionCode (v : Option Int) : Int := v.getD absentMarker

/-- A link as read: −1 for none, else the index. -/
def linkCode {n : Nat} : Option (Fin n) → Int
  | none => -1
  | some i => i.val

/-- The tenths left on a timer, or the absent marker while it is stopped; a timer whose expiry is due reads as 1 (DESIGN CHOICE, log entry 17). -/
def timerCode : Option Nat → Int
  | none => absentMarker
  | some t => (max t 1 : Nat)

/-! ### Values written -/

/-- What writing one field gives: none when the value refuses the whole write (BAD_ARGUMENT), else the record and whether a value was
brought into range (R185 steps 4 and 5). -/
abbrev Written (α : Type) : Type := Option (α × Bool)

/-- A numeric field: a value outside the range is replaced by the nearest end (R185 step 5). -/
def numeric {α : Type} (lo hi v : Int) (put : Int → α) : Written α :=
  let w := clampInt lo hi v
  some (put w, w != v)

/-- A yes/no field. -/
def yesNo {α : Type} (v : Int) (put : Bool → α) : Written α :=
  if v = 0 then some (put false, false) else if v = 1 then some (put true, false) else none

/-- An enumeration field whose values are the indices below n. -/
def index {α : Type} (n : Nat) (v : Int) (put : Fin n → α) : Written α :=
  if h : 0 ≤ v ∧ v.toNat < n then some (put ⟨v.toNat, h.2⟩, false) else none

/-- A link field: −1 none, or an index below n. -/
def link {α : Type} (n : Nat) (v : Int) (put : Option (Fin n) → α) : Written α :=
  if v = -1 then some (put none, false) else index n v fun i => put (some i)

/-- An enumeration field given by the list of its values in code order. -/
def choice {α β : Type} (values : List β) (v : Int) (put : β → α) : Written α :=
  if v < 0 then none else (values[v.toNat]?).map fun b => (put b, false)

/-- A set carried as the sum of its bits. -/
def bitSet {α : Type} (n : Nat) (v : Int) (put : BitVec n → α) : Written α :=
  if 0 ≤ v ∧ v.toNat < 2 ^ n then some (put (BitVec.ofNat n v.toNat), false) else none

/-- A run of values written to the fields first, first + 1, …; the flag says whether any was brought into range. -/
def writeRun {α : Type} (write : α → Nat → Int → Written α) : Nat → List Int → α → Written α
  | _, [], c => some (c, false)
  | i, v :: vs, c =>
    match write c i v with
    | none => none
    | some (c, b) => (writeRun write (i + 1) vs c).map fun r => (r.1, b || r.2)

/-! ### Table ROUTE (section 2.7) -/

/-- The codes of the disposition field. -/
def Disposition.code : Disposition → Nat
  | .pass => 0
  | .observe => 1
  | .consume => 2
  | .guard => 3
  | .discard => 4

/-- The fields of a route entry as read. -/
def Route.read (r : Route) : Nat → Option Int
  | 0 => some (flagCode r.config.valid)
  | 1 => some (match r.config.matchField with | .source => 0 | .destination => 1)
  | 2 => some r.config.base.toNat
  | 3 => some r.config.exponent
  | 4 => some r.config.kinds.toNat
  | 5 => some r.config.disposition.code
  | 6 => some r.config.pointBase
  | 7 => some r.config.channels
  | 8 => some (flagCode r.config.supervisor)
  | 9 => some (flagCode r.locked)
  | 10 => some (flagCode r.hit)
  | _ => none

/-- One field of a route entry written (R31). -/
def RouteConfig.write (c : RouteConfig) (id : Nat) (v : Int) : Written RouteConfig :=
  match id with
  | 0 => yesNo v fun x => { c with valid := x }
  | 1 => choice [MatchField.source, .destination] v fun x => { c with matchField := x }
  | 2 => numeric 0 65535 v fun x => { c with base := BitVec.ofNat 16 x.toNat }
  | 3 => numeric 0 15 v fun x => { c with exponent := x.toNat }
  | 4 => bitSet 6 v fun x => { c with kinds := x }
  | 5 => choice [Disposition.pass, .observe, .consume, .guard, .discard] v fun x => { c with disposition := x }
  | 6 => numeric 0 127 v fun x => { c with pointBase := x.toNat }
  | 7 => if v = 1 ∨ v = 2 ∨ v = 4 ∨ v = 8 then some ({ c with channels := v.toNat }, false) else none
  | 8 => yesNo v fun x => { c with supervisor := x }
  | _ => none

/-- The base brought down to the start of its block (R19). -/
def RouteConfig.settle (c : RouteConfig) : RouteConfig × Bool :=
  let base := clearLow c.exponent c.base
  ({ c with base := base }, base != c.base)

/-! ### Table POINT (section 3.7) -/

/-- The codes of the kind field. -/
def PointKind.code : PointKind → Nat
  | .dissolvedOxygen => 0
  | .ammonia => 1
  | .airflow => 2
  | .influent => 3
  | .returnFlow => 4
  | .blanket => 5
  | .equipment => 6
  | .generic => 7

/-- Kinds whose quantities cannot be negative (R36). -/
def PointKind.nonNegative : PointKind → Bool
  | .dissolvedOxygen => true
  | .ammonia => true
  | .airflow => true
  | .influent => true
  | .returnFlow => true
  | .blanket => true
  | .equipment => false
  | .generic => false

/-- The fields of a point as read (R49). -/
def Point.read (p : Point) : Nat → Option Int
  | 0 => some p.config.kind.code
  | 1 => some p.config.low
  | 2 => some p.config.high
  | 3 => some p.config.ageLimit
  | 4 => some p.config.shift
  | 5 => some (optionCode (p.state.reading.map (·.value)))
  | 6 => some (optionCode (p.state.reading.map (·.filtered)))
  | 7 => some p.state.quality.code
  | 8 => some (timerCode p.age)
  | 9 => some (optionCode (p.lastSeq.map fun q => (q.toNat : Int)))
  | _ => none

/-- One field of a point written (R48). -/
def PointConfig.write (c : PointConfig) (id : Nat) (v : Int) : Written PointConfig :=
  match id with
  | 0 => choice [PointKind.dissolvedOxygen, .ammonia, .airflow, .influent, .returnFlow, .blanket, .equipment, .generic] v
      fun x => { c with kind := x }
  | 1 => numeric (-8388608) 8388607 v fun x => { c with low := x }
  | 2 => numeric (-8388608) 8388607 v fun x => { c with high := x }
  | 3 => numeric 0 65535 v fun x => { c with ageLimit := x.toNat }
  | 4 => numeric 0 7 v fun x => { c with shift := x.toNat }
  | _ => none

/-- The two checks on a point as it will stand (R48). -/
def PointConfig.settle (c : PointConfig) : PointConfig × Bool :=
  let low := if c.kind.nonNegative ∧ c.low < 0 then 0 else c.low
  let high := if c.high < low then low else c.high
  ({ c with low := low, high := high }, low != c.low || high != c.high)

/-! ### Table OUTPUT (section 8.1) -/

/-- The codes of the kind field. -/
def OutputKind.code : OutputKind → Nat
  | .zoneValve => 0
  | .blowerRun => 1
  | .blowerSpeed => 2
  | .returnPump => 3
  | .general => 4

/-- The fields of an output as read (R140). -/
def Output.read (o : Output) : Nat → Option Int
  | 0 => some o.config.destination.toNat
  | 1 => some o.config.channel.toNat
  | 2 => some o.config.kind.code
  | 3 => some o.config.owner.val
  | 4 => some o.config.low
  | 5 => some o.config.high
  | 6 => some o.config.trip
  | 7 => some o.config.deadband
  | 8 => some o.config.resend
  | 9 => some o.state.code
  | 10 => some (optionCode o.last)
  | 11 => some (flagCode o.unsent)
  | 12 => some (timerCode o.resendTimer)
  | _ => none

/-- One field of an output written (R140). -/
def OutputConfig.write (c : OutputConfig) (id : Nat) (v : Int) : Written OutputConfig :=
  match id with
  | 0 => numeric 0 65535 v fun x => { c with destination := BitVec.ofNat 16 x.toNat }
  | 1 => numeric 0 255 v fun x => { c with channel := BitVec.ofNat 8 x.toNat }
  | 2 => choice [OutputKind.zoneValve, .blowerRun, .blowerSpeed, .returnPump, .general] v fun x => { c with kind := x }
  | 3 => numeric 0 31 v fun x => { c with owner := Fin.ofNat 32 x.toNat }
  | 4 => numeric (-8388608) 8388607 v fun x => { c with low := x }
  | 5 => numeric (-8388608) 8388607 v fun x => { c with high := x }
  | 6 => numeric (-8388608) 8388607 v fun x => { c with trip := x }
  | 7 => numeric 0 8388607 v fun x => { c with deadband := x }
  | 8 => numeric 0 3600 v fun x => { c with resend := x.toNat }
  | _ => none

/-- The two checks on an output as it will stand (R140). -/
def OutputConfig.settle (c : OutputConfig) : OutputConfig × Bool :=
  let high := if c.high < c.low then c.low else c.high
  let trip := clampInt c.low high c.trip
  ({ c with high := high, trip := trip }, high != c.high || trip != c.trip)

/-! ### Table LANE (section 4.1) -/

/-- The cycle of a lane in ECONOMY. -/
def LaneState.cycle? : LaneState → Option Cycle
  | .economy c => some c
  | .offline => none
  | .normal => none
  | .storm => none
  | .tripped _ => none

/-- The trip cause of a TRIPPED lane. -/
def LaneState.cause? : LaneState → Option WatchIdx
  | .tripped w => some w
  | .offline => none
  | .normal => none
  | .economy _ => none
  | .storm => none

/-- The code of a cycle phase (field 24). -/
def Phase.code : Phase → Nat
  | .airOn => 0
  | .airOff => 1

/-- The fields of a lane as read (R53, R55). -/
def Lane.read (l : Lane) : Nat → Option Int
  | 0 => some (flagCode l.config.inService)
  | 1 => some l.config.period
  | 2 => some l.config.zoneCount
  | 3 => some (linkCode l.config.ammoniaPoint)
  | 4 => some l.config.ammoniaTarget
  | 5 => some l.config.trimGain
  | 6 => some l.config.trimLow
  | 7 => some l.config.trimHigh
  | 8 => some l.config.influentWeight
  | 9 => some (linkCode l.config.returnLine)
  | 10 => some (linkCode l.config.tripGroup)
  | 11 => some (flagCode l.config.autoEconomy)
  | 12 => some l.config.enterLevel
  | 13 => some l.config.dwellMinutes
  | 14 => some l.config.wakeMask.toNat
  | 15 => some l.config.wakeAmmonia
  | 16 => some l.config.wakeInfluent
  | 17 => some l.config.cycleLength
  | 18 => some l.config.baseOn
  | 19 => some l.config.minimumOn
  | 20 => some l.config.onSlope
  | 21 => some l.state.regime.code
  | 22 => some (optionCode (l.state.cause?.map fun w => (w.val : Int)))
  | 23 => some l.dwell
  | 24 => some (optionCode (l.state.cycle?.map fun c => (c.phase.code : Int)))
  | 25 => some (optionCode (l.state.cycle?.map fun c => (c.onFraction : Int)))
  | 26 => some (timerCode l.timer)
  | 27 => some (flagCode l.pending.isSome)
  | _ => none

/-- One field of a lane written into its pending set (R55). -/
def LaneConfig.write (c : LaneConfig) (id : Nat) (v : Int) : Written LaneConfig :=
  match id with
  | 0 => yesNo v fun x => { c with inService := x }
  | 1 => numeric 1 60 v fun x => { c with period := x.toNat }
  | 2 => numeric 1 4 v fun x => { c with zoneCount := x.toNat }
  | 3 => link 128 v fun x => { c with ammoniaPoint := x }
  | 4 => numeric 0 20000 v fun x => { c with ammoniaTarget := x }
  | 5 => numeric 0 1023 v fun x => { c with trimGain := x }
  | 6 => numeric (-2000) 2000 v fun x => { c with trimLow := x }
  | 7 => numeric (-2000) 2000 v fun x => { c with trimHigh := x }
  | 8 => numeric 0 100 v fun x => { c with influentWeight := x.toNat }
  | 9 => link 4 v fun x => { c with returnLine := x }
  | 10 => link 4 v fun x => { c with tripGroup := x }
  | 11 => yesNo v fun x => { c with autoEconomy := x }
  | 12 => numeric 0 20000 v fun x => { c with enterLevel := x }
  | 13 => numeric 1 240 v fun x => { c with dwellMinutes := x.toNat }
  | 14 => bitSet 2 v fun x => { c with wakeMask := x }
  | 15 => numeric 0 20000 v fun x => { c with wakeAmmonia := x }
  | 16 => numeric 0 8388607 v fun x => { c with wakeInfluent := x }
  | 17 => numeric 60 3600 v fun x => { c with cycleLength := x.toNat }
  | 18 => numeric 0 64 v fun x => { c with baseOn := x }
  | 19 => numeric 0 64 v fun x => { c with minimumOn := x }
  | 20 => numeric 0 1000 v fun x => { c with onSlope := x }
  | _ => none

/-- The trim bounds as they will stand (R55). -/
def LaneConfig.settle (c : LaneConfig) : LaneConfig × Bool :=
  if c.trimHigh < c.trimLow then ({ c with trimHigh := c.trimLow }, true) else (c, false)

/-! ### Table ZONE (section 5.1) -/

/-- The fields of a zone as read (R80). -/
def Zone.read (z : Zone) : Nat → Option Int
  | 0 => some (linkCode z.config.doPoint)
  | 1 => some (linkCode z.config.airflowPoint)
  | 2 => some (linkCode z.config.valveOutput)
  | 3 => some z.config.baseSetpoint
  | 4 => some z.config.economyOffset
  | 5 => some z.config.stormSetpoint
  | 6 => some z.config.kp
  | 7 => some z.config.ki
  | 8 => some z.config.biasAir
  | 9 => some z.config.minAir
  | 10 => some z.config.maxAir
  | 11 => some z.config.fixedAir
  | 12 => some z.config.tripAir
  | 13 => some (flagCode z.config.cyclic)
  | 14 => some z.config.valveGain
  | 15 => some z.config.valveRate
  | 16 => some z.mode.code
  | 17 => some z.setpoint
  | 18 => some z.integral
  | 19 => some z.demand
  | 20 => some (optionCode (z.grant.map fun g => (g : Int)))
  | 21 => some (flagCode z.cut)
  | 22 => some (flagCode z.reseed)
  | 23 => some (flagCode z.offDemand)
  | _ => none

/-- One field of a zone written into its lane's pending set (R55, R80); `accepts` says which outputs its valve output may name. -/
def ZoneConfig.write (accepts : OutputIdx → Bool) (c : ZoneConfig) (id : Nat) (v : Int) : Written ZoneConfig :=
  match id with
  | 0 => link 128 v fun x => { c with doPoint := x }
  | 1 => link 128 v fun x => { c with airflowPoint := x }
  | 2 => (link 64 v fun x => ({ c with valveOutput := x } : ZoneConfig)).bind fun r =>
      if (r.1.valveOutput.map accepts).getD true then some r else none
  | 3 => numeric 200 4000 v fun x => { c with baseSetpoint := x }
  | 4 => numeric 0 2000 v fun x => { c with economyOffset := x }
  | 5 => numeric 200 4000 v fun x => { c with stormSetpoint := x }
  | 6 => numeric 0 65535 v fun x => { c with kp := x }
  | 7 => numeric 0 65535 v fun x => { c with ki := x }
  | 8 => numeric 0 65535 v fun x => { c with biasAir := x.toNat }
  | 9 => numeric 0 65535 v fun x => { c with minAir := x.toNat }
  | 10 => numeric 0 65535 v fun x => { c with maxAir := x.toNat }
  | 11 => numeric 0 65535 v fun x => { c with fixedAir := x.toNat }
  | 12 => numeric 0 65535 v fun x => { c with tripAir := x.toNat }
  | 13 => yesNo v fun x => { c with cyclic := x }
  | 14 => numeric 0 1023 v fun x => { c with valveGain := x }
  | 15 => numeric 1 1000 v fun x => { c with valveRate := x }
  | _ => none

/-- Min air and max air as they will stand (R80). -/
def ZoneConfig.settle (c : ZoneConfig) : ZoneConfig × Bool :=
  if c.maxAir < c.minAir then ({ c with maxAir := c.minAir }, true) else (c, false)

/-! ### Table BLOWER (section 6.6) -/

/-- The three timers and the flag of a blower as read. -/
def BlowerState.timers : BlowerState → Option Nat × Option Nat × Option Nat × Bool
  | .starting w t => (w, some t, none, false)
  | .stopping r => (none, none, some r, false)
  | .running p => (none, none, none, p)
  | .unknown => (none, none, none, false)
  | .stopped => (none, none, none, false)
  | .faulted => (none, none, none, false)
  | .handControl => (none, none, none, false)

/-- The fields of a blower as read. -/
def Blower.read (b : Blower) : Nat → Option Int
  | 0 => some (flagCode b.config.inService)
  | 1 => some (linkCode b.config.runOutput)
  | 2 => some (linkCode b.config.speedOutput)
  | 3 => some (linkCode b.config.statusPoint)
  | 4 => some b.config.cmin
  | 5 => some b.config.cmax
  | 6 => some b.config.rank.val
  | 7 => some b.config.warmUp
  | 8 => some b.config.timeout
  | 9 => some b.config.rundown
  | 10 => some b.state.status.code
  | 11 => some (timerCode b.state.timers.1)
  | 12 => some (timerCode b.state.timers.2.1)
  | 13 => some (timerCode b.state.timers.2.2.1)
  | 14 => some (flagCode b.state.timers.2.2.2)
  | _ => none

/-- One field of a blower written (R113). -/
def BlowerConfig.write (c : BlowerConfig) (id : Nat) (v : Int) : Written BlowerConfig :=
  match id with
  | 0 => yesNo v fun x => { c with inService := x }
  | 1 => link 64 v fun x => { c with runOutput := x }
  | 2 => link 64 v fun x => { c with speedOutput := x }
  | 3 => link 128 v fun x => { c with statusPoint := x }
  | 4 => numeric 0 65535 v fun x => { c with cmin := x.toNat }
  | 5 => numeric 0 65535 v fun x => { c with cmax := x.toNat }
  | 6 => index 6 v fun x => { c with rank := x }
  | 7 => numeric 10 600 v fun x => { c with warmUp := x.toNat }
  | 8 => numeric 10 900 v fun x => { c with timeout := x.toNat }
  | 9 => numeric 5 300 v fun x => { c with rundown := x.toNat }
  | _ => none

/-- Checks 1 and 2 of R113. -/
def BlowerConfig.settle (c : BlowerConfig) : BlowerConfig × Bool :=
  let cmax := if c.cmax < c.cmin then c.cmin else c.cmax
  let timeout := if c.timeout < c.warmUp then c.warmUp else c.timeout
  ({ c with cmax := cmax, timeout := timeout }, cmax != c.cmax || timeout != c.timeout)

/-! ### Table RETURN (section 7.1) -/

/-- The held target of a line in HELD_STORM. -/
def LineState.held? : LineState → Option Nat
  | .heldStorm h => some h
  | .pacing => none
  | .heldStale => none
  | .heldManual => none
  | .stopped => none

/-- The fields of a return line as read (R127). -/
def ReturnLine.read (r : ReturnLine) : Nat → Option Int
  | 0 => some (linkCode r.config.pumpOutput)
  | 1 => some (linkCode r.config.flowPoint)
  | 2 => some (linkCode r.config.blanketPoint)
  | 3 => some r.config.ratio
  | 4 => some r.config.blanketThreshold
  | 5 => some r.config.boost
  | 6 => some r.config.minFlow
  | 7 => some r.config.maxFlow
  | 8 => some r.config.period
  | 9 => some r.config.gain
  | 10 => some r.config.rate
  | 11 => some r.state.code
  | 12 => some r.target
  | 13 => some (optionCode (r.state.held?.map fun h => (h : Int)))
  | 14 => some (timerCode r.timer)
  | _ => none

/-- One field of a return line written (R127). -/
def ReturnConfig.write (c : ReturnConfig) (id : Nat) (v : Int) : Written ReturnConfig :=
  match id with
  | 0 => link 64 v fun x => { c with pumpOutput := x }
  | 1 => link 128 v fun x => { c with flowPoint := x }
  | 2 => link 128 v fun x => { c with blanketPoint := x }
  | 3 => numeric 100 2000 v fun x => { c with ratio := x.toNat }
  | 4 => numeric 0 8388607 v fun x => { c with blanketThreshold := x }
  | 5 => numeric 0 1000 v fun x => { c with boost := x.toNat }
  | 6 => numeric 0 8388607 v fun x => { c with minFlow := x.toNat }
  | 7 => numeric 0 8388607 v fun x => { c with maxFlow := x.toNat }
  | 8 => numeric 10 600 v fun x => { c with period := x.toNat }
  | 9 => numeric 0 1023 v fun x => { c with gain := x }
  | 10 => numeric 1 1000 v fun x => { c with rate := x }
  | _ => none

/-- Min flow and max flow as they will stand (R127). -/
def ReturnConfig.settle (c : ReturnConfig) : ReturnConfig × Bool :=
  if c.maxFlow < c.minFlow then ({ c with maxFlow := c.minFlow }, true) else (c, false)

/-! ### Table WATCH (section 9.2) -/

/-- The codes of the test field. -/
def Test.code : Test → Nat
  | .above => 0
  | .below => 1
  | .outside => 2
  | .unusable => 3
  | .active => 4

/-- The subjects 128 to 138, in code order (R154). -/
def conditionSubjects : List Subject :=
  [.level .airShort, .level .floorShort, .level .stormActive, .level .supervisionLost, .level .ringSilent,
   .event .routeRange, .event .queueOverflow, .event .loopCongestion, .event .blowerStartFail, .event .blowerTrip,
   .event .storeFault]

/-- The hold timer of a FIRED watch. -/
def WatchState.hold? : WatchState → Option Nat
  | .fired h => h
  | .off => none
  | .waiting => none
  | .armed => none

/-- The fields of a watch as read (R158). -/
def Watch.read (w : Watch) : Nat → Option Int
  | 0 => some (flagCode w.config.enable)
  | 1 => some w.config.subject.code
  | 2 => some w.config.test.code
  | 3 => some w.config.high
  | 4 => some w.config.low
  | 5 => some w.config.hysteresis
  | 6 => some w.config.persistence
  | 7 => some (linkCode w.config.stage)
  | 8 => some w.config.actions.toNat
  | 9 => some (flagCode w.config.armed)
  | 10 => some w.config.targetLane.val
  | 11 => some w.config.relayLine.val
  | 12 => some (match w.config.rearm with | .manual => 0 | .auto => 1)
  | 13 => some w.config.hold
  | 14 => some w.state.code
  | 15 => some w.count
  | 16 => some (flagCode w.truth)
  | 17 => some (flagCode w.occurrence)
  | 18 => some (timerCode w.state.hold?)
  | _ => none

/-- The subject field: 0 to 127 a point, 128 to 138 a condition. -/
def writeSubject {α : Type} (v : Int) (put : Subject → α) : Written α :=
  if v < 128 then index 128 v fun p => put (.point p) else choice conditionSubjects (v - 128) put

/-- One field of a watch written (R157). -/
def WatchConfig.write (c : WatchConfig) (id : Nat) (v : Int) : Written WatchConfig :=
  match id with
  | 0 => yesNo v fun x => { c with enable := x }
  | 1 => writeSubject v fun x => { c with subject := x }
  | 2 => choice [Test.above, .below, .outside, .unusable, .active] v fun x => { c with test := x }
  | 3 => numeric (-8388608) 8388607 v fun x => { c with high := x }
  | 4 => numeric (-8388608) 8388607 v fun x => { c with low := x }
  | 5 => numeric 0 8388607 v fun x => { c with hysteresis := x }
  | 6 => numeric 1 256 v fun x => { c with persistence := x.toNat }
  | 7 => link 31 v fun x => { c with stage := x.map fun i => i.castLE (by decide) }
  | 8 => bitSet 5 v fun x => { c with actions := x }
  | 9 => yesNo v fun x => { c with armed := x }
  | 10 => index 8 v fun x => { c with targetLane := x }
  | 11 => index 4 v fun x => { c with relayLine := x }
  | 12 => choice [Rearm.manual, .auto] v fun x => { c with rearm := x }
  | 13 => numeric 1 3600 v fun x => { c with hold := x.toNat }
  | _ => none

/-- The test suits the subject: ACTIVE a condition, the other four a point (R157). -/
def WatchConfig.testSuits (c : WatchConfig) : Bool :=
  match c.subject with
  | .point _ => c.test != .active
  | .level _ => c.test == .active
  | .event _ => c.test == .active

/-- The stage link is none or lower than the watch's own index (R157). -/
def WatchConfig.linkSuits (c : WatchConfig) (w : WatchIdx) : Bool :=
  match c.stage with
  | none => true
  | some j => decide (j < w)

/-- The subject is a level condition. -/
def Subject.isLevel : Subject → Bool
  | .level _ => true
  | .point _ => false
  | .event _ => false

/-- The two checks of step 5 of R157. -/
def WatchConfig.settle (c : WatchConfig) : WatchConfig × Bool :=
  let high := if c.test = .outside ∧ c.high < c.low then c.low else c.high
  let n := if c.subject.isLevel then 1 else c.persistence
  ({ c with high := high, persistence := n }, high != c.high || n != c.persistence)

/-! ### Tables PLANT and ALLOCATOR (sections 4.5 and 6.1) -/

/-- The fields of the plant record as read (R59). -/
def Plant.read (p : Plant) : Nat → Option Int
  | 0 => some (linkCode p.config.influentPoint)
  | 1 => some p.config.enterLevel
  | 2 => some p.config.exitLevel
  | 3 => some p.config.stormHold
  | 4 => some (flagCode (p.config.crossTrip.get 0))
  | 5 => some (flagCode (p.config.crossTrip.get 1))
  | 6 => some (flagCode (p.config.crossTrip.get 2))
  | 7 => some (flagCode (p.config.crossTrip.get 3))
  | 8 => some p.config.noticeAddress.toNat
  | 9 => some p.config.silenceTime
  | 10 => some (flagCode p.storm)
  | 11 => some (timerCode p.exitHold)
  | _ => none

/-- One field of the plant record written (R59). -/
def PlantConfig.write (c : PlantConfig) (id : Nat) (v : Int) : Written PlantConfig :=
  match id with
  | 0 => link 128 v fun x => { c with influentPoint := x }
  | 1 => numeric 0 8388607 v fun x => { c with enterLevel := x }
  | 2 => numeric 0 8388607 v fun x => { c with exitLevel := x }
  | 3 => numeric 10 7200 v fun x => { c with stormHold := x.toNat }
  | 4 => yesNo v fun x => { c with crossTrip := c.crossTrip.set 0 x }
  | 5 => yesNo v fun x => { c with crossTrip := c.crossTrip.set 1 x }
  | 6 => yesNo v fun x => { c with crossTrip := c.crossTrip.set 2 x }
  | 7 => yesNo v fun x => { c with crossTrip := c.crossTrip.set 3 x }
  | 8 => numeric 0 65535 v fun x => { c with noticeAddress := BitVec.ofNat 16 x.toNat }
  | 9 => numeric 1 60 v fun x => { c with silenceTime := x.toNat }
  | _ => none

/-- The storm levels as they will stand (R59). -/
def PlantConfig.settle (c : PlantConfig) : PlantConfig × Bool :=
  if c.enterLevel < c.exitLevel then ({ c with exitLevel := c.enterLevel }, true) else (c, false)

/-- The fields of the allocator record as read (R103). -/
def Allocator.read (a : Allocator) : Nat → Option Int
  | 0 => some a.config.period
  | 1 => some a.config.upThreshold
  | 2 => some a.config.downThreshold
  | 3 => some a.config.upDelay
  | 4 => some a.config.downDelay
  | 5 => some a.upCount
  | 6 => some a.downCount
  | 7 => some a.lastDemand
  | 8 => some a.lastCapacity
  | 9 => some a.lastGrant
  | 10 => some (timerCode a.timer)
  | _ => none

/-- One field of the allocator record written (R103). -/
def AllocatorConfig.write (c : AllocatorConfig) (id : Nat) (v : Int) : Written AllocatorConfig :=
  match id with
  | 0 => numeric 5 60 v fun x => { c with period := x.toNat }
  | 1 => numeric 500 1000 v fun x => { c with upThreshold := x.toNat }
  | 2 => numeric 300 1000 v fun x => { c with downThreshold := x.toNat }
  | 3 => numeric 1 60 v fun x => { c with upDelay := x.toNat }
  | 4 => numeric 1 60 v fun x => { c with downDelay := x.toNat }
  | _ => none

/-! ### A run of fields read -/

/-- The values of a run of fields, or none when it reaches beyond the last field id (R184). -/
def readRun (read : Nat → Option Int) : Nat → Nat → Option (List Int)
  | _, 0 => some []
  | i, n + 1 =>
    match read i with
    | none => none
    | some v => (readRun read (i + 1) n).map (v :: ·)

end Sys2Proof.Machine
end

