-- ==== Sys2Proof/Machine/Tables.lean ====
section
/-! DEFINITION. Chapter 11, table access: READ_FIELDS and WRITE_FIELDS on the ten tables (R184, R185 and the write rules of the chapters). -/
namespace Sys2Proof.Machine

/-- A change of state with the result the reply carries. -/
abbrev Outcome : Type := State × Result

/-- The record an index byte names among n, or BAD_INDEX (R184, R185 step 2). -/
def State.atIndex (n : Nat) (i : Byte) (s : State) (f : Fin n → Outcome) : Outcome :=
  if h : i.toNat < n then f ⟨i.toNat, h⟩ else (s, .badIndex)

/-- A run of written values examined field by field, then the cross-field checks on the record as it will stand (R185 steps 4, 5). -/
def examine {α : Type} (write : α → Nat → Int → Written α) (settle : α → α × Bool) (first : Byte) (vs : List Int) (c : α) :
    Written α :=
  (writeRun write first.toNat vs c).map fun r => ((settle r.1).1, r.2 || (settle r.1).2)

/-- A whole write refused with BAD_ARGUMENT, or carried out with OK or OK_CLAMPED (R185). -/
def State.accept {α : Type} (w : Written α) (s : State) (apply : α → State) : Outcome :=
  match w with
  | none => (s, .badArgument)
  | some r => (apply r.1, Result.done r.2)

/-- A written record that must also pass a check of its table, or the whole write is refused (R113, R140, R157). -/
def Written.suiting {α : Type} (w : Written α) (ok : α → Bool) : Written α := w.bind fun r => if ok r.1 then some r else none

/-! ### The ten tables -/

/-- WRITE_FIELDS on ROUTE (R31 to R33): LOCKED comes before the values; the hit flag and the lock stay. -/
def State.writeRouteTable (index first : Byte) (vs : List Int) (s : State) : Outcome :=
  s.atIndex 64 index fun i =>
    let r := s.routes.get i
    if r.locked then (s, .locked)
    else s.accept (examine RouteConfig.write RouteConfig.settle first vs r.config) fun c => s.setRoute i { r with config := c }

/-- WRITE_FIELDS on POINT (R48). -/
def State.writePointTable (index first : Byte) (vs : List Int) (s : State) : Outcome :=
  s.atIndex 128 index fun i =>
    s.accept (examine PointConfig.write PointConfig.settle first vs (s.points.get i).config) fun c => s.writePoint i c

/-- A zone's valve output field names the output, in force or pending (R140). -/
def State.zoneNames (s : State) (z : ZoneIdx) (o : OutputIdx) : Bool :=
  (s.zones.get z).config.valveOutput == some o ||
    match (s.laneOfZone z).pending with
    | some p => (p.zones.get (placeOf z)).valveOutput == some o
    | none => false

/-- The output may serve as the valve output of a zone (R80, R140). -/
def OutputConfig.servesZone (c : OutputConfig) (z : ZoneIdx) : Bool := c.kind == .zoneValve && c.owner == z

/-- No zone that names the output would be left with a wrong kind or owner (R140). -/
def State.outputSuits (s : State) (o : OutputIdx) (c : OutputConfig) : Bool :=
  (indices 32).all fun z => !s.zoneNames z o || c.servesZone z

/-- WRITE_FIELDS on OUTPUT (R140, R144). -/
def State.writeOutputTable (index first : Byte) (vs : List Int) (s : State) : Outcome :=
  s.atIndex 64 index fun i =>
    s.accept ((examine OutputConfig.write OutputConfig.settle first vs (s.outputs.get i).config).suiting (s.outputSuits i)) fun c =>
      s.writeOutput i c

/-- A lane's pending set as it stands, or the values in force when it is absent (R55; DEDUCED, log entry 18). -/
def State.staged (s : State) (k : LaneIdx) : Pending :=
  match (s.lanes.get k).pending with
  | some p => p
  | none => { lane := (s.lanes.get k).config, zones := Table.build fun i => (s.zones.get (zoneAt k i)).config }

/-- WRITE_FIELDS on LANE: the values enter the lane's pending set (R55). -/
def State.writeLaneTable (index first : Byte) (vs : List Int) (s : State) : Outcome :=
  s.atIndex 8 index fun k =>
    let p := s.staged k
    s.accept (examine LaneConfig.write LaneConfig.settle first vs p.lane) fun c =>
      s.setLane k { s.lanes.get k with pending := some { p with lane := c } }

/-- WRITE_FIELDS on ZONE: the values enter the pending set of the zone's lane (R55, R80). -/
def State.writeZoneTable (index first : Byte) (vs : List Int) (s : State) : Outcome :=
  s.atIndex 32 index fun z =>
    let k := laneOf z
    let p := s.staged k
    let accepts := fun o => (s.outputs.get o).config.servesZone z
    s.accept (examine (ZoneConfig.write accepts) ZoneConfig.settle first vs (p.zones.get (placeOf z))) fun c =>
      s.setLane k { s.lanes.get k with pending := some { p with zones := p.zones.set (placeOf z) c } }

/-- No other blower in service holds the lead rank of one that will be in service (R113 check 3). -/
def State.rankSuits (s : State) (b : BlowerIdx) (c : BlowerConfig) : Bool :=
  !c.inService || (indices 6).all fun j =>
    j == b || !(s.blowers.get j).config.inService || (s.blowers.get j).config.rank != c.rank

/-- A RUNNING blower's stop-pending mark after a write: set while in service is no, clear while it is yes (R119). -/
def BlowerState.marked (st : BlowerState) (c : BlowerConfig) : BlowerState :=
  match st with
  | .running _ => .running (!c.inService)
  | .unknown => .unknown
  | .stopped => .stopped
  | .starting w t => .starting w t
  | .stopping r => .stopping r
  | .faulted => .faulted
  | .handControl => .handControl

/-- An accepted write to a blower (R113, R119): a FAULTED blower whose status reading is STOPPED as the write arrives becomes STOPPED
(DEDUCED, log entry 22). -/
def State.writeBlower (b : BlowerIdx) (c : BlowerConfig) (s : State) : State :=
  let old := s.blowers.get b
  let s1 := s.setBlower b { config := c, state := old.state.marked c }
  if old.state = .faulted ∧ s.driveReading old.config.statusPoint = some .stopped then s1.changeBlower b .stopped else s1

/-- WRITE_FIELDS on BLOWER (R113). -/
def State.writeBlowerTable (index first : Byte) (vs : List Int) (s : State) : Outcome :=
  s.atIndex 6 index fun b =>
    s.accept ((examine BlowerConfig.write BlowerConfig.settle first vs (s.blowers.get b).config).suiting (s.rankSuits b)) fun c =>
      s.writeBlower b c

/-- WRITE_FIELDS on RETURN (R127). -/
def State.writeReturnTable (index first : Byte) (vs : List Int) (s : State) : Outcome :=
  s.atIndex 4 index fun r =>
    s.accept (examine ReturnConfig.write ReturnConfig.settle first vs (s.returns.get r).config) fun c =>
      s.setReturn r ((s.returns.get r).rewrite c)

/-- A watch after an accepted write (R157): its run-time state is set anew, the occurrence flag stays. -/
def Watch.rewritten (w : Watch) (c : WatchConfig) (stageFired : Bool) : Watch :=
  { w with config := c, state := c.rest stageFired, count := c.persistence - 1, truth := false }

/-- WRITE_FIELDS on WATCH (R157): CONDITION_PRESENT for a FIRED watch comes before the values. -/
def State.writeWatchTable (index first : Byte) (vs : List Int) (s : State) : Outcome :=
  s.atIndex 32 index fun i =>
    let w := s.watches.get i
    if w.state.isFired then (s, .conditionPresent)
    else
      s.accept ((examine WatchConfig.write WatchConfig.settle first vs w.config).suiting
          fun c => c.testSuits && c.linkSuits i) fun c =>
        s.setWatch i (w.rewritten c (s.stageFired c))

/-- WRITE_FIELDS on PLANT (R59). -/
def State.writePlantTable (index first : Byte) (vs : List Int) (s : State) : Outcome :=
  s.atIndex 1 index fun _ =>
    s.accept (examine PlantConfig.write PlantConfig.settle first vs s.plant.config) fun c => s.withPlant { s.plant with config := c }

/-- WRITE_FIELDS on ALLOCATOR (R103): no field ties to another. -/
def State.writeAllocatorTable (index first : Byte) (vs : List Int) (s : State) : Outcome :=
  s.atIndex 1 index fun _ =>
    s.accept (examine AllocatorConfig.write (fun c => (c, false)) first vs s.allocator.config) fun c =>
      s.withAllocator { s.allocator with config := c }

/-- WRITE_FIELDS on a table (R185 steps 2 to 5). -/
def State.writeTable (t : TableName) (index first : Byte) (vs : List Int) (s : State) : Outcome :=
  match t with
  | .route => s.writeRouteTable index first vs
  | .point => s.writePointTable index first vs
  | .output => s.writeOutputTable index first vs
  | .lane => s.writeLaneTable index first vs
  | .zone => s.writeZoneTable index first vs
  | .blower => s.writeBlowerTable index first vs
  | .returnLine => s.writeReturnTable index first vs
  | .watch => s.writeWatchTable index first vs
  | .plant => s.writePlantTable index first vs
  | .allocator => s.writeAllocatorTable index first vs

/-- WRITE_FIELDS: step 1 of R185, then the table. -/
def State.writeFields (table index first : Byte) (count : Nat) (vs : List Int) (s : State) : Outcome :=
  match TableName.ofCode table with
  | none => (s, .badArgument)
  | some t => if 1 ≤ count ∧ count ≤ 8 then s.writeTable t index first vs else (s, .badArgument)

/-! ### READ_FIELDS (R184) -/

/-- The field reader of the record an index names; none beyond the table's last index. -/
def State.reader (s : State) (t : TableName) (index : Byte) : Option (Nat → Option Int) :=
  let i := index.toNat
  match t with
  | .route => if h : i < 64 then some (s.routes.get ⟨i, h⟩).read else none
  | .point => if h : i < 128 then some (s.points.get ⟨i, h⟩).read else none
  | .output => if h : i < 64 then some (s.outputs.get ⟨i, h⟩).read else none
  | .lane => if h : i < 8 then some (s.lanes.get ⟨i, h⟩).read else none
  | .zone => if h : i < 32 then some (s.zones.get ⟨i, h⟩).read else none
  | .blower => if h : i < 6 then some (s.blowers.get ⟨i, h⟩).read else none
  | .returnLine => if h : i < 4 then some (s.returns.get ⟨i, h⟩).read else none
  | .watch => if h : i < 32 then some (s.watches.get ⟨i, h⟩).read else none
  | .plant => if i < 1 then some s.plant.read else none
  | .allocator => if i < 1 then some s.allocator.read else none

/-- The id of a route entry's hit field (section 2.7). -/
def hitField : Nat := 10

/-- A read of a ROUTE run that includes the hit field clears the entry's hit flag; no other read changes any state (R22, R184). -/
def State.afterRead (t : TableName) (index first : Byte) (count : Nat) (s : State) : State :=
  if t = .route ∧ first.toNat ≤ hitField ∧ hitField < first.toNat + count then
    if h : index.toNat < 64 then s.setRoute ⟨index.toNat, h⟩ { s.routes.get ⟨index.toNat, h⟩ with hit := false } else s
  else s

/-- READ_FIELDS (R184): the state, the result and the data. -/
def State.readFields (table index first count : Byte) (s : State) : State × Result × List Byte :=
  match TableName.ofCode table with
  | none => (s, .badArgument, [])
  | some t =>
    if 1 ≤ count.toNat ∧ count.toNat ≤ 8 then
      match s.reader t index with
      | none => (s, .badIndex, [])
      | some read =>
        match readRun read first.toNat count.toNat with
        | none => (s, .badArgument, [])
        | some vs => (s.afterRead t index first count.toNat, .ok, vs.flatMap bytesOfInt)
    else (s, .badArgument, [])

end Sys2Proof.Machine
end

