-- ==== Sys2Proof/Machine/Management.lean ====
section
/-! DEFINITION. Chapter 11: the management agent's requests, their checks and replies, status, commits, and the requests of codes 6 to
15 as their chapters give them. -/
namespace Sys2Proof.Machine

/-- What a request leaves: the state, and the result and data its reply carries; none when no reply is offered at its arrival (R182). -/
abbrev Answered : Type := State × Option (Result × List Byte)

/-- Answered with a result and no data. -/
def State.answered (r : Result) (s : State) : Answered := (s, some (r, []))

/-- A change answered with its result and no data. -/
def Outcome.answered (o : Outcome) : Answered := (o.1, some (o.2, []))

/-! ### Status (R186, section 11.4) -/

/-- The five level conditions, bit 0 AIR_SHORT to bit 4 RING_SILENT. -/
def State.levelBits (s : State) : Byte :=
  BitVec.ofBool false ++ BitVec.ofBool false ++ BitVec.ofBool false ++ BitVec.ofBool s.ring.silent ++
    BitVec.ofBool s.supervision.lost ++ BitVec.ofBool s.plant.storm ++ BitVec.ofBool s.allocator.floorShort ++
    BitVec.ofBool s.allocator.airShort

/-- The countdown's seconds left, rounded up; 0 while it is disabled (R148). A due countdown counts its last tenth (DESIGN CHOICE, log entry 17). -/
def Supervision.secondsLeft (c : Supervision) : Nat :=
  match c.countdown with
  | none => 0
  | some t => (max t 1 + 9) / 10

/-- A flag as a byte. -/
def flagByte (b : Bool) : Byte := if b then 1 else 0

/-- The 21 bytes of section 11.4. -/
def State.statusBytes (s : State) : List Byte :=
  [0xA8] ++ bytes16 s.management.generation ++ bytes32 s.timeCount ++
    s.lanes.rows.map (fun l => BitVec.ofNat 8 l.state.regime.code) ++
    [flagByte s.plant.storm, BitVec.ofNat 8 s.supervision.secondsLeft, s.levelBits, flagByte s.history.frozen,
     BitVec.ofNat 8 s.history.entries.length, flagByte s.management.commit.isSome]

/-! ### Store commits (R187, R188) -/

/-- COMMIT_STORE (R187): BUSY while a commit is in flight, else accepted with no reply. -/
def State.commitStore (src : Addr) (tag : Byte) (s : State) : Answered :=
  match s.management.commit with
  | some _ => s.answered .busy
  | none =>
    (s.withManagement { s.management with
      commit := some { settings := s.settings, target := s.management.commitTarget, source := src, tag := tag } }, none)

/-- The request code of COMMIT_STORE, which its completion reply carries (R181, R188). -/
def commitCode : Byte := 4

/-- The written image verified (R188 Success). -/
def State.commitSucceeds (c : Commit) (s : State) : State :=
  let g := s.management.generation + 1
  let s := s.withManagement { s.management with
    generation := g, images := s.management.images.set c.target (some { generation := g, settings := c.settings })
    current := some c.target }
  let s := s.send c.source (.reply commitCode c.tag .ok (bytes16 g))
  s.withManagement { s.management with commit := none }

/-- The written image failed its check (R188 Failure). -/
def State.commitFails (c : Commit) (s : State) : State :=
  let s := s.withManagement { s.management with images := s.management.images.set c.target none }
  let s := s.capture (.store 1 s.management.generation)
  let s := s.send c.source (.reply commitCode c.tag .storeFault [])
  (s.withManagement { s.management with commit := none }).raise (.event .storeFault)

/-- The commit's completion (R188); with no commit in flight there is none (DESIGN CHOICE, log entry 20). -/
def State.completeCommit (success : Bool) (s : State) : State :=
  match s.management.commit with
  | none => s
  | some c => if success then s.commitSucceeds c else s.commitFails c

/-! ### Requests of the other chapters -/

/-- RESTART (R189 up to its reply). -/
def State.performRestart (s : State) : Outcome :=
  match s.management.commit with
  | some _ => (s, .busy)
  | none => (s.warmRestart, .ok)

/-- LOCK_ROUTE (R33). -/
def State.lockEntry (entry : Byte) (s : State) : Outcome :=
  s.atIndex 64 entry fun i => (s.setRoute i { s.routes.get i with locked := true }, .ok)

/-- FORCE_POINT (R46). -/
def State.forcePoint (point : Byte) (value : Word32) (s : State) : Outcome :=
  s.atIndex 128 point fun p =>
    let c := (s.points.get p).config
    (s.force p value.toInt, Result.done (clampInt c.low c.high value.toInt != value.toInt))

/-- RELEASE_POINT (R47). -/
def State.releasePoint (point : Byte) (s : State) : Outcome := s.atIndex 128 point fun p => (s.release p, .ok)

/-- The regimes SET_REGIME may name (R73 step 2). -/
inductive Named where
  | offline | normal | economy
deriving DecidableEq, Repr

/-- The regime a code of SET_REGIME names; STORM, TRIPPED and codes above 4 are refused (R73 step 2). -/
def Named.ofCode (c : Byte) : Option Named :=
  match c.toNat with
  | 0 => some .offline
  | 1 => some .normal
  | 2 => some .economy
  | _ => none

/-- The table of R73, with step 4 on its diagonal and step 3 for a TRIPPED lane. -/
def State.decideRegime (k : LaneIdx) (n : Named) (s : State) : Outcome :=
  match (s.lanes.get k).state, n with
  | .tripped _, _ => (s, .wrongRegime)
  | .offline, .offline => (s, .ok)
  | .offline, .normal => (s.leaveOffline k .control, .ok)
  | .offline, .economy => if s.plant.storm then (s, .wrongRegime) else (s.leaveOffline k .economy, .ok)
  | .normal, .offline => (s.enterOffline k, .ok)
  | .normal, .normal => (s, .ok)
  | .normal, .economy =>
    if s.plant.storm then (s, .wrongRegime)
    else (s.changeRegime k (.economy (s.newCycle (s.lanes.get k).config)), .ok)
  | .economy _, .offline => (s.enterOffline k, .ok)
  | .economy _, .normal => (s.wakeLane k, .ok)
  | .economy _, .economy => (s, .ok)
  | .storm, .offline => (s.enterOffline k, .ok)
  | .storm, .normal => (s, .wrongRegime)
  | .storm, .economy => (s, .wrongRegime)

/-- SET_REGIME (R73). -/
def State.setRegime (lane regime : Byte) (s : State) : Outcome :=
  s.atIndex 8 lane fun k =>
    match Named.ofCode regime with
    | none => (s, .badArgument)
    | some n => s.decideRegime k n

/-- RESTORE_LANE (R72). -/
def State.restoreLane (lane : Byte) (s : State) : Outcome :=
  s.atIndex 8 lane fun k =>
    match (s.lanes.get k).state with
    | .tripped w => if s.isFired w then (s, .conditionPresent) else (s.restoreFrom k w, .ok)
    | .offline => (s, .notTripped)
    | .normal => (s, .notTripped)
    | .economy _ => (s, .notTripped)
    | .storm => (s, .notTripped)

/-- ACKNOWLEDGE (R170). -/
def State.acknowledge (watch : Byte) (s : State) : Outcome := s.atIndex 32 watch fun w => (s.acknowledgeWatch w, .ok)

/-- RELEASE_OUTPUT (R150). -/
def State.releaseOutput (output : Byte) (s : State) : Outcome := s.atIndex 64 output fun o => (s.changeOutput o .auto, .ok)

/-- REFRESH (R148): the lease in seconds, at least 5. -/
def State.refresh (seconds : Byte) (s : State) : Outcome :=
  let v := max 5 seconds.toNat
  let s := s.withSupervision { s.supervision with countdown := some (tenths v) }
  (s.setLevel .supervisionLost false, Result.done (decide (seconds.toNat < 5)))

/-- The number of entries READ_HISTORY wants (R179). -/
def historyCount (count : Byte) : Nat := clampNat 1 3 count.toNat

/-- READ_HISTORY (R179): the oldest entries, removed and returned. -/
def State.readHistory (count : Byte) (s : State) : Answered :=
  let n := historyCount count
  let taken := s.history.entries.take n
  (s.withHistory { s.history with entries := s.history.entries.drop n },
    some (Result.done (decide (n ≠ count.toNat)), BitVec.ofNat 8 taken.length :: taken.flatMap Entry.bytes))

/-- RESUME_CAPTURE (R178). -/
def State.resumeCapture (s : State) : Outcome := (s.withHistory { s.history with frozen := false }, .ok)

/-! ### The agent (R182, R183) -/

/-- A request's own checks and its effects (R183 step 4). -/
def State.perform (src : Addr) (tag : Byte) (r : Request) (s : State) : Answered :=
  match r with
  | .readFields t i f c => ((s.readFields t i f c).1, some (s.readFields t i f c).2)
  | .writeFields t i f n vs => (s.writeFields t i f n (vs.map BitVec.toInt)).answered
  | .readStatus => (s, some (.ok, s.statusBytes))
  | .commitStore => s.commitStore src tag
  | .restart => s.performRestart.answered
  | .lockRoute e => (s.lockEntry e).answered
  | .forcePoint p v => (s.forcePoint p v).answered
  | .releasePoint p => (s.releasePoint p).answered
  | .setRegime l g => (s.setRegime l g).answered
  | .restoreLane l => (s.restoreLane l).answered
  | .acknowledge w => (s.acknowledge w).answered
  | .releaseOutput o => (s.releaseOutput o).answered
  | .refresh v => (s.refresh v).answered
  | .readHistory n => s.readHistory n
  | .resumeCapture => s.resumeCapture.answered

/-- The checks of R183 steps 1 to 3, then the request's own. -/
def State.check (src : Addr) (tag : Byte) (r : Option Request) (s : State) : Answered :=
  if s.isSupervisor src = false then s.answered .notPermitted
  else match r with
    | none => s.answered .badRequest
    | some r => s.perform src tag r

/-- The reply, offered after every effect and every hand-over to the watch unit (R182). -/
def State.reply (src : Addr) (code tag : Byte) (a : Answered) : State :=
  match a.2 with
  | none => a.1.drain
  | some (result, data) => (a.1.drain.send src (.reply code tag result data)).drain

/-- One request at the management agent (R182, R183). -/
def State.agent (src : Addr) (code tag : Byte) (r : Option Request) (s : State) : State :=
  State.reply src code tag (s.check src tag r)

end Sys2Proof.Machine
end

