-- ==== Sys2Proof/Machine/RingIn.lean ====
section
/-! DEFINITION. Chapter 1: bytes at ring-in, the handling of a complete frame, the end of a frame on ring-out, and the requests that
arrive as whole frames (R4 to R11, R15, R16). -/
namespace Sys2Proof.Machine

/-- The receiver's bytes replaced. -/
def State.withReceived (bytes : List Byte) (s : State) : State := s.withRing { s.ring with received := bytes }

/-- A valid frame restarts the ring-silence timer and clears RING_SILENT (R15, R16). -/
def State.heard (s : State) : State := (s.startSilence.setLevel .ringSilent false).drain

/-- What becomes of a frame returned for forwarding (R9, R10): with hops 0 it ends here, else it joins the forward buffer with its
hops one less. -/
def State.forwardReturned (f : Frame) (s : State) : State :=
  if f.hops = 0 then s else (s.forwardFrame { f with hops := f.hops - 1 }).drain

/-- A frame at the route table and what it returns (R8 case 3, R9). -/
def State.routeFrame (f : Frame) (s : State) : State :=
  let r := s.route f
  match r.2 with
  | none => r.1
  | some g => r.1.forwardReturned g

/-- A frame addressed to the part (R7, R8 case 2): a MGMT_REQUEST of two bytes or more goes to the agent, any other is consumed. -/
def State.takeAddressed (f : Frame) (s : State) : State :=
  match Kind.ofCode f.kind, f.payload with
  | some .request, code :: tag :: args => s.agent f.src code tag (Request.decode code args)
  | _, _ => s

/-- A valid frame (R6, R8). -/
def State.takeValid (f : Frame) (s : State) : State :=
  let s := s.heard
  if f.src = s.ownAddress then s
  else if f.dst = s.ownAddress then s.takeAddressed f
  else s.routeFrame f

/-- A complete frame: discarded when its check or its item layout fails, else handled as a valid frame (R6). -/
def State.takeComplete (bytes : List Byte) (s : State) : State :=
  match parseFrame bytes with
  | none => s
  | some (f, check) => if check = checkOf f.covered ∧ f.itemsFit then s.takeValid f else s

/-- Bytes at ring-in, one after another (R4). -/
def State.feed : List Byte → State → State
  | [], s => s
  | b :: rest, s =>
    match receiveByte s.ring.received b with
    | .waiting held => State.feed rest (s.withReceived held)
    | .complete frame => State.feed rest ((s.withReceived []).takeComplete frame)

/-- Bytes at ring-in while it is connected straight to ring-out: ring-out carries them bit for bit, and the part does not check, count, time
or act on them; only where the frame in passage ends is followed (R2; DESIGN CHOICE of form, log entry 29). -/
def State.passThrough (bytes : List Byte) (s : State) : State :=
  s.withRing { s.ring with passing := bytes, inPassage := passageAfter s.ring.inPassage bytes }

/-- The line falls idle after the bytes: no frame is in passage (R2). -/
def State.passBroken (bytes : List Byte) (s : State) : State := s.withRing { s.ring with passing := bytes, inPassage := [] }

/-- Bytes at ring-in: the receiver takes them while the part runs (R4); in reset and bypass they go straight to ring-out (R2). -/
def State.receive (bytes : List Byte) (s : State) : State :=
  match s.power with
  | .running => s.feed bytes
  | .resetLow => s.passThrough bytes
  | .bypass => s.passThrough bytes

/-- Bytes at ring-in after which it falls idle before the frame is complete: the receiver discards them (R4); in reset and bypass they have
gone straight to ring-out (R2). -/
def State.receiveBroken (bytes : List Byte) (s : State) : State :=
  match s.power with
  | .running => (s.feed bytes).withReceived []
  | .resetLow => s.passBroken bytes
  | .bypass => s.passBroken bytes

/-- The last check byte of the frame on the line has been sent (R11); on an IDLE line there is none (DESIGN CHOICE, log entry 20). -/
def State.finishFrame (s : State) : State :=
  match s.ring.line with
  | some _ => s.withRing (s.ring.startNext s.ownAddress)
  | none => s

/-- A management request arrives as a whole valid frame addressed to the part (R6 to R8, R182; DESIGN CHOICE, log entry 1). Where the receiver
holds part of another frame, the request is carried out as if the receiver hunted and that part stays held (R4; DESIGN CHOICE, log entry 27). In
reset and bypass no request reaches the part (R2; DESIGN CHOICE, log entry 20). -/
def State.requestArrives (src : Addr) (code tag : Byte) (r : Option Request) (s : State) : State :=
  match s.power with
  | .running =>
    let s := s.heard
    if src = s.ownAddress then s else s.agent src code tag r
  | .resetLow => s
  | .bypass => s

end Sys2Proof.Machine
end

