-- ==== Sys2Proof/Machine/Expiries.lean ====
section
/-! DEFINITION. What the expiry of each of the part's timers does (R15, R43, R57, R62, R96, R104, R117, R118, R128, R145, R149, R169). -/
namespace Sys2Proof.Machine

/-- An expiry takes place while the part runs and the timer concerned runs, and the watch unit then takes what it raised; otherwise
there is no such event (DESIGN CHOICE, log entry 4). -/
def State.expire (running : Bool) (f : State → State) (s : State) : State :=
  match s.power with
  | .running => if running then (f s).drain else s
  | .resetLow => s
  | .bypass => s

/-- The ring-silence timer expires: RING_SILENT becomes active and the timer stops (R15). -/
def State.silenceExpires (s : State) : State := (s.withRing { s.ring with silence := none }).setLevel .ringSilent true

/-- The exit hold expires: the storm becomes INACTIVE (R62). -/
def State.exitHoldExpires (s : State) : State := (s.withPlant { s.plant with exitHold := none }).changeStorm false

/-- The lane's phase timer expires (R96); it runs only in ECONOMY. -/
def State.phaseExpires (k : LaneIdx) (s : State) : State :=
  match (s.lanes.get k).state with
  | .economy c => s.advancePhase k c
  | .offline => s
  | .normal => s
  | .storm => s
  | .tripped _ => s

/-- The outcome of a warm-up expiry by the blower's reading: the table of R117, followed also where the start timeout equals the warm-up, although
R117 then says that any reading but RUNNING leaves the blower STARTING (DESIGN CHOICE, log entry 31). -/
def State.endWarmUp (b : BlowerIdx) (timeout : Nat) (s : State) : State :=
  match s.driveReading (s.blowers.get b).config.statusPoint with
  | some .running => s.changeBlower b (s.blowers.get b).config.entersRunning
  | some .fault => s.failStart b
  | some .handControl => s.changeBlower b .handControl
  | some .stopped => s.setBlower b { s.blowers.get b with state := .starting none timeout }
  | none => s.setBlower b { s.blowers.get b with state := .starting none timeout }

/-- The warm-up of a blower expires (R117). -/
def State.warmUpExpires (b : BlowerIdx) (s : State) : State :=
  match (s.blowers.get b).state with
  | .starting (some _) timeout => s.endWarmUp b timeout
  | .starting none _ => s
  | .unknown => s
  | .stopped => s
  | .running _ => s
  | .stopping _ => s
  | .faulted => s
  | .handControl => s

/-- The rundown of a blower expires: run offered 0, then STOPPED (R118). -/
def State.rundownExpires (b : BlowerIdx) (s : State) : State := (s.offerRun b 0).changeBlower b .stopped

/-- The supervision countdown expires (R149). -/
def State.countdownExpires (s : State) : State :=
  let s := s.each (indices 64) fun o s => s.changeOutput o .auto
  (s.withSupervision { s.supervision with countdown := none }).setLevel .supervisionLost true

/-! ### Which timers run -/

/-- The phase timer of a lane, running in ECONOMY (R96). -/
def LaneState.phaseTimer (l : LaneState) : Option Nat := l.cycle?.map (·.timer)

/-- The warm-up timer of a blower. -/
def Blower.warmUpTimer (b : Blower) : Option Nat := b.state.timers.1

/-- The start-timeout timer of a blower. -/
def Blower.timeoutTimer (b : Blower) : Option Nat := b.state.timers.2.1

/-- The rundown timer of a blower. -/
def Blower.rundownTimer (b : Blower) : Option Nat := b.state.timers.2.2.1

end Sys2Proof.Machine
end

