-- ==== Sys2Proof/Machine/Commands.lean ====
section
/-! DEFINITION. The meaning of each command, one definition for each row of spec/opcode_table.json. Every command ends in a next state. -/
namespace Sys2Proof.Machine

/-- What a command answers. -/
abbrev Answer : Type := Host.Outcome State Fault Refusal

/-! ### Reset and start-up -/

/-- RESET_ASSERT (R2). -/
def execResetAssert (s : State) : Answer := .next s.assertReset

/-- START_UP (R190). -/
def execStartUp (straps : BitVec 8) (s : State) : Answer := .next (s.startUp straps)

/-- BYPASS_END (R2). -/
def execBypassEnd (s : State) : Answer := .next s.endBypass

/-! ### The ring -/

/-- FRAME_ARRIVAL (R4 to R10). -/
def execFrameArrival (bytes : List Byte) (s : State) : Answer := .next (s.receive bytes)

/-- RING_IN_IDLE_IN_FRAME (R4). -/
def execRingInIdleInFrame (bytes : List Byte) (s : State) : Answer := .next (s.receiveBroken bytes)

/-- FRAME_SENT (R11). -/
def execFrameSent (s : State) : Answer := .next s.finishFrame

/-! ### Timer expiries -/

/-- RING_SILENCE_EXPIRY (R15). -/
def execRingSilenceExpiry (s : State) : Answer := .next (s.expire s.ring.silence.isSome State.silenceExpires)

/-- AGE_EXPIRY (R43). -/
def execAgeExpiry (p : PointIdx) (s : State) : Answer := .next (s.expire (s.points.get p).age.isSome (State.agePoint p))

/-- EXIT_HOLD_EXPIRY (R62). -/
def execExitHoldExpiry (s : State) : Answer := .next (s.expire s.plant.exitHold.isSome State.exitHoldExpires)

/-- LANE_PERIOD_EXPIRY (R58). -/
def execLanePeriodExpiry (k : LaneIdx) (s : State) : Answer :=
  .next (s.expire (s.lanes.get k).timer.isSome (State.lanePeriod k))

/-- PHASE_EXPIRY (R96). -/
def execPhaseExpiry (k : LaneIdx) (s : State) : Answer :=
  .next (s.expire (s.lanes.get k).state.phaseTimer.isSome (State.phaseExpires k))

/-- ALLOCATION_EXPIRY (R104, R106). -/
def execAllocationExpiry (s : State) : Answer := .next (s.expire s.allocator.timer.isSome State.allocate)

/-- WARM_UP_EXPIRY (R117). -/
def execWarmUpExpiry (b : BlowerIdx) (s : State) : Answer :=
  .next (s.expire (s.blowers.get b).warmUpTimer.isSome (State.warmUpExpires b))

/-- START_TIMEOUT_EXPIRY (R117). -/
def execStartTimeoutExpiry (b : BlowerIdx) (s : State) : Answer :=
  .next (s.expire (s.blowers.get b).timeoutTimer.isSome (State.failStart b))

/-- RUNDOWN_EXPIRY (R118). -/
def execRundownExpiry (b : BlowerIdx) (s : State) : Answer :=
  .next (s.expire (s.blowers.get b).rundownTimer.isSome (State.rundownExpires b))

/-- PACING_EXPIRY (R129). -/
def execPacingExpiry (r : LineIdx) (s : State) : Answer := .next (s.expire (s.returns.get r).timer.isSome (State.pace r))

/-- RESEND_EXPIRY (R145). -/
def execResendExpiry (o : OutputIdx) (s : State) : Answer := .next (s.expire (s.outputs.get o).resendTimer.isSome (State.resend o))

/-- COUNTDOWN_EXPIRY (R149). -/
def execCountdownExpiry (s : State) : Answer := .next (s.expire s.supervision.countdown.isSome State.countdownExpires)

/-- HOLD_EXPIRY (R169). -/
def execHoldExpiry (w : WatchIdx) (s : State) : Answer :=
  .next (s.expire (s.watches.get w).state.hold?.isSome (State.holdExpires w))

/-! ### The store -/

/-- COMMIT_COMPLETION (R188). -/
def execCommitCompletion (success : Bool) (s : State) : Answer := .next (s.completeCommit success).drain

/-! ### Management requests -/

/-- BAD_REQUEST (R183): any request code with raw argument bytes; a code and bytes that spell a request run as that request (DESIGN CHOICE, log entry 2). -/
def execBadRequest (src : Addr) (tag code : Byte) (args : List Byte) (s : State) : Answer :=
  .next (s.requestArrives src code tag (Request.decode code args))

/-- READ_FIELDS (R184). -/
def execReadFields (src : Addr) (tag table index first count : Byte) (s : State) : Answer :=
  .next (s.requestArrives src 1 tag (some (.readFields table index first count)))

/-- WRITE_FIELDS on ROUTE (R31). -/
def execWriteFieldsRoute (src : Addr) (tag index first : Byte) (vs : List Word32) (s : State) : Answer :=
  .next (s.requestArrives src 2 tag (some (.writeFields TableName.route.code index first vs.length vs)))

/-- WRITE_FIELDS on POINT (R48). -/
def execWriteFieldsPoint (src : Addr) (tag index first : Byte) (vs : List Word32) (s : State) : Answer :=
  .next (s.requestArrives src 2 tag (some (.writeFields TableName.point.code index first vs.length vs)))

/-- WRITE_FIELDS on OUTPUT (R140). -/
def execWriteFieldsOutput (src : Addr) (tag index first : Byte) (vs : List Word32) (s : State) : Answer :=
  .next (s.requestArrives src 2 tag (some (.writeFields TableName.output.code index first vs.length vs)))

/-- WRITE_FIELDS on LANE (R55). -/
def execWriteFieldsLane (src : Addr) (tag index first : Byte) (vs : List Word32) (s : State) : Answer :=
  .next (s.requestArrives src 2 tag (some (.writeFields TableName.lane.code index first vs.length vs)))

/-- WRITE_FIELDS on ZONE (R80). -/
def execWriteFieldsZone (src : Addr) (tag index first : Byte) (vs : List Word32) (s : State) : Answer :=
  .next (s.requestArrives src 2 tag (some (.writeFields TableName.zone.code index first vs.length vs)))

/-- WRITE_FIELDS on BLOWER (R113). -/
def execWriteFieldsBlower (src : Addr) (tag index first : Byte) (vs : List Word32) (s : State) : Answer :=
  .next (s.requestArrives src 2 tag (some (.writeFields TableName.blower.code index first vs.length vs)))

/-- WRITE_FIELDS on RETURN (R127). -/
def execWriteFieldsReturn (src : Addr) (tag index first : Byte) (vs : List Word32) (s : State) : Answer :=
  .next (s.requestArrives src 2 tag (some (.writeFields TableName.returnLine.code index first vs.length vs)))

/-- WRITE_FIELDS on WATCH (R157). -/
def execWriteFieldsWatch (src : Addr) (tag index first : Byte) (vs : List Word32) (s : State) : Answer :=
  .next (s.requestArrives src 2 tag (some (.writeFields TableName.watch.code index first vs.length vs)))

/-- WRITE_FIELDS on PLANT (R59). -/
def execWriteFieldsPlant (src : Addr) (tag index first : Byte) (vs : List Word32) (s : State) : Answer :=
  .next (s.requestArrives src 2 tag (some (.writeFields TableName.plant.code index first vs.length vs)))

/-- WRITE_FIELDS on ALLOCATOR (R103). -/
def execWriteFieldsAllocator (src : Addr) (tag index first : Byte) (vs : List Word32) (s : State) : Answer :=
  .next (s.requestArrives src 2 tag (some (.writeFields TableName.allocator.code index first vs.length vs)))

/-- READ_STATUS (R186). -/
def execReadStatus (src : Addr) (tag : Byte) (s : State) : Answer := .next (s.requestArrives src 3 tag (some .readStatus))

/-- COMMIT_STORE (R187). -/
def execCommitStore (src : Addr) (tag : Byte) (s : State) : Answer := .next (s.requestArrives src 4 tag (some .commitStore))

/-- RESTART (R189). -/
def execRestart (src : Addr) (tag : Byte) (s : State) : Answer := .next (s.requestArrives src 5 tag (some .restart))

/-- LOCK_ROUTE (R33). -/
def execLockRoute (src : Addr) (tag entry : Byte) (s : State) : Answer :=
  .next (s.requestArrives src 6 tag (some (.lockRoute entry)))

/-- FORCE_POINT (R46). -/
def execForcePoint (src : Addr) (tag point : Byte) (value : Word32) (s : State) : Answer :=
  .next (s.requestArrives src 7 tag (some (.forcePoint point value)))

/-- RELEASE_POINT (R47). -/
def execReleasePoint (src : Addr) (tag point : Byte) (s : State) : Answer :=
  .next (s.requestArrives src 8 tag (some (.releasePoint point)))

/-- SET_REGIME (R73). -/
def execSetRegime (src : Addr) (tag lane regime : Byte) (s : State) : Answer :=
  .next (s.requestArrives src 9 tag (some (.setRegime lane regime)))

/-- RESTORE_LANE (R72). -/
def execRestoreLane (src : Addr) (tag lane : Byte) (s : State) : Answer :=
  .next (s.requestArrives src 10 tag (some (.restoreLane lane)))

/-- ACKNOWLEDGE (R170). -/
def execAcknowledge (src : Addr) (tag watch : Byte) (s : State) : Answer :=
  .next (s.requestArrives src 11 tag (some (.acknowledge watch)))

/-- RELEASE_OUTPUT (R150). -/
def execReleaseOutput (src : Addr) (tag output : Byte) (s : State) : Answer :=
  .next (s.requestArrives src 12 tag (some (.releaseOutput output)))

/-- REFRESH (R148). -/
def execRefresh (src : Addr) (tag seconds : Byte) (s : State) : Answer :=
  .next (s.requestArrives src 13 tag (some (.refresh seconds)))

/-- READ_HISTORY (R179). -/
def execReadHistory (src : Addr) (tag count : Byte) (s : State) : Answer :=
  .next (s.requestArrives src 14 tag (some (.readHistory count)))

/-- RESUME_CAPTURE (R178). -/
def execResumeCapture (src : Addr) (tag : Byte) (s : State) : Answer := .next (s.requestArrives src 15 tag (some .resumeCapture))

end Sys2Proof.Machine
end

