-- ==== Sys2Proof/Machine/Dispatch.lean ====
section
/-! DEFINITION. One arm for each command: its meaning. -/
namespace Sys2Proof.Machine

/-- The effect of a command on everything but the queue. -/
def exec (i : Instr) (s : State) : Host.Outcome State Fault Refusal :=
  match i with
  | .resetAssert => Sys2Proof.Machine.execResetAssert s
  | .startUp straps => Sys2Proof.Machine.execStartUp straps s
  | .bypassEnd => Sys2Proof.Machine.execBypassEnd s
  | .frameArrival bytes => Sys2Proof.Machine.execFrameArrival bytes s
  | .frameSent => Sys2Proof.Machine.execFrameSent s
  | .ringSilenceExpiry => Sys2Proof.Machine.execRingSilenceExpiry s
  | .ageExpiry point => Sys2Proof.Machine.execAgeExpiry point s
  | .exitHoldExpiry => Sys2Proof.Machine.execExitHoldExpiry s
  | .lanePeriodExpiry lane => Sys2Proof.Machine.execLanePeriodExpiry lane s
  | .phaseExpiry lane => Sys2Proof.Machine.execPhaseExpiry lane s
  | .allocationExpiry => Sys2Proof.Machine.execAllocationExpiry s
  | .warmUpExpiry blower => Sys2Proof.Machine.execWarmUpExpiry blower s
  | .startTimeoutExpiry blower => Sys2Proof.Machine.execStartTimeoutExpiry blower s
  | .rundownExpiry blower => Sys2Proof.Machine.execRundownExpiry blower s
  | .pacingExpiry line => Sys2Proof.Machine.execPacingExpiry line s
  | .resendExpiry output => Sys2Proof.Machine.execResendExpiry output s
  | .countdownExpiry => Sys2Proof.Machine.execCountdownExpiry s
  | .holdExpiry watch => Sys2Proof.Machine.execHoldExpiry watch s
  | .commitCompletion success => Sys2Proof.Machine.execCommitCompletion success s
  | .badRequest src tag code args => Sys2Proof.Machine.execBadRequest src tag code args s
  | .readFields src tag table index first count => Sys2Proof.Machine.execReadFields src tag table index first count s
  | .writeFieldsRoute src tag index first vs => Sys2Proof.Machine.execWriteFieldsRoute src tag index first vs s
  | .writeFieldsPoint src tag index first vs => Sys2Proof.Machine.execWriteFieldsPoint src tag index first vs s
  | .writeFieldsOutput src tag index first vs => Sys2Proof.Machine.execWriteFieldsOutput src tag index first vs s
  | .writeFieldsLane src tag index first vs => Sys2Proof.Machine.execWriteFieldsLane src tag index first vs s
  | .writeFieldsZone src tag index first vs => Sys2Proof.Machine.execWriteFieldsZone src tag index first vs s
  | .writeFieldsBlower src tag index first vs => Sys2Proof.Machine.execWriteFieldsBlower src tag index first vs s
  | .writeFieldsReturn src tag index first vs => Sys2Proof.Machine.execWriteFieldsReturn src tag index first vs s
  | .writeFieldsWatch src tag index first vs => Sys2Proof.Machine.execWriteFieldsWatch src tag index first vs s
  | .writeFieldsPlant src tag index first vs => Sys2Proof.Machine.execWriteFieldsPlant src tag index first vs s
  | .writeFieldsAllocator src tag index first vs => Sys2Proof.Machine.execWriteFieldsAllocator src tag index first vs s
  | .readStatus src tag => Sys2Proof.Machine.execReadStatus src tag s
  | .commitStore src tag => Sys2Proof.Machine.execCommitStore src tag s
  | .restart src tag => Sys2Proof.Machine.execRestart src tag s
  | .lockRoute src tag entry => Sys2Proof.Machine.execLockRoute src tag entry s
  | .forcePoint src tag point value => Sys2Proof.Machine.execForcePoint src tag point value s
  | .releasePoint src tag point => Sys2Proof.Machine.execReleasePoint src tag point s
  | .setRegime src tag lane regime => Sys2Proof.Machine.execSetRegime src tag lane regime s
  | .restoreLane src tag lane => Sys2Proof.Machine.execRestoreLane src tag lane s
  | .acknowledge src tag watch => Sys2Proof.Machine.execAcknowledge src tag watch s
  | .releaseOutput src tag output => Sys2Proof.Machine.execReleaseOutput src tag output s
  | .refresh src tag seconds => Sys2Proof.Machine.execRefresh src tag seconds s
  | .readHistory src tag count => Sys2Proof.Machine.execReadHistory src tag count s
  | .resumeCapture src tag => Sys2Proof.Machine.execResumeCapture src tag s
  | .ringInIdleInFrame bytes => Sys2Proof.Machine.execRingInIdleInFrame bytes s

end Sys2Proof.Machine
end

