-- ==== Sys2Proof/Machine/Timers.lean ====
section
/-! DEFINITION. The part's own time: a tick of 0.1 s, and the expiries that are due (00_scope "Time"; DESIGN CHOICE, log entries 5 and 8). -/
namespace Sys2Proof.Machine

/-- A timer runs out of tenths: its expiry is due. -/
def isDue (t : Option Nat) : Bool := t == some 0

/-- The indices at which a timer is due. -/
def dueAt (n : Nat) (timer : Fin n → Option Nat) : List (Fin n) := (indices n).filter fun i => isDue (timer i)

/-- The expiries that are due while the part runs. -/
def State.dueExpiries (s : State) : List Instr :=
  match s.power with
  | .resetLow => []
  | .bypass => []
  | .running =>
    (if isDue s.ring.silence then [Instr.ringSilenceExpiry] else []) ++
    (dueAt 128 fun p => (s.points.get p).age).map .ageExpiry ++
    (if isDue s.plant.exitHold then [.exitHoldExpiry] else []) ++
    (dueAt 8 fun k => (s.lanes.get k).timer).map .lanePeriodExpiry ++
    (dueAt 8 fun k => (s.lanes.get k).state.phaseTimer).map .phaseExpiry ++
    (if isDue s.allocator.timer then [.allocationExpiry] else []) ++
    (dueAt 6 fun b => (s.blowers.get b).warmUpTimer).map .warmUpExpiry ++
    (dueAt 6 fun b => (s.blowers.get b).timeoutTimer).map .startTimeoutExpiry ++
    (dueAt 6 fun b => (s.blowers.get b).rundownTimer).map .rundownExpiry ++
    (dueAt 4 fun r => (s.returns.get r).timer).map .pacingExpiry ++
    (dueAt 64 fun o => (s.outputs.get o).resendTimer).map .resendExpiry ++
    (if isDue s.supervision.countdown then [.countdownExpiry] else []) ++
    (dueAt 32 fun w => (s.watches.get w).state.hold?).map .holdExpiry

/-! ### A tick -/

/-- One tenth off a running timer. -/
def countDown (t : Option Nat) : Option Nat := t.map (· - 1)

/-- One tenth off the phase timer of a lane in ECONOMY. -/
def LaneState.tick : LaneState → LaneState
  | .economy c => .economy { c with timer := c.timer - 1 }
  | .offline => .offline
  | .normal => .normal
  | .storm => .storm
  | .tripped w => .tripped w

/-- One tenth off a blower's running timers. -/
def BlowerState.tick : BlowerState → BlowerState
  | .starting w t => .starting (countDown w) (t - 1)
  | .stopping r => .stopping (r - 1)
  | .unknown => .unknown
  | .stopped => .stopped
  | .running p => .running p
  | .faulted => .faulted
  | .handControl => .handControl

/-- One tenth off a FIRED watch's hold timer. -/
def WatchState.tick : WatchState → WatchState
  | .fired h => .fired (countDown h)
  | .off => .off
  | .waiting => .waiting
  | .armed => .armed

/-- One tenth off every timer that runs. -/
def State.tickTimers (s : State) : State :=
  { s with
    ring := { s.ring with silence := countDown s.ring.silence }
    points := s.points.map fun p => { p with age := countDown p.age }
    plant := { s.plant with exitHold := countDown s.plant.exitHold }
    lanes := s.lanes.map fun l => { l with timer := countDown l.timer, state := l.state.tick }
    allocator := { s.allocator with timer := countDown s.allocator.timer }
    blowers := s.blowers.map fun b => { b with state := b.state.tick }
    returns := s.returns.map fun r => { r with timer := countDown r.timer }
    outputs := s.outputs.map fun o => { o with resendTimer := countDown o.resendTimer }
    supervision := { s.supervision with countdown := countDown s.supervision.countdown }
    watches := s.watches.map fun w => { w with state := w.state.tick } }

/-- The time count grows by one tenth, wrapping (00_scope "Time"). -/
def State.tickCount (s : State) : State := s.withTimeCount (s.timeCount + 1)

/-- A tick of 0.1 s: while RESETn is low nothing counts, in bypass the time count alone counts (R190), then every running timer too. -/
def State.tick (s : State) : State :=
  match s.power with
  | .resetLow => s
  | .bypass => s.tickCount
  | .running => s.tickCount.tickTimers

end Sys2Proof.Machine
end

