-- ==== Sys2Proof/Machine/Step.lean ====
section
/-! DEFINITION. One step: the command at the front of the queue, or, with none waiting, the part's own time. -/
namespace Sys2Proof.Machine

/-- With no command waiting, one due expiry takes place, or a tick of 0.1 s passes (DESIGN CHOICE, log entry 5). Among several due expiries the
order is open (DESIGN CHOICE, log entry 8). -/
def idle (s : State) : Host.Outcome State Fault Refusal :=
  let due := s.dueExpiries
  match due[(s.choose due.length).1]? with
  | some i => exec i (s.choose due.length).2
  | none => .next s.tick

/-- One step of the part. -/
def step (s : State) : Host.Outcome State Fault Refusal :=
  match s.pending with
  | c :: rest => exec c (s.withPending rest)
  | [] => idle s

/-- The state with the command a word spells put at the front of its queue; no word spells a command (`decodeTableWord`). -/
def State.withFetchWord (s : State) (nbits w : Nat) : State :=
  match decodeTableWord nbits w with
  | some i => s.withPending (i :: s.pending)
  | none => s

end Sys2Proof.Machine
end

