-- ==== Sys2Proof/WellFormed.lean ====
section
/-! DEFINITION. The commands a ring frame can carry: a MGMT_REQUEST payload holds a request code, a tag and at most 46
argument bytes (R3), so the argument bytes and the values of a command are limited. -/
namespace Sys2Proof

/-- The most argument bytes a MGMT_REQUEST carries (R3). -/
def maxArgumentBytes : Nat := 46

/-- A run of written values fits one request: 4 bytes of table, index, first field and count, then 4 for
each value (R181). -/
def valuesFit (values : List Word32) : Bool := decide (4 + 4 * values.length ≤ maxArgumentBytes)

/-- The command can be carried by one frame; every command that is not a request can occur as it stands. -/
def Instr.wf : Instr → Bool
  | .badRequest _ _ _ args => decide (args.length ≤ maxArgumentBytes)
  | .writeFieldsRoute _ _ _ _ vs => valuesFit vs
  | .writeFieldsPoint _ _ _ _ vs => valuesFit vs
  | .writeFieldsOutput _ _ _ _ vs => valuesFit vs
  | .writeFieldsLane _ _ _ _ vs => valuesFit vs
  | .writeFieldsZone _ _ _ _ vs => valuesFit vs
  | .writeFieldsBlower _ _ _ _ vs => valuesFit vs
  | .writeFieldsReturn _ _ _ _ vs => valuesFit vs
  | .writeFieldsWatch _ _ _ _ vs => valuesFit vs
  | .writeFieldsPlant _ _ _ _ vs => valuesFit vs
  | .writeFieldsAllocator _ _ _ _ vs => valuesFit vs
  | .resetAssert => true
  | .startUp _ => true
  | .bypassEnd => true
  | .frameArrival _ => true
  | .frameSent => true
  | .ringSilenceExpiry => true
  | .ageExpiry _ => true
  | .exitHoldExpiry => true
  | .lanePeriodExpiry _ => true
  | .phaseExpiry _ => true
  | .allocationExpiry => true
  | .warmUpExpiry _ => true
  | .startTimeoutExpiry _ => true
  | .rundownExpiry _ => true
  | .pacingExpiry _ => true
  | .resendExpiry _ => true
  | .countdownExpiry => true
  | .holdExpiry _ => true
  | .commitCompletion _ => true
  | .readFields _ _ _ _ _ _ => true
  | .readStatus _ _ => true
  | .commitStore _ _ => true
  | .restart _ _ => true
  | .lockRoute _ _ _ => true
  | .forcePoint _ _ _ _ => true
  | .releasePoint _ _ _ => true
  | .setRegime _ _ _ _ => true
  | .restoreLane _ _ _ => true
  | .acknowledge _ _ _ => true
  | .releaseOutput _ _ _ => true
  | .refresh _ _ _ => true
  | .readHistory _ _ _ => true
  | .resumeCapture _ _ => true
  | .ringInIdleInFrame _ => true

end Sys2Proof
end

