-- ==== Sys2Proof/Safety.lean ====
section
/-! DEFINITION. The terms claims use: the checks a configuration has passed, the invariants of each block, the full-reset state, a calm
watch unit, and a request that is answered without further effect. -/
namespace Sys2Proof.Machine

/-! ### Configurations that have passed the checks of their tables -/

/-- A route entry: ranges, and the base aligned to the block (R19, R31). -/
abbrev RouteConfig.Sound (c : RouteConfig) : Prop :=
  c.exponent ≤ 15 ∧ c.pointBase ≤ 127 ∧ (c.channels = 1 ∨ c.channels = 2 ∨ c.channels = 4 ∨ c.channels = 8) ∧
    clearLow c.exponent c.base = c.base

/-- A point: ranges, a range in order, and no negative range low for a quantity that cannot be negative (R36, R48). -/
abbrev PointConfig.Sound (c : PointConfig) : Prop :=
  -8388608 ≤ c.low ∧ c.low ≤ c.high ∧ c.high ≤ 8388607 ∧ c.ageLimit ≤ 65535 ∧ c.shift ≤ 7 ∧
    (c.kind.nonNegative = true → 0 ≤ c.low)

/-- An output: limits in order, the trip value within them (R140). -/
abbrev OutputConfig.Sound (c : OutputConfig) : Prop :=
  -8388608 ≤ c.low ∧ c.low ≤ c.trip ∧ c.trip ≤ c.high ∧ c.high ≤ 8388607 ∧ 0 ≤ c.deadband ∧ c.resend ≤ 3600

/-- A lane: period, zone count and cycle length in range, trim bounds in order (R55). -/
abbrev LaneConfig.Sound (c : LaneConfig) : Prop :=
  1 ≤ c.period ∧ c.period ≤ 60 ∧ 1 ≤ c.zoneCount ∧ c.zoneCount ≤ 4 ∧ 1 ≤ c.dwellMinutes ∧ c.dwellMinutes ≤ 240 ∧
    c.trimLow ≤ c.trimHigh ∧ 60 ≤ c.cycleLength ∧ c.cycleLength ≤ 3600 ∧ 0 ≤ c.minimumOn ∧ c.minimumOn ≤ 64

/-- A zone: setpoints and air flows in range, min air not above max air (R80). -/
abbrev ZoneConfig.Sound (c : ZoneConfig) : Prop :=
  200 ≤ c.baseSetpoint ∧ c.baseSetpoint ≤ 4000 ∧ 200 ≤ c.stormSetpoint ∧ c.stormSetpoint ≤ 4000 ∧ c.biasAir ≤ 65535 ∧
    c.minAir ≤ c.maxAir ∧ c.maxAir ≤ 65535 ∧ c.fixedAir ≤ 65535 ∧ c.tripAir ≤ 65535 ∧ 1 ≤ c.valveRate ∧ c.valveRate ≤ 1000

/-- A blower: cmin not above cmax, the start timeout not below the warm-up (R113). -/
abbrev BlowerConfig.Sound (c : BlowerConfig) : Prop :=
  c.cmin ≤ c.cmax ∧ c.cmax ≤ 65535 ∧ 10 ≤ c.warmUp ∧ c.warmUp ≤ c.timeout ∧ c.timeout ≤ 900 ∧ 5 ≤ c.rundown ∧ c.rundown ≤ 300

/-- A return line: min flow not above max flow (R127). -/
abbrev ReturnConfig.Sound (c : ReturnConfig) : Prop :=
  c.minFlow ≤ c.maxFlow ∧ c.maxFlow ≤ 8388607 ∧ 10 ≤ c.period ∧ c.period ≤ 600 ∧ c.ratio ≤ 2000

/-- A watch at an index: test and stage link suit, the OUTSIDE bounds are in order, persistence 1 on a level condition (R157). -/
abbrev WatchConfig.Sound (c : WatchConfig) (w : WatchIdx) : Prop :=
  c.testSuits = true ∧ c.linkSuits w = true ∧ (c.test = .outside → c.low ≤ c.high) ∧
    (c.subject.isLevel = true → c.persistence = 1) ∧ 1 ≤ c.persistence ∧ c.persistence ≤ 256 ∧ 1 ≤ c.hold ∧ c.hold ≤ 3600

/-- The plant record: the exit level not above the enter level (R59). -/
abbrev PlantConfig.Sound (c : PlantConfig) : Prop :=
  c.exitLevel ≤ c.enterLevel ∧ 10 ≤ c.stormHold ∧ c.stormHold ≤ 7200 ∧ 1 ≤ c.silenceTime ∧ c.silenceTime ≤ 60

/-- The allocator record (R103). -/
abbrev AllocatorConfig.Sound (c : AllocatorConfig) : Prop :=
  5 ≤ c.period ∧ c.period ≤ 60 ∧ 1 ≤ c.upDelay ∧ c.upDelay ≤ 60 ∧ 1 ≤ c.downDelay ∧ c.downDelay ≤ 60

/-- A zone names only an output of kind ZONE_VALVE that carries the zone's index as its owner (R80, R140). -/
abbrev ZoneConfig.NamesOwnValve (c : ZoneConfig) (z : ZoneIdx) (outputs : Table 64 OutputConfig) : Prop :=
  ∀ o, c.valveOutput = some o → (outputs.get o).kind = .zoneValve ∧ (outputs.get o).owner = z

/-- Blowers in service hold different lead ranks (R113 check 3). -/
abbrev Settings.RanksDiffer (g : Settings) : Prop :=
  ∀ b c : BlowerIdx, (g.blowers.get b).inService = true → (g.blowers.get c).inService = true →
    (g.blowers.get b).rank = (g.blowers.get c).rank → b = c

/-- A whole configuration that has passed every check of the field tables. -/
structure Settings.Sound (g : Settings) : Prop where
  routes : ∀ i, (g.routes.get i).Sound
  points : ∀ i, (g.points.get i).Sound
  outputs : ∀ i, (g.outputs.get i).Sound
  lanes : ∀ i, (g.lanes.get i).Sound
  zones : ∀ i, (g.zones.get i).Sound
  valves : ∀ z, (g.zones.get z).NamesOwnValve z g.outputs
  blowers : ∀ i, (g.blowers.get i).Sound
  ranks : g.RanksDiffer
  returns : ∀ i, (g.returns.get i).Sound
  watches : ∀ i, (g.watches.get i).Sound i
  plant : g.plant.Sound
  allocator : g.allocator.Sound

/-- A pending set whose values, when applied, have passed the checks of their tables (R55, R80). -/
abbrev Pending.Sound (p : Pending) (k : LaneIdx) (outputs : Table 64 OutputConfig) : Prop :=
  p.lane.Sound ∧ ∀ i, (p.zones.get i).Sound ∧ (p.zones.get i).NamesOwnValve (zoneAt k i) outputs

/-- Every configuration the part holds (in force, pending, in a snapshot, in a valid image) has passed every check. -/
structure State.SettingsSound (s : State) : Prop where
  inForce : s.settings.Sound
  staged : ∀ k p, (s.lanes.get k).pending = some p → p.Sound k s.settings.outputs
  snapshot : ∀ c, s.management.commit = some c → c.settings.Sound
  images : ∀ i image, s.management.images.get i = some image → image.settings.Sound

/-! ### Invariants of the blocks -/

/-- The ring interface: buffer, queue and run count within bounds, never two queued COMMANDs of one output, nothing waits at an IDLE line,
nothing passes through a bypass that has ended, and nothing is received before that (R2, R10, R11, R13). -/
structure State.RingSound (s : State) : Prop where
  forward : s.ring.forward.length ≤ 4
  transmit : s.ring.transmit.length ≤ 16
  runCount : s.ring.runCount ≤ 4
  owners : (s.ring.transmit.filterMap (·.body.owner)).Nodup
  idle : s.ring.line = none → s.ring.forward = [] ∧ s.ring.transmit = []
  passing : s.power = .running → s.ring.passing = [] ∧ s.ring.inPassage = []
  receiving : s.power ≠ .running → s.ring.received = []

/-- The history holds at most 64 entries, with consecutive capture numbers, the newest just below the capture number (R175). -/
structure State.HistorySound (s : State) : Prop where
  bounded : s.history.entries.length ≤ 64
  consecutive : ∀ i (h : i < s.history.entries.length),
    (s.history.entries[i]).number = s.history.next - BitVec.ofNat 16 (s.history.entries.length - i)

/-- An output holds no value outside its limits, and its resend timer runs exactly while it has a value and an interval (R139). -/
abbrev Output.Sound (o : Output) : Prop :=
  (∀ v, o.last = some v → o.config.low ≤ v ∧ v ≤ o.config.high) ∧
    (o.resendTimer.isSome = true ↔ o.last.isSome = true ∧ o.config.resend ≠ 0) ∧
    (o.config.destination = 0 → o.last = none)

/-- A return line's target lies within its bounds, and is 0 in STOPPED (R126). -/
abbrev ReturnLine.Sound (l : ReturnLine) : Prop :=
  match l.state with
  | .stopped => l.target = 0
  | .heldStorm h => l.target = h ∧ l.config.minFlow ≤ h ∧ h ≤ l.config.maxFlow
  | .pacing => l.config.minFlow ≤ l.target ∧ l.target ≤ l.config.maxFlow
  | .heldStale => l.config.minFlow ≤ l.target ∧ l.target ≤ l.config.maxFlow
  | .heldManual => l.config.minFlow ≤ l.target ∧ l.target ≤ l.config.maxFlow

/-- A zone's setpoint lies within 200 to 4000, its demand and grant within 65535 (R81, R90). -/
abbrev Zone.Sound (zn : Zone) : Prop :=
  200 ≤ zn.setpoint ∧ zn.setpoint ≤ 4000 ∧ zn.demand ≤ 65535 ∧ ∀ g, zn.grant = some g → g ≤ 65535

/-- The values the part commands, holds and asks for stay within their bounds, and an idle zone asks for no air (R82). -/
structure State.ValuesSound (s : State) : Prop where
  settings : s.SettingsSound
  outputs : ∀ o, (s.outputs.get o).Sound
  returns : ∀ r, (s.returns.get r).Sound
  zones : ∀ z, (s.zones.get z).Sound
  idle : ∀ z, s.isIdle z = true → (s.zones.get z).demand = 0

/-- Regimes and the storm agree: a lane is in STORM only in a storm, in NORMAL and ECONOMY only outside one, the exit hold runs only in a
storm, and the dwell counts only in NORMAL (R53, R60, R61, R63, R64). -/
structure State.StormSound (s : State) : Prop where
  storm : ∀ k, (s.lanes.get k).state.regime = .storm → s.plant.storm = true
  normal : ∀ k, (s.lanes.get k).state.regime = .normal → s.plant.storm = false
  economy : ∀ k, (s.lanes.get k).state.regime = .economy → s.plant.storm = false
  hold : s.plant.exitHold.isSome = true → s.plant.storm = true
  dwell : ∀ k, (s.lanes.get k).state.regime ≠ .normal → (s.lanes.get k).dwell = 0

/-- No output is SUPERVISED while the countdown is disabled, and no zone valve output of a TRIPPED lane is SUPERVISED (R141). -/
structure State.OverridesSound (s : State) : Prop where
  leased : s.supervision.countdown = none → ∀ o, (s.outputs.get o).state = .auto
  tripped : ∀ o, s.servesTripped (s.outputs.get o).config = true → (s.outputs.get o).state = .auto
  lost : s.supervision.lost = true → s.supervision.countdown = none

/-- At most one blower is STARTING or STOPPING (R120), and a RUNNING blower is stop-pending exactly while it is not in service (R119). -/
structure State.BlowersSound (s : State) : Prop where
  one : ∀ b c : BlowerIdx, (s.blowers.get b).state.inTransition = true → (s.blowers.get c).state.inTransition = true → b = c
  pending : ∀ b p, (s.blowers.get b).state = .running p → p = !(s.blowers.get b).config.inService

/-- A watch's state agrees with its enable and its stage link, its count stays below its persistence, and a hold runs only with rearm
AUTO (R156, R157, R159, R163, R164). -/
abbrev State.WatchSound (s : State) (w : Watch) : Prop :=
  (w.state = .off ↔ w.config.enable = false) ∧ (w.state = .waiting → s.stageFired w.config = false) ∧
    (w.state = .armed → s.stageFired w.config = true) ∧ w.count ≤ w.config.persistence - 1 ∧
    (w.state.hold?.isSome = true → w.config.rearm = .auto)

/-- The watch unit between steps: every watch sound, and no arrival left waiting (R160). -/
structure State.WatchesSound (s : State) : Prop where
  watches : ∀ w, s.WatchSound (s.watches.get w)
  taken : s.raised = []

/-- Which timers run (R15, R57, R104, R128, R188): in a running part the allocation and pacing timers run, a lane's timer runs outside
OFFLINE alone, the ring-silence timer runs while RING_SILENT is inactive, and a commit is in flight only then; in bypass the condition is
inactive. -/
structure State.TimersSound (s : State) : Prop where
  allocation : s.power = .running → s.allocator.timer.isSome = true
  pacing : s.power = .running → ∀ r, (s.returns.get r).timer.isSome = true
  lanes : s.power = .running → ∀ k, (s.lanes.get k).timer.isSome = true ↔ (s.lanes.get k).state.regime ≠ .offline
  silence : s.power = .running → s.ring.silence.isSome = !s.ring.silent
  bypass : s.power = .bypass → s.ring.silent = false
  commit : s.management.commit.isSome = true → s.power = .running

/-! ### The full-reset state (R190 step 5) -/

/-- Every block's run-time state as its chapter gives it for a full reset, over whatever configuration is in force (R2, R10 to R15, R34, R50,
R77, R101, R102, R124, R137, R153, R173). What the bypass carries it goes on carrying (R2). -/
structure State.FullReset (s : State) : Prop where
  power : s.power = .bypass
  time : s.timeCount = 0
  ring : s.ring = { Ring.fresh with passing := s.ring.passing, inPassage := s.ring.inPassage }
  routes : ∀ i, (s.routes.get i).locked = false ∧ (s.routes.get i).hit = false
  points : ∀ p, (s.points.get p).state = .empty ∧ (s.points.get p).age = none ∧ (s.points.get p).lastSeq = none
  plant : s.plant.storm = false ∧ s.plant.exitHold = none
  lanes : ∀ k, (s.lanes.get k).state = (if (s.lanes.get k).config.inService then .normal else .offline) ∧
    (s.lanes.get k).dwell = 0 ∧ (s.lanes.get k).timer = none ∧ (s.lanes.get k).pending = none
  zones : ∀ z, s.zones.get z =
    { config := (s.zones.get z).config, mode := .fixedAir, setpoint := (s.zones.get z).config.baseSetpoint, integral := 0
      demand := if s.isIdle z then 0 else
        clampNat (s.zones.get z).config.minAir (s.zones.get z).config.maxAir (s.zones.get z).config.fixedAir
      grant := none, cut := false, reseed := false, offDemand := false }
  allocator : s.allocator = { config := s.allocator.config, upCount := 0, downCount := 0, lastDemand := 0, lastCapacity := 0
                              lastGrant := 0, timer := none, airShort := false, floorShort := false }
  blowers : ∀ b, (s.blowers.get b).state = .unknown
  returns : ∀ r, (s.returns.get r).state = .pacing ∧ (s.returns.get r).target = (s.returns.get r).config.minFlow ∧
    (s.returns.get r).timer = none
  outputs : ∀ o, (s.outputs.get o).state = .auto ∧ (s.outputs.get o).last = none ∧ (s.outputs.get o).unsent = false ∧
    (s.outputs.get o).resendTimer = none
  supervision : s.supervision = { countdown := none, lost := false }
  watches : ∀ w, (s.watches.get w).state = (if (s.watches.get w).config.enable then
      if (s.watches.get w).config.stage = none then .armed else .waiting else .off) ∧
    (s.watches.get w).count = (s.watches.get w).config.persistence - 1 ∧ (s.watches.get w).truth = false ∧
    (s.watches.get w).occurrence = false

/-! ### Calm: no condition change moves the watch unit -/

/-- No arrival waits, and every watch that is not OFF has a point as its subject: a change of an internal condition then concerns no watch. -/
structure State.Calm (s : State) : Prop where
  raised : s.raised = []
  points : ∀ w, (s.watches.get w).state = .off ∨ ∃ p, (s.watches.get w).config.subject = .point p

/-! ### Requests -/

/-- A request command's source, tag, request code and argument bytes as its MGMT_REQUEST frame carries them (R181). -/
def Request.parts : Instr → Option (Addr × Byte × Byte × List Byte)
  | .badRequest src tag code args => some (src, tag, code, args)
  | .readFields src tag t i f c => some (src, tag, 1, [t, i, f, c])
  | .writeFieldsRoute src tag i f vs => some (src, tag, 2, [0, i, f, BitVec.ofNat 8 vs.length] ++ vs.flatMap bytes32)
  | .writeFieldsPoint src tag i f vs => some (src, tag, 2, [1, i, f, BitVec.ofNat 8 vs.length] ++ vs.flatMap bytes32)
  | .writeFieldsOutput src tag i f vs => some (src, tag, 2, [2, i, f, BitVec.ofNat 8 vs.length] ++ vs.flatMap bytes32)
  | .writeFieldsLane src tag i f vs => some (src, tag, 2, [3, i, f, BitVec.ofNat 8 vs.length] ++ vs.flatMap bytes32)
  | .writeFieldsZone src tag i f vs => some (src, tag, 2, [4, i, f, BitVec.ofNat 8 vs.length] ++ vs.flatMap bytes32)
  | .writeFieldsBlower src tag i f vs => some (src, tag, 2, [5, i, f, BitVec.ofNat 8 vs.length] ++ vs.flatMap bytes32)
  | .writeFieldsReturn src tag i f vs => some (src, tag, 2, [6, i, f, BitVec.ofNat 8 vs.length] ++ vs.flatMap bytes32)
  | .writeFieldsWatch src tag i f vs => some (src, tag, 2, [7, i, f, BitVec.ofNat 8 vs.length] ++ vs.flatMap bytes32)
  | .writeFieldsPlant src tag i f vs => some (src, tag, 2, [8, i, f, BitVec.ofNat 8 vs.length] ++ vs.flatMap bytes32)
  | .writeFieldsAllocator src tag i f vs => some (src, tag, 2, [9, i, f, BitVec.ofNat 8 vs.length] ++ vs.flatMap bytes32)
  | .readStatus src tag => some (src, tag, 3, [])
  | .commitStore src tag => some (src, tag, 4, [])
  | .restart src tag => some (src, tag, 5, [])
  | .lockRoute src tag e => some (src, tag, 6, [e])
  | .forcePoint src tag p v => some (src, tag, 7, p :: bytes32 v)
  | .releasePoint src tag p => some (src, tag, 8, [p])
  | .setRegime src tag l r => some (src, tag, 9, [l, r])
  | .restoreLane src tag l => some (src, tag, 10, [l])
  | .acknowledge src tag w => some (src, tag, 11, [w])
  | .releaseOutput src tag o => some (src, tag, 12, [o])
  | .refresh src tag v => some (src, tag, 13, [v])
  | .readHistory src tag n => some (src, tag, 14, [n])
  | .resumeCapture src tag => some (src, tag, 15, [])
  | .resetAssert => none
  | .startUp _ => none
  | .bypassEnd => none
  | .frameArrival _ => none
  | .frameSent => none
  | .ringSilenceExpiry => none
  | .ageExpiry _ => none
  | .exitHoldExpiry => none
  | .lanePeriodExpiry _ => none
  | .phaseExpiry _ => none
  | .allocationExpiry => none
  | .warmUpExpiry _ => none
  | .startTimeoutExpiry _ => none
  | .rundownExpiry _ => none
  | .pacingExpiry _ => none
  | .resendExpiry _ => none
  | .countdownExpiry => none
  | .holdExpiry _ => none
  | .commitCompletion _ => none
  | .ringInIdleInFrame _ => none

/-- A request of the source is carried out and its reply finds room: the part runs, the source is another node and a supervisor source, the
ring is not silent, no arrival waits, and the transmit queue is not full. The receiver may hold part of a frame (DESIGN CHOICE, log entry 27). -/
structure State.Serves (s : State) (src : Addr) : Prop where
  power : s.power = .running
  other : src ≠ s.ownAddress
  permitted : s.isSupervisor src = true
  heard : s.ring.silent = false
  raised : s.raised = []
  room : s.ring.transmit.length < 16

/-- The ring-silence timer restarted, as every valid frame does (R15). -/
def Ring.restartSilence (r : Ring) (seconds : Nat) : Ring := { r with silence := some (tenths seconds) }

/-- The state once the request frame has restarted the ring-silence timer and a reply has joined the transmit queue (R13, R15, R182). -/
def State.replied (src : Addr) (code tag : Byte) (result : Result) (data : List Byte) (s : State) : State :=
  s.withRing ((s.ring.restartSilence s.plant.config.silenceTime).join s.ownAddress
    { dst := src, body := .reply code tag result data })

/-! ### The computation of one zone -/

/-- The mode a zone decides (R83). -/
def State.modeDecided (s : State) (z : ZoneIdx) : Mode :=
  let c := (s.zones.get z).config
  if ∃ o, c.valveOutput = some o ∧ (s.outputs.get o).state = .supervised then .held
  else match s.usable c.doPoint with
    | some _ => .doControl
    | none => .fixedAir

/-- The demand, setpoint and integral of the PI branch (R90 to R92), for a zone in the regime, with the lane's trim, the filtered DO and the
length in seconds of the period that has ended. -/
def Zone.piComputed (zn : Zone) (regime : Regime) (trim filteredDo : Int) (ended : Nat) : Zone :=
  let c := zn.config
  let sp := clampInt 200 4000 (match regime with
    | .economy => c.baseSetpoint - c.economyOffset
    | .storm => c.stormSetpoint
    | _ => c.baseSetpoint + trim)
  let e := sp - clampInt 0 20000 filteredDo
  let p := (e * c.kp).tdiv 16000
  let bound : Int := c.maxAir * 256
  let u0 := c.biasAir + p + zn.integral.tdiv 256
  let skip : Prop := (c.maxAir < u0 ∧ 0 < e) ∨ (u0 < c.minAir ∧ e < 0) ∨ (zn.cut = true ∧ 0 < e)
  let a :=
    if zn.reseed then clampInt (-bound) bound ((zn.demand - c.biasAir - p) * 256)
    else if skip then zn.integral
    else clampInt (-bound) bound (zn.integral + (e * c.ki * ended).tdiv 1000)
  { zn with
    setpoint := sp, integral := a, reseed := false, offDemand := false
    demand := (clampInt c.minAir c.maxAir (c.biasAir + p + a.tdiv 256)).toNat }

/-- A zone after its computation at its lane's period (R82, R83, R85 to R92). -/
def State.zoneComputed (s : State) (z : ZoneIdx) (ended : Nat) : Zone :=
  let l := s.laneOfZone z
  let mode := s.modeDecided z
  let old := s.zones.get z
  let zn : Zone := { old with mode := mode, reseed := old.reseed || (mode == .doControl && old.mode != .doControl) }
  let c := zn.config
  if l.state.regime = .offline ∨ l.config.zoneCount ≤ (placeOf z).val then old
  else if l.state.regime = .tripped then { zn with demand := c.tripAir, offDemand := false }
  else match mode with
    | .held =>
      { zn with
        demand := (match s.usable c.airflowPoint with
          | some flow => (clampInt 0 65535 flow).toNat
          | none => zn.demand)
        offDemand := false }
    | .fixedAir => { zn with demand := clampNat c.minAir c.maxAir c.fixedAir, offDemand := false }
    | .doControl =>
      if c.cyclic = true ∧ l.state.cycle?.map (·.phase) = some .airOff then { zn with demand := c.minAir, offDemand := true }
      else
        let trim := match s.usable l.config.ammoniaPoint with
          | some a => clampInt l.config.trimLow l.config.trimHigh (((a - l.config.ammoniaTarget) * l.config.trimGain).tdiv 256)
          | none => 0
        zn.piComputed l.state.regime trim ((s.usable c.doPoint).getD 0) ended

/-! ### Frames -/

/-- The frame can stand on the ring as a valid frame: at most 48 payload bytes, and a payload of whole items (R4, R6). -/
abbrev Frame.Carried (f : Frame) : Prop := f.payload.length ≤ 48 ∧ f.itemsFit = true

/-- The part is about to receive a frame whole: it runs, its receiver hunts, and no arrival waits at the watch unit. -/
structure State.Hunts (s : State) : Prop where
  power : s.power = .running
  received : s.ring.received = []
  raised : s.raised = []

/-- The part has taken a valid frame while RING_SILENT was inactive: the ring-silence timer starts again (R15). -/
def State.hearing (s : State) : State := s.withRing (s.ring.restartSilence s.plant.config.silenceTime)

/-- No route entry claims the frame: it is of no kind of the layout, or no entry matches it (R20, R21). -/
abbrev State.Unclaimed (s : State) (f : Frame) : Prop :=
  ∀ k, Kind.ofCode f.kind = some k → ∀ i, (s.routes.get i).config.claims k f = false

/-- The entry is the first in index order that matches the frame, which is of the kind (R21). -/
structure State.Decides (s : State) (i : RouteIdx) (k : Kind) (f : Frame) : Prop where
  kind : Kind.ofCode f.kind = some k
  claims : (s.routes.get i).config.claims k f = true
  first : ∀ j, j < i → (s.routes.get j).config.claims k f = false

/-- The point table after an item of a sequence number for a point, or for none when the item is skipped (R26, R37). -/
def pointsAfter (points : Table 128 Point) (seq : Byte) (p : Option PointIdx) (i : ItemValue) : Table 128 Point :=
  match p with
  | some p => if (points.get p).accepts seq then points.set p ((points.get p).take seq i) else points
  | none => points

/-- The items of a SAMPLE or STATUS frame with the points they are for, in payload order (R25 to R27). -/
def RouteConfig.arrivals (c : RouteConfig) (k : Kind) (f : Frame) : List (Option PointIdx × ItemValue) :=
  match k with
  | .sample => (sampleItems f.payload).map fun i => (c.pointFor (c.address f) i.channel, .sample i.flags i.value)
  | .status => (statusItems f.payload).map fun i => (c.pointFor (c.address f) i.channel, .status i.code)
  | .command => []
  | .request => []
  | .reply => []
  | .notice => []

/-- No dependant of a point would take an update event of it: no watch that is not OFF has it as its subject, it is not the influent
point, and it is no lane's ammonia point (R45). -/
structure State.NoDependants (s : State) (p : PointIdx) : Prop where
  watches : ∀ w, (s.watches.get w).state = .off ∨ (s.watches.get w).config.subject ≠ .point p
  influent : s.plant.config.influentPoint ≠ some p
  ammonia : ∀ k, (s.lanes.get k).config.ammoniaPoint ≠ some p

/-- What an update event of a point, and all it sets in motion, leaves as it was: the reset line, the address, the time, the receiver, the
bypass, the return lines, the countdown, the store, every configuration and the queue of commands. -/
structure State.UpdateKeeps (s t : State) : Prop where
  power : t.power = s.power
  ownAddress : t.ownAddress = s.ownAddress
  timeCount : t.timeCount = s.timeCount
  received : t.ring.received = s.ring.received
  passing : t.ring.passing = s.ring.passing
  inPassage : t.ring.inPassage = s.ring.inPassage
  silence : t.ring.silence = s.ring.silence
  silent : t.ring.silent = s.ring.silent
  returns : t.returns = s.returns
  supervision : t.supervision = s.supervision
  management : t.management = s.management
  settings : t.settings = s.settings
  staged : ∀ k, (t.lanes.get k).pending = (s.lanes.get k).pending
  pending : t.pending = s.pending

/-- The blocks that no arrival at the watch unit, no offer and no reply changes. -/
structure State.SameOutside (s t : State) : Prop where
  power : t.power = s.power
  ownAddress : t.ownAddress = s.ownAddress
  timeCount : t.timeCount = s.timeCount
  received : t.ring.received = s.ring.received
  passing : t.ring.passing = s.ring.passing
  inPassage : t.ring.inPassage = s.ring.inPassage
  routes : t.routes = s.routes
  points : t.points = s.points
  plant : t.plant = s.plant
  returns : t.returns = s.returns
  supervision : t.supervision = s.supervision
  management : t.management = s.management
  pending : t.pending = s.pending

/-! ### Blowers at an allocation -/

/-- The state a review leaves a blower in, by its state and its status reading: the table of R115. -/
def BlowerState.reviewed (c : BlowerConfig) (st : BlowerState) (r : DriveReading) : BlowerState :=
  let found : BlowerState := match r with
    | .stopped => .stopped
    | .running => .running (!c.inService)
    | .fault => .faulted
    | .handControl => .handControl
  match st.status with
  | .unknown => found
  | .stopped => found
  | .handControl => found
  | .starting => if r = .stopped ∨ (r = .running ∧ st.timers.1.isSome) then st else found
  | .running => if r = .stopped then .faulted else if r = .running then st else found
  | .stopping => if r = .stopped ∨ r = .running then st else found
  | .faulted => st

/-- The event conditions a review raises besides those of its offers (R115). -/
def BlowerState.reviewRaises (st : BlowerState) (r : DriveReading) : List Change :=
  match st.status, r with
  | .starting, .fault => [.event .blowerStartFail]
  | .running, .stopped => [.event .blowerTrip]
  | .running, .fault => [.event .blowerTrip]
  | .stopping, .fault => [.event .blowerTrip]
  | _, _ => []

/-- The blowers after the review of an allocation (R106 step 2): a blower without a status reading stays as it is. -/
def State.blowersReviewed (s : State) : Table 6 Blower := Table.build fun b =>
  let bl := s.blowers.get b
  match s.driveReading bl.config.statusPoint with
  | none => bl
  | some r => { bl with state := bl.state.reviewed bl.config r }

/-- A blower that staging has moved: an in-service STOPPED one to STARTING, or a RUNNING one to STOPPING, its timers full (R116, R118). -/
abbrev Blower.Staged (old new : Blower) : Prop :=
  new.config = old.config ∧
    ((old.state = .stopped ∧ old.config.inService = true ∧
        new.state = .starting (some (old.config.warmUp * 10)) (old.config.timeout * 10)) ∨
      (old.state.isRunning = true ∧ new.state = .stopping (old.config.rundown * 10)))

/-- The highest-rank of the blowers of a kind: by lead rank, and by index among equals (R112). -/
abbrev State.HighestRank (s : State) (kind : Blower → Prop) (b : BlowerIdx) : Prop :=
  kind (s.blowers.get b) ∧ ∀ c, kind (s.blowers.get c) → c ≠ b →
    (s.blowers.get c).config.rank < (s.blowers.get b).config.rank ∨
      ((s.blowers.get c).config.rank = (s.blowers.get b).config.rank ∧ c < b)

/-- The lowest-rank of the blowers of a kind (R112). -/
abbrev State.LowestRank (s : State) (kind : Blower → Prop) (b : BlowerIdx) : Prop :=
  kind (s.blowers.get b) ∧ ∀ c, kind (s.blowers.get c) → c ≠ b →
    (s.blowers.get b).config.rank < (s.blowers.get c).config.rank ∨
      ((s.blowers.get b).config.rank = (s.blowers.get c).config.rank ∧ b < c)

/-- The blower may be started: in service and STOPPED (R121). -/
abbrev Blower.Ready (b : Blower) : Prop := b.config.inService = true ∧ b.state = .stopped

/-! ### Requests: what each needs, and the tables -/

/-- How many argument bytes a request of a code needs; none for a code of 0 or above 15 (R183). -/
def Request.needs (code : Byte) (args : List Byte) : Option Nat :=
  match code.toNat with
  | 1 => some 4
  | 2 => some (match args[3]? with
      | some c => if 1 ≤ c.toNat ∧ c.toNat ≤ 8 then 4 + 4 * c.toNat else 4
      | none => 4)
  | 3 => some 0
  | 4 => some 0
  | 5 => some 0
  | 6 => some 1
  | 7 => some 5
  | 8 => some 1
  | 9 => some 2
  | 10 => some 1
  | 11 => some 1
  | 12 => some 1
  | 13 => some 1
  | 14 => some 1
  | 15 => some 0
  | _ => none

/-- The number of records of a table (R184). -/
def TableName.records : TableName → Nat
  | .route => 64
  | .point => 128
  | .output => 64
  | .lane => 8
  | .zone => 32
  | .blower => 6
  | .returnLine => 4
  | .watch => 32
  | .plant => 1
  | .allocator => 1

/-- The number of field ids of a table, run-time fields among them. -/
def TableName.fields : TableName → Nat
  | .route => 11
  | .point => 10
  | .output => 13
  | .lane => 28
  | .zone => 24
  | .blower => 15
  | .returnLine => 15
  | .watch => 19
  | .plant => 12
  | .allocator => 11

/-- The number of configuration fields of a table: the ids from there on are read-only. -/
def TableName.writable : TableName → Nat
  | .route => 9
  | .point => 5
  | .output => 9
  | .lane => 21
  | .zone => 16
  | .blower => 10
  | .returnLine => 11
  | .watch => 14
  | .plant => 10
  | .allocator => 5

/-- The WRITE_FIELDS command on a table. -/
def TableName.writing (t : TableName) (src : Addr) (tag index first : Byte) (vs : List Word32) : Instr :=
  match t with
  | .route => .writeFieldsRoute src tag index first vs
  | .point => .writeFieldsPoint src tag index first vs
  | .output => .writeFieldsOutput src tag index first vs
  | .lane => .writeFieldsLane src tag index first vs
  | .zone => .writeFieldsZone src tag index first vs
  | .blower => .writeFieldsBlower src tag index first vs
  | .returnLine => .writeFieldsReturn src tag index first vs
  | .watch => .writeFieldsWatch src tag index first vs
  | .plant => .writeFieldsPlant src tag index first vs
  | .allocator => .writeFieldsAllocator src tag index first vs

/-- One field of a record as READ_FIELDS returns it. -/
def State.field (s : State) (t : TableName) (i : Nat) (id : Nat) : Int :=
  ((s.reader t (BitVec.ofNat 8 i)).bind fun read => read id).getD 0

/-- The values a WRITE_FIELDS request carries, as signed integers. -/
def carried (vs : List Word32) : List Int := vs.map BitVec.toInt

/-- The reply to an accepted write: OK_CLAMPED when a value was brought into range (R185). -/
abbrev writeResult (clamped : Bool) : Result := if clamped then .okClamped else .ok

/-- Writing one field of a table whose configuration fields are the ids below n: an id from n on is refused; a value taken as it is reads back; a
value brought into range reads as the nearest one the field takes; and every other configuration field reads as before. -/
def WritesReadBack {α : Type} (write : α → Nat → Int → Written α) (read : α → Nat → Option Int) (n : Nat) : Prop :=
  ∀ (c : α) (id : Nat) (v : Int),
    (n ≤ id → write c id v = none) ∧
    (∀ new, write c id v = some (new, false) → read new id = some v) ∧
    (∀ new, write c id v = some (new, true) →
      ∃ w, write c id w = some (new, false) ∧ ∀ u other, write c id u = some (other, false) → (v - w).natAbs ≤ (v - u).natAbs) ∧
    (∀ new clamped j, write c id v = some (new, clamped) → j ≠ id → j < n → read new j = read c j)

/-- How a configuration field treats a written value (R185): a numeric field brings it to the nearer end of its range, an enumeration takes the
listed values and refuses every other. -/
inductive FieldClass where
  | numeric (low high : Int)
  | enumeration (values : List Int)
deriving DecidableEq, Repr

/-- The codes 0 to n − 1. -/
def codes (n : Nat) : List Int := (List.range n).map Int.ofNat

/-- −1 for none, and the indices below n. -/
def links (n : Nat) : List Int := -1 :: codes n

/-- The configuration fields of each table by id, as the field tables of sections 2.7, 3.7, 8.1, 4.1, 5.1, 6.6, 7.1, 9.2, 4.5 and 6.1 give them;
`accepts` says which outputs a zone's valve output may name (R80). -/
def TableName.fieldClasses (accepts : OutputIdx → Bool) (t : TableName) : List FieldClass :=
  let yesNo := FieldClass.enumeration (codes 2)
  let signed := FieldClass.numeric (-8388608) 8388607
  let point := FieldClass.enumeration (links 128)
  let output := FieldClass.enumeration (links 64)
  match t with
  | .route =>
    [yesNo, yesNo, .numeric 0 65535, .numeric 0 15, .enumeration (codes 64), .enumeration (codes 5), .numeric 0 127, .enumeration [1, 2, 4, 8],
     yesNo]
  | .point => [.enumeration (codes 8), signed, signed, .numeric 0 65535, .numeric 0 7]
  | .output =>
    [.numeric 0 65535, .numeric 0 255, .enumeration (codes 5), .numeric 0 31, signed, signed, signed, .numeric 0 8388607, .numeric 0 3600]
  | .lane =>
    [yesNo, .numeric 1 60, .numeric 1 4, point, .numeric 0 20000, .numeric 0 1023, .numeric (-2000) 2000, .numeric (-2000) 2000, .numeric 0 100,
     .enumeration (links 4), .enumeration (links 4), yesNo, .numeric 0 20000, .numeric 1 240, .enumeration (codes 4), .numeric 0 20000,
     .numeric 0 8388607, .numeric 60 3600, .numeric 0 64, .numeric 0 64, .numeric 0 1000]
  | .zone =>
    [point, point, .enumeration (-1 :: ((indices 64).filter accepts).map fun o => (o.val : Int)), .numeric 200 4000, .numeric 0 2000,
     .numeric 200 4000, .numeric 0 65535, .numeric 0 65535, .numeric 0 65535, .numeric 0 65535, .numeric 0 65535, .numeric 0 65535,
     .numeric 0 65535, yesNo, .numeric 0 1023, .numeric 1 1000]
  | .blower =>
    [yesNo, output, output, point, .numeric 0 65535, .numeric 0 65535, .enumeration (codes 6), .numeric 10 600, .numeric 10 900, .numeric 5 300]
  | .returnLine =>
    [output, point, point, .numeric 100 2000, .numeric 0 8388607, .numeric 0 1000, .numeric 0 8388607, .numeric 0 8388607, .numeric 10 600,
     .numeric 0 1023, .numeric 1 1000]
  | .watch =>
    [yesNo, .enumeration (codes 139), .enumeration (codes 5), signed, signed, .numeric 0 8388607, .numeric 1 256, .enumeration (links 31),
     .enumeration (codes 32), yesNo, .enumeration (codes 8), .enumeration (codes 4), yesNo, .numeric 1 3600]
  | .plant =>
    [point, .numeric 0 8388607, .numeric 0 8388607, .numeric 10 7200, yesNo, yesNo, yesNo, yesNo, .numeric 0 65535, .numeric 1 60]
  | .allocator => [.numeric 5 60, .numeric 500 1000, .numeric 300 1000, .numeric 1 60, .numeric 1 60]

/-- Every value of every field of a table: a numeric field takes it, clamped to the range and marked when that changed it; an enumeration takes a
listed value as it is and refuses any other (R185). -/
def WritesTake {α : Type} (write : α → Nat → Int → Written α) (read : α → Nat → Option Int) (fields : List FieldClass) : Prop :=
  ∀ (c : α) (id : Nat) (v : Int),
    (∀ low high, fields[id]? = some (.numeric low high) →
      ∃ new, write c id v = some (new, decide (v < low ∨ high < v)) ∧ read new id = some (clampInt low high v)) ∧
    (∀ values, fields[id]? = some (.enumeration values) →
      (v ∈ values → ∃ new, write c id v = some (new, false) ∧ read new id = some v) ∧ (v ∉ values → write c id v = none))

end Sys2Proof.Machine
end

