-- ==== Sys2Proof/Certificates/Slice0/Obligations.lean ====
section
/-! DEFINITION. The statements for the provers. Each docstring says what it formalises; where a statement rests on a choice of the model it
names the log entry. -/
open Sys2Proof Sys2Proof.Machine

/-! ### Steps, reset and start-up -/

/-- A step runs the command at the front of the queue on the state with the rest of the queue. -/
def Obligations.StepRunsFrontCommand : Prop :=
  ∀ (s : State) (c : Instr) (rest : List Instr), s.pending = c :: rest → step s = exec c (s.withPending rest)

/-- Every command ends in a next state and leaves the queue of commands alone: none stops the part. In reset and bypass the bytes at ring-in go to
ring-out unchanged and nothing else of the part changes: it does not check them, act on them, count them or time them, and only follows where the
frame in passage ends (R2; that the bytes of the latest arrival and those of the frame in passage are held is MODEL'S CHOICE, log entry 29). Of the
other commands only RESET_ASSERT, START_UP, BYPASS_END, FRAME_SENT and COMMIT_COMPLETION can act there (MODEL'S CHOICE: for expiries log entry 4, for
requests, FRAME_SENT and COMMIT_COMPLETION log entry 20). -/
def Obligations.CommandsEndAndKeepTheQueue : Prop :=
  ∀ (c : Instr) (s : State),
    (∃ t, exec c s = .next t ∧ t.pending = s.pending) ∧
    (s.power ≠ .running →
      (∀ bytes,
        (c = .frameArrival bytes → exec c s = .next
          (s.withRing { s.ring with passing := bytes, inPassage := passageAfter s.ring.inPassage bytes })) ∧
        (c = .ringInIdleInFrame bytes → exec c s = .next (s.withRing { s.ring with passing := bytes, inPassage := [] }))) ∧
      (c ≠ .resetAssert → (∀ straps, c ≠ .startUp straps) → c ≠ .bypassEnd → c ≠ .frameSent → (∀ ok, c ≠ .commitCompletion ok) →
        (∀ bytes, c ≠ .frameArrival bytes ∧ c ≠ .ringInIdleInFrame bytes) → exec c s = .next s))

/-- MODEL'S CHOICE (log entries 5 and 8). With no command waiting, a step takes a due expiry, or a tick passes when none is due; where several are
due, one of them is taken and the free order moves on by one. A tick is 0.1 s of the part's time: the time count grows by one, wrapping, and in
a running part every timer that runs loses a tenth. In bypass only the time count counts; in reset nothing does. An expiry is due exactly while
the part runs and the expiry's own timer stands at 0. -/
def Obligations.IdleStepTakesExpiryOrTicks : Prop :=
  (∀ s : State, s.pending = [] →
    (s.dueExpiries = [] → step s = .next s.tick) ∧
    (∀ e, s.dueExpiries = [e] → step s = exec e s) ∧
    (2 ≤ s.dueExpiries.length → ∃ e ∈ s.dueExpiries, step s = exec e (s.withFreeIndex (s.freeIndex + 1)))) ∧
  (∀ s : State,
    (s.power = .resetLow → s.tick = s) ∧
    (s.power = .bypass → s.tick = s.withTimeCount (s.timeCount + 1)) ∧
    (s.power = .running →
      s.tick.timeCount = s.timeCount + 1 ∧
      s.tick.ring = { s.ring with silence := s.ring.silence.map (· - 1) } ∧
      (∀ p, s.tick.points.get p = { s.points.get p with age := (s.points.get p).age.map (· - 1) }) ∧
      s.tick.plant = { s.plant with exitHold := s.plant.exitHold.map (· - 1) } ∧
      (∀ k, (s.tick.lanes.get k).timer = (s.lanes.get k).timer.map (· - 1) ∧
        (s.tick.lanes.get k).state.phaseTimer = (s.lanes.get k).state.phaseTimer.map (· - 1) ∧
        (s.tick.lanes.get k).state.regime = (s.lanes.get k).state.regime ∧ (s.tick.lanes.get k).dwell = (s.lanes.get k).dwell) ∧
      s.tick.allocator = { s.allocator with timer := s.allocator.timer.map (· - 1) } ∧
      (∀ b, (s.tick.blowers.get b).warmUpTimer = (s.blowers.get b).warmUpTimer.map (· - 1) ∧
        (s.tick.blowers.get b).timeoutTimer = (s.blowers.get b).timeoutTimer.map (· - 1) ∧
        (s.tick.blowers.get b).rundownTimer = (s.blowers.get b).rundownTimer.map (· - 1) ∧
        (s.tick.blowers.get b).state.status = (s.blowers.get b).state.status) ∧
      (∀ r, s.tick.returns.get r = { s.returns.get r with timer := (s.returns.get r).timer.map (· - 1) }) ∧
      (∀ o, s.tick.outputs.get o = { s.outputs.get o with resendTimer := (s.outputs.get o).resendTimer.map (· - 1) }) ∧
      s.tick.supervision = { s.supervision with countdown := s.supervision.countdown.map (· - 1) } ∧
      (∀ w, (s.tick.watches.get w).state.hold? = (s.watches.get w).state.hold?.map (· - 1) ∧
        (s.tick.watches.get w).state.isFired = (s.watches.get w).state.isFired ∧
        (s.tick.watches.get w).count = (s.watches.get w).count) ∧
      s.tick.settings = s.settings ∧ s.tick.routes = s.routes ∧ s.tick.zones = s.zones ∧ s.tick.history = s.history ∧
      s.tick.management = s.management ∧ s.tick.raised = s.raised ∧ s.tick.power = s.power ∧ s.tick.ownAddress = s.ownAddress)) ∧
  (∀ s : State,
    (s.power ≠ .running → s.dueExpiries = []) ∧
    (s.power = .running → ∀ e, e ∈ s.dueExpiries ↔
      (e = .ringSilenceExpiry ∧ s.ring.silence = some 0) ∨
      (∃ p, e = .ageExpiry p ∧ (s.points.get p).age = some 0) ∨
      (e = .exitHoldExpiry ∧ s.plant.exitHold = some 0) ∨
      (∃ k, e = .lanePeriodExpiry k ∧ (s.lanes.get k).timer = some 0) ∨
      (∃ k, e = .phaseExpiry k ∧ (s.lanes.get k).state.phaseTimer = some 0) ∨
      (e = .allocationExpiry ∧ s.allocator.timer = some 0) ∨
      (∃ b, e = .warmUpExpiry b ∧ (s.blowers.get b).warmUpTimer = some 0) ∨
      (∃ b, e = .startTimeoutExpiry b ∧ (s.blowers.get b).timeoutTimer = some 0) ∨
      (∃ b, e = .rundownExpiry b ∧ (s.blowers.get b).rundownTimer = some 0) ∨
      (∃ r, e = .pacingExpiry r ∧ (s.returns.get r).timer = some 0) ∨
      (∃ o, e = .resendExpiry o ∧ (s.outputs.get o).resendTimer = some 0) ∨
      (e = .countdownExpiry ∧ s.supervision.countdown = some 0) ∨
      (∃ w, e = .holdExpiry w ∧ (s.watches.get w).state.hold? = some 0)))

/-- Every invariant of the blocks holds of the state right after reset. -/
def Obligations.InvariantsHoldAtReset : Prop :=
  State.reset.SettingsSound ∧ State.reset.RingSound ∧ State.reset.HistorySound ∧ State.reset.ValuesSound ∧ State.reset.StormSound ∧
    State.reset.OverridesSound ∧ State.reset.BlowersSound ∧ State.reset.WatchesSound ∧ State.reset.TimersSound

/-- RESETn falls (R2, R190): the frame being received, the frame on the line, the forward buffer and the transmit queue are lost, a commit in flight
is abandoned and the image it was writing fails its check, and every alarm line is inactive. A bypass in force stays, with what it carries; the rest
of a frame that was being received is a frame in passage (DEDUCED, log entry 29). What start-up replaces is kept until then (MODEL'S CHOICE, log entry
13). -/
def Obligations.ResetAssertBypassesTheRing : Prop :=
  ∀ s : State, ∃ t, exec .resetAssert s = .next t ∧ (∀ k, t.alarmLine k = false) ∧
    t = ((s.withPower .resetLow).withRing { s.ring with
        received := [], forward := [], transmit := [], line := none
        inPassage := if s.power = .running then s.ring.received else s.ring.inPassage }).withManagement
      { s.management with
        commit := none
        images := match s.management.commit with
          | none => s.management.images
          | some c => s.management.images.set c.target none }

/-- Start-up with a valid store image (R190): of two valid images image 1 is loaded when it is newer and image 0 otherwise, a single valid
image is loaded; its configuration is in force, every block is in its full-reset state, the history is empty and the own address is 0xFE00
plus the straps (R1). The bypass stays in force and goes on carrying what it carries (R2). A commit in flight has been abandoned (MODEL'S CHOICE
for a power-up, log entry 12). -/
def Obligations.StartUpLoadsNewerImage : Prop :=
  ∀ (s : State) (straps : BitVec 8) (i : Fin 2) (image : Image),
    ((∃ a b, s.management.abandon.images.get 0 = some a ∧ s.management.abandon.images.get 1 = some b ∧
        (1 ≤ (b.generation - a.generation).toNat ∧ (b.generation - a.generation).toNat ≤ 32767 → i = 1 ∧ image = b) ∧
        (¬(1 ≤ (b.generation - a.generation).toNat ∧ (b.generation - a.generation).toNat ≤ 32767) → i = 0 ∧ image = a)) ∨
      (s.management.abandon.images.get i = some image ∧ ∀ j, j ≠ i → s.management.abandon.images.get j = none)) →
    ∃ t, exec (.startUp straps) s = .next t ∧ t.FullReset ∧ t.settings = image.settings ∧
      t.ownAddress.toNat = 0xFE00 + straps.toNat ∧ t.history = { entries := [], next := 0, frozen := false } ∧
      t.management = { commit := none, generation := image.generation, images := s.management.abandon.images, current := some i } ∧
      t.raised = [] ∧ t.pending = s.pending ∧ t.ring.passing = s.ring.passing ∧
      t.ring.inPassage = s.ring.inPassage

/-- Start-up with no valid store image (R190): the part is in the state `State.reset` but for its straps and its store, whose images stay
invalid, and for what the bypass carries (R2); every table holds its defaults and the history holds the STORE entry of cause 0. -/
def Obligations.StartUpWithoutImageTakesDefaults : Prop :=
  ∀ (s : State) (straps : BitVec 8), (∀ i, s.management.abandon.images.get i = none) →
    exec (.startUp straps) s = .next
      { State.reset with
        ownAddress := 0xFE00 + straps.setWidth 16
        ring := { Ring.fresh with passing := s.ring.passing, inPassage := s.ring.inPassage }
        management := { commit := none, generation := 0, images := s.management.abandon.images, current := none }
        freeIndex := s.freeIndex
        pending := s.pending }

/-- The bypass ends (R2, R15, R57, R104, R128): nothing passes through it any more, the ring-silence, allocation and pacing timers
start with their full intervals, and so does the period timer of each lane outside OFFLINE. It does not end in the middle of a frame: a BYPASS_END
before the last byte of the frame in passage leaves it in force (MODEL'S CHOICE of form, log entry 29). A frame is in passage from its start
delimiter to its last check byte, over as many arrivals as carry it. BYPASS_END with no bypass in force has no effect (MODEL'S CHOICE, log entry
12). -/
def Obligations.BypassEndStartsTimers : Prop :=
  (∀ s : State,
    (s.power = .bypass → s.ring.inPassage = [] → exec .bypassEnd s = .next
      { s with
        power := .running
        ring := { s.ring with passing := [], silence := some (s.plant.config.silenceTime * 10) }
        lanes := s.lanes.map fun l =>
          { l with timer := if l.state.regime = .offline then none else some (l.config.period * 10) }
        allocator := { s.allocator with timer := some (s.allocator.config.period * 10) }
        returns := s.returns.map fun r => { r with timer := some (r.config.period * 10) } }) ∧
    (s.power = .bypass → s.ring.inPassage ≠ [] → exec .bypassEnd s = .next s) ∧
    (s.power ≠ .bypass → exec .bypassEnd s = .next s)) ∧
  (∀ (f : Frame) (m : Nat), f.payload.length ≤ 48 → m < 10 + f.payload.length →
    (∀ n, m + n < 10 + f.payload.length → passageAfter (f.wire.take m) ((f.wire.drop m).take n) = f.wire.take (m + n)) ∧
    (∀ rest, passageAfter (f.wire.take m) (f.wire.drop m ++ rest) = passageAfter [] rest)) ∧
  (∀ b rest, b ≠ 0x7E → passageAfter [] (b :: rest) = passageAfter [] rest)

/-! ### Frames at ring-in -/

/-- A frame discarded at ring-in leaves no trace (R4, R6): one whose check fails or whose items do not fit, one whose length byte exceeds 48
(the receiver resumes hunting with the byte after it), and one that the line breaks off: whatever part of it the receiver held before or takes now,
it is discarded and the receiver hunts again. Without an idle line, the bytes of a frame that has not ended stay held, and its other bytes complete
it later, whether it is then valid or discarded: bytes that arrive in parts, cut anywhere, leave what they leave when they arrive at once. -/
def Obligations.MalformedFramesLeaveNoTrace : Prop :=
  ∀ s : State, s.power = .running →
    (s.ring.received = [] →
      (∀ (f : Frame) (check : BitVec 16), f.payload.length ≤ 48 → (check ≠ checkOf f.covered ∨ f.itemsFit = false) →
        exec (.frameArrival (0x7E :: (f.covered ++ bytes16 check))) s = .next s) ∧
      (∀ d1 d0 s1 s0 k q len (rest : List Byte), 48 < len.toNat →
        exec (.frameArrival (0x7E :: d1 :: d0 :: s1 :: s0 :: k :: q :: len :: rest)) s = exec (.frameArrival rest) s) ∧
      (∀ (f : Frame) (n : Nat), f.payload.length ≤ 48 → n < 10 + f.payload.length →
        exec (.ringInIdleInFrame (f.wire.take n)) s = .next s)) ∧
    (∀ (f : Frame) (m : Nat), f.payload.length ≤ 48 → m < 10 + f.payload.length → s.ring.received = f.wire.take m →
      (∀ n, m + n < 10 + f.payload.length →
        exec (.ringInIdleInFrame ((f.wire.drop m).take n)) s = .next (s.withRing { s.ring with received := [] }) ∧
        exec (.frameArrival ((f.wire.drop m).take n)) s = .next (s.withRing { s.ring with received := f.wire.take (m + n) })) ∧
      exec (.frameArrival (f.wire.drop m)) s = exec (.frameArrival f.wire) (s.withRing { s.ring with received := [] })) ∧
    (∀ (f : Frame) (check : BitVec 16) (m : Nat), f.payload.length ≤ 48 → m < 10 + f.payload.length →
      (check ≠ checkOf f.covered ∨ f.itemsFit = false) →
      let bytes := 0x7E :: (f.covered ++ bytes16 check)
      s.ring.received = bytes.take m → exec (.frameArrival (bytes.drop m)) s = .next (s.withRing { s.ring with received := [] })) ∧
    (∀ d1 d0 s1 s0 k q len (m : Nat) (rest : List Byte), 48 < len.toNat →
      let head := [0x7E, d1, d0, s1, s0, k, q]
      s.ring.received = head.take m →
      exec (.frameArrival (head.drop m ++ len :: rest)) s = exec (.frameArrival rest) (s.withRing { s.ring with received := [] })) ∧
    (∀ a : List Byte, ∃ u, exec (.frameArrival a) s = .next u ∧ u.power = .running ∧ ∀ b : List Byte,
      exec (.frameArrival (a ++ b)) s = exec (.frameArrival b) u ∧ exec (.ringInIdleInFrame (a ++ b)) s = exec (.ringInIdleInFrame b) u) ∧
    (∀ bytes, ∃ t, exec (.ringInIdleInFrame bytes) s = .next t ∧ t.ring.received = [])

/-- A valid frame that carries the own address as its source, or is addressed to the part and is no MGMT_REQUEST of two bytes or more, ends at
the part (R7, R8): it restarts the ring-silence timer, and clears RING_SILENT with a CONDITION entry and a hand-over to the watch unit
(R15, R16). A frame no entry claims takes the default PASS (R9, R10, R21): with hops 0 it ends here; else it joins the forward buffer with its
hops one less, and starts at once on an idle line with nothing else waiting; at a full buffer it is lost with LOOP_CONGESTION. Whatever becomes of
it, every valid frame restarts the timer and clears an active RING_SILENT before it is handled further, so what is said of a frame with RING_SILENT
inactive holds after that (R6, R15, R16). -/
def Obligations.FramesEndHereOrAreForwarded : Prop :=
  (∀ (s : State) (f : Frame), s.Hunts → f.Carried →
    (f.src = s.ownAddress ∨ (f.dst = s.ownAddress ∧ (f.kind ≠ Kind.request.code ∨ f.payload.length < 2))) →
    (s.ring.silent = false → exec (.frameArrival f.wire) s = .next s.hearing) ∧
    (s.ring.silent = true → exec (.frameArrival f.wire) s = .next
      (((s.withRing { s.ring.restartSilence s.plant.config.silenceTime with silent := false }).capture
        (.condition .ringSilent true false)).raise (.level .ringSilent false)).drain)) ∧
  (∀ (s : State) (f : Frame), s.Hunts → f.Carried → s.ring.silent = false → f.src ≠ s.ownAddress → f.dst ≠ s.ownAddress →
    s.Unclaimed f →
    (f.hops = 0 → exec (.frameArrival f.wire) s = .next s.hearing) ∧
    (f.hops ≠ 0 → s.ring.forward.length < 4 → s.ring.line.isSome = true → exec (.frameArrival f.wire) s = .next
      (s.hearing.withRing { s.hearing.ring with forward := s.ring.forward ++ [{ f with hops := f.hops - 1 }] })) ∧
    (f.hops ≠ 0 → s.ring.line = none → s.ring.forward = [] → s.ring.transmit = [] → exec (.frameArrival f.wire) s = .next
      (s.hearing.withRing { s.hearing.ring with line := some { f with hops := f.hops - 1 }, runCount := 0 })) ∧
    (f.hops ≠ 0 → 4 ≤ s.ring.forward.length → exec (.frameArrival f.wire) s = .next
      (s.hearing.raise (.event .loopCongestion)).drain)) ∧
  (∀ (s : State) (f : Frame), s.Hunts → f.Carried → s.ring.silent = true →
    exec (.frameArrival f.wire) s = exec (.frameArrival f.wire)
      (((s.withRing { s.ring.restartSilence s.plant.config.silenceTime with silent := false }).capture
        (.condition .ringSilent true false)).raise (.level .ringSilent false)).drain)

/-- The first entry that matches decides the frame and its hit flag is set (R21, R22); PASS forwards it, DISCARD removes it, CONSUME removes a
frame of a kind that is not acted on, OBSERVE and GUARD forward one (R23, R24, R28). The one to eight items of a COMMAND frame decided by GUARD go
to the guard in payload order, each against the outputs as the items before it left them; removed items are dropped, and the frame goes on with
those that remain, or is removed when none does (R28, R146; that outputs out of index order change in payload order is MODEL'S CHOICE, log
entry 26). -/
def Obligations.DecidingEntryDisposesOfFrame : Prop :=
  (∀ (s : State) (f : Frame) (i : RouteIdx) (k : Kind), s.Hunts → f.Carried → s.ring.silent = false → f.src ≠ s.ownAddress →
    f.dst ≠ s.ownAddress → s.Decides i k f →
    let u := s.hearing.setRoute i { s.routes.get i with hit := true }
    let d := (s.routes.get i).config.disposition
    ((d = .pass ∨ (d = .observe ∧ k ≠ .sample ∧ k ≠ .status) ∨ (d = .guard ∧ k ≠ .command)) →
      exec (.frameArrival f.wire) s = .next (u.forwardReturned f)) ∧
    ((d = .discard ∨ (d = .consume ∧ k ≠ .sample ∧ k ≠ .status)) → exec (.frameArrival f.wire) s = .next u)) ∧
  (∀ (s : State) (f : Frame) (i : RouteIdx) (items : List CommandItem), s.Hunts → f.payload = items.flatMap CommandItem.bytes →
    1 ≤ items.length → items.length ≤ 8 → (∀ item ∈ items, -8388608 ≤ item.value ∧ item.value ≤ 8388607) → s.ring.silent = false →
    f.src ≠ s.ownAddress → f.dst ≠ s.ownAddress → s.Decides i .command f → (s.routes.get i).config.disposition = .guard →
    let u := s.hearing.setRoute i { s.routes.get i with hit := true }
    let treated := items.foldl (fun (before : State × List CommandItem) item =>
      let g := before.1.guardItem f.dst f.src item
      (g.1, match g.2 with
        | none => before.2
        | some left => before.2 ++ [left])) (u, [])
    exec (.frameArrival f.wire) s = .next (if treated.2 = [] then treated.1
      else treated.1.forwardReturned { f with payload := treated.2.flatMap CommandItem.bytes }))

/-- The items of a SAMPLE or STATUS frame decided by OBSERVE or CONSUME are handed to the point table in payload order, each to the point its channel
gives (R24, R25, R27), and each is taken or ignored by its point (R37). An item whose channel or point index is out of range is skipped and raises one
ROUTE_RANGE in its place (R26), and the watch unit takes what one item raised before the next item (DEDUCED, log entry 14). OBSERVE then forwards the
frame, CONSUME removes it (R24). Whatever the updates set in motion, no other point, return line, store field or configuration changes. Where no
dependant and no skipped item is concerned, nothing else happens. -/
def Obligations.SampleAndStatusItemsReachTheirPoints : Prop :=
  (∀ (s : State) (f : Frame) (i : RouteIdx) (k : Kind), s.Hunts → f.Carried → s.ring.silent = false → f.src ≠ s.ownAddress →
    f.dst ≠ s.ownAddress → s.Decides i k f → (k = .sample ∨ k = .status) →
    let c := (s.routes.get i).config
    let u := s.hearing.setRoute i { s.routes.get i with hit := true }
    let points := (c.arrivals k f).foldl (fun ps a => pointsAfter ps f.seq a.1 a.2) s.points
    let taken := (c.arrivals k f).foldl (fun v a => match a.1 with
      | some p => v.arriveAtPoint p f.seq a.2
      | none => (v.raise (.event .routeRange)).drain) u
    ((c.disposition = .observe ∨ c.disposition = .consume) →
      ∃ t, exec (.frameArrival f.wire) s = .next t ∧ t.points = points ∧ t.routes = u.routes ∧ u.UpdateKeeps t) ∧
    (c.disposition = .observe → exec (.frameArrival f.wire) s = .next (taken.forwardReturned f)) ∧
    (c.disposition = .consume → exec (.frameArrival f.wire) s = .next taken) ∧
    ((∀ a ∈ c.arrivals k f, ∃ p, a.1 = some p ∧ s.NoDependants p) →
      (c.disposition = .observe → exec (.frameArrival f.wire) s = .next ((u.withPoints points).forwardReturned f)) ∧
      (c.disposition = .consume → exec (.frameArrival f.wire) s = .next (u.withPoints points)))) ∧
  (∀ (c : RouteConfig) (a : Addr) (channel : Byte) (p : PointIdx), c.pointFor a channel = some p ↔
    channel.toNat < c.channels ∧ p.val = c.pointBase + (a.toNat - c.base.toNat) * c.channels + channel.toNat)

/-- A request command is the arrival of the MGMT_REQUEST frame that carries it, with any hops and any sequence number (R3 to R8, R181;
MODEL'S CHOICE, log entry 1): the bytes of the frame lead to the same outcome in every running part whose receiver hunts. In reset and bypass the
frame passes to ring-out and no request reaches the part (R2; MODEL'S CHOICE for the command, log entry 20). -/
def Obligations.RequestFrameIsItsCommand : Prop :=
  ∀ (s : State) (c : Instr) (src : Addr) (tag code : Byte) (args : List Byte) (hops : BitVec 4) (seq : Byte),
    Request.parts c = some (src, tag, code, args) → c.wf = true →
    let bytes := Frame.wire
      { dst := s.ownAddress, src := src, kind := Kind.request.code, hops := hops, seq := seq, payload := code :: tag :: args }
    (s.power = .running → s.ring.received = [] → exec (.frameArrival bytes) s = exec c s) ∧
    (s.power ≠ .running → exec c s = .next s ∧ exec (.frameArrival bytes) s = .next
      (s.withRing { s.ring with passing := bytes, inPassage := passageAfter s.ring.inPassage bytes }))

/-! ### Ring-out -/

/-- The end of a frame on ring-out (R11, R12): the line stays IDLE when nothing waits; the oldest forwarded frame starts unless the forward
buffer is empty or four forwarded frames in a row have passed a waiting originated one; an originated frame takes the own address, hops 15
and the sequence counter's value. On an IDLE line there is no such event (MODEL'S CHOICE, log entry 20). -/
def Obligations.FrameSentStartsTheNextFrame : Prop :=
  ∀ s : State,
    (s.ring.line = none → exec .frameSent s = .next s) ∧
    (s.ring.line.isSome = true →
      (s.ring.forward = [] → s.ring.transmit = [] → exec .frameSent s = .next (s.withRing { s.ring with line := none })) ∧
      (∀ f fs, s.ring.forward = f :: fs →
        (s.ring.transmit = [] → exec .frameSent s = .next
          (s.withRing { s.ring with line := some f, forward := fs, runCount := 0 })) ∧
        (s.ring.transmit ≠ [] → s.ring.runCount ≠ 4 → exec .frameSent s = .next
          (s.withRing { s.ring with line := some f, forward := fs, runCount := s.ring.runCount + 1 }))) ∧
      (∀ q qs, s.ring.transmit = q :: qs → (s.ring.forward = [] ∨ s.ring.runCount = 4) → exec .frameSent s = .next
        (s.withRing { s.ring with
          line := some { dst := q.dst, src := s.ownAddress, kind := q.body.kind.code, hops := 15, seq := s.ring.sequence
                         payload := q.body.payload }
          transmit := qs, runCount := 0, sequence := s.ring.sequence + 1 })))

/-- The transmit queue's answer to an offer (R13, R14). A COMMAND of an output with a COMMAND waiting replaces that frame's value in place; any
other frame joins at the tail, and starts at once on an IDLE line with nothing else waiting; at sixteen frames it is dropped and
QUEUE_OVERFLOW is raised. -/
def Obligations.TransmitQueueAnswersOffers : Prop :=
  ∀ s : State,
    (∀ (o : OutputIdx) (v : Int), (∃ q ∈ s.ring.transmit, q.body.owner = some o) →
      s.sendCommand o v = (s.withRing { s.ring with transmit := s.ring.transmit.map fun q => match q.body with
        | .command (some p) ch w => if p = o then { q with body := .command (some p) ch v } else { q with body := .command (some p) ch w }
        | _ => q }, true)) ∧
    (∀ (o : OutputIdx) (v : Int), (∀ q ∈ s.ring.transmit, q.body.owner ≠ some o) →
      s.sendCommand o v = s.enqueue
        { dst := (s.outputs.get o).config.destination, body := .command (some o) (s.outputs.get o).config.channel v }) ∧
    (∀ q : Queued,
      (s.ring.transmit.length < 16 → s.ring.line.isSome = true → s.enqueue q =
        (s.withRing { s.ring with transmit := s.ring.transmit ++ [q] }, true)) ∧
      (s.ring.transmit = [] → s.ring.forward = [] → s.ring.line = none → s.enqueue q =
        (s.withRing { s.ring with
          line := some { dst := q.dst, src := s.ownAddress, kind := q.body.kind.code, hops := 15, seq := s.ring.sequence
                         payload := q.body.payload }
          runCount := 0, sequence := s.ring.sequence + 1 }, true)) ∧
      (16 ≤ s.ring.transmit.length → s.enqueue q = (s.raise (.event .queueOverflow), false)))

/-- The ring-silence timer expires (R15, R16): RING_SILENT becomes active with its CONDITION entry and its hand-over, and the timer stops.
Where the timer does not run there is no such event (MODEL'S CHOICE, log entry 4). -/
def Obligations.SilenceExpiryMakesTheRingSilent : Prop :=
  ∀ s : State, s.power = .running →
    (s.ring.silence.isSome = true → s.ring.silent = false → exec .ringSilenceExpiry s = .next
      (((s.withRing { s.ring with silence := none, silent := true }).capture (.condition .ringSilent false true)).raise
        (.level .ringSilent true)).drain) ∧
    (s.ring.silence = none → exec .ringSilenceExpiry s = .next s)

/-- A ring address is a supervisor source when it lies in the block of a valid SOURCE entry with the supervisor flag, or when no valid entry has
the flag; nothing else of an entry plays a part (R29). -/
def Obligations.SupervisorSourcesAreThoseMarked : Prop :=
  ∀ (s : State) (a : Addr), s.isSupervisor a = true ↔
    (∃ i, (s.routes.get i).config.valid = true ∧ (s.routes.get i).config.matchField = .source ∧
      (s.routes.get i).config.supervisor = true ∧
      (a >>> (s.routes.get i).config.exponent) <<< (s.routes.get i).config.exponent = (s.routes.get i).config.base) ∨
    (∀ i, ¬((s.routes.get i).config.valid = true ∧ (s.routes.get i).config.supervisor = true))

/-! ### Points -/

/-- What an accepted item does to its point (R36 to R42): a reading is clamped, filtered or re-seeded, and restarts the age timer; CALIBRATING
turns GOOD into SUSPECT and leaves the rest; FAULT, and a STATUS code above 3, make the point BAD with its value held; a STATUS code of 0 to
3 is taken as it stands. Each of them updates the last sequence, also CALIBRATING at a NONE point, which stays NONE (R37, R40 against R35: MODEL'S
CHOICE, log entry 32). A repeat and an arrival at a FORCED point are not accepted (R37). -/
def Obligations.PointTakesItems : Prop :=
  ∀ (pt : Point) (seq : Byte),
    (pt.accepts seq = true ↔ pt.lastSeq ≠ some seq ∧ pt.state.quality ≠ .forced) ∧
    (∀ (flags : Byte) (raw : Int), pt.state.quality ≠ .forced →
      (flags.getLsbD 0 = true → pt.take seq (.sample flags raw) = { pt with state := .bad pt.state.reading, lastSeq := some seq }) ∧
      (flags.getLsbD 0 = false → flags.getLsbD 1 = true → pt.take seq (.sample flags raw) =
        { pt with
          state := (match pt.state with
            | .good r => .suspect r
            | other => other)
          lastSeq := some seq }) ∧
      (flags.getLsbD 0 = false → flags.getLsbD 1 = false →
        let v := clampInt pt.config.low pt.config.high raw
        let filtered := match pt.config.kind, pt.state with
          | .equipment, _ => v
          | _, .good r => r.filtered + (v - r.filtered) / 2 ^ pt.config.shift
          | _, .suspect r => r.filtered + (v - r.filtered) / 2 ^ pt.config.shift
          | _, _ => v
        pt.take seq (.sample flags raw) =
          { pt with
            state := if v ≠ raw ∨ flags.getLsbD 2 = true then .suspect { value := v, filtered := filtered }
              else .good { value := v, filtered := filtered }
            age := if pt.config.ageLimit = 0 then none else some pt.config.ageLimit
            lastSeq := some seq })) ∧
    (∀ code : Byte,
      (code.toNat ≤ 3 → pt.take seq (.status code) =
        { pt with
          state := .good { value := code.toNat, filtered := code.toNat }
          age := if pt.config.ageLimit = 0 then none else some pt.config.ageLimit
          lastSeq := some seq }) ∧
      (3 < code.toNat → pt.take seq (.status code) = { pt with state := .bad pt.state.reading, lastSeq := some seq }))

/-- The age timer of a point expires (R43, R44): it stops, and a GOOD or SUSPECT point becomes STALE with its value held and an update event, which
its dependants take (R45); in BAD nothing else changes. No other point changes; without dependants nothing else does. Where the timer does not run
there is no such event (MODEL'S CHOICE, log entry 4). -/
def Obligations.AgeExpiryMakesThePointStale : Prop :=
  ∀ (s : State) (p : PointIdx), s.power = .running →
    ((s.points.get p).age = none → exec (.ageExpiry p) s = .next s) ∧
    (s.raised = [] → (s.points.get p).age.isSome = true →
      let stale : Point :=
        { s.points.get p with
          state := (match (s.points.get p).state with
            | .good r => .stale r
            | .suspect r => .stale r
            | other => other)
          age := none }
      let fresh := (s.points.get p).state.quality = .good ∨ (s.points.get p).state.quality = .suspect
      (∃ t, exec (.ageExpiry p) s = .next t ∧ t.points = s.points.set p stale ∧ t.routes = s.routes ∧ s.UpdateKeeps t) ∧
      (fresh → exec (.ageExpiry p) s = .next ((s.withPoints (s.points.set p stale)).updateEvent p).drain) ∧
      (s.NoDependants p ∨ ¬fresh → exec (.ageExpiry p) s = .next (s.withPoints (s.points.set p stale))))

/-- FORCE_POINT and RELEASE_POINT (R46, R47): a force sets value and filtered value to the clamped value, makes the quality FORCED, stops the age
timer and keeps the last sequence; a release returns a FORCED point to NONE and changes no other. Each is an update event, which the point's
dependants take before the reply is offered (R45, R182; log entry 14); without dependants the reply is all else that happens. -/
def Obligations.ForceAndReleasePoint : Prop :=
  ∀ (s : State) (src : Addr) (tag point : Byte) (value : Word32), s.Serves src →
    (127 < point.toNat →
      exec (.forcePoint src tag point value) s = .next (s.replied src 7 tag .badIndex []) ∧
      exec (.releasePoint src tag point) s = .next (s.replied src 8 tag .badIndex [])) ∧
    (∀ p : PointIdx, point.toNat = p.val →
      let pt := s.points.get p
      let v := clampInt pt.config.low pt.config.high value.toInt
      let forced : Point := { pt with state := .forced { value := v, filtered := v }, age := none }
      let released : Point := { config := pt.config, state := .empty, age := none, lastSeq := none }
      (∃ t, exec (.forcePoint src tag point value) s = .next t ∧ t.points = s.points.set p forced ∧ t.routes = s.routes ∧
        s.hearing.UpdateKeeps t) ∧
      exec (.forcePoint src tag point value) s = .next (State.reply src 7 tag
        ((s.hearing.withPoints (s.points.set p forced)).updateEvent p, some (if v = value.toInt then .ok else .okClamped, []))) ∧
      (s.NoDependants p → exec (.forcePoint src tag point value) s = .next
        ((s.replied src 7 tag (if v = value.toInt then .ok else .okClamped) []).withPoints (s.points.set p forced))) ∧
      (pt.state.quality = .forced →
        (∃ t, exec (.releasePoint src tag point) s = .next t ∧ t.points = s.points.set p released ∧ t.routes = s.routes ∧
          s.hearing.UpdateKeeps t) ∧
        exec (.releasePoint src tag point) s = .next (State.reply src 8 tag
          ((s.hearing.withPoints (s.points.set p released)).updateEvent p, some (.ok, []))) ∧
        (s.NoDependants p → exec (.releasePoint src tag point) s = .next
          ((s.replied src 8 tag .ok []).withPoints (s.points.set p released)))) ∧
      (pt.state.quality ≠ .forced → exec (.releasePoint src tag point) s = .next (s.replied src 8 tag .ok [])))

/-! ### Storm and lanes -/

/-- A storm entry or exit is one event (R62, R63): the storm state and its CONDITION entry, then the lanes in index order, each with its REGIME
entry, NORMAL and ECONOMY to STORM at an entry and STORM to NORMAL at an exit, then the hand-over of STORM_ACTIVE. A lane that leaves
ECONOMY ends its cycle at its zones (R97). The exit hold's expiry is the exit. Where the hold does not run there is no such event (MODEL'S CHOICE,
log entry 4). -/
def Obligations.StormMovesTheLanes : Prop :=
  (∀ (s : State) (active : Bool),
    let moves := fun (l : Lane) => if active then l.state.regime = .normal ∨ l.state.regime = .economy else l.state.regime = .storm
    let target : LaneState := if active then .storm else .normal
    let t := s.changeStorm active
    t.plant = { s.plant with storm := active } ∧
    (∀ k, t.lanes.get k = if moves (s.lanes.get k) then { s.lanes.get k with state := target, dwell := 0 } else s.lanes.get k) ∧
    t.history = ((indices 8).filter fun k => moves (s.lanes.get k)).foldl
      (fun h k => h.capture s.timeCount (.regime k (s.lanes.get k).state.regime target.regime))
      (s.history.capture s.timeCount (.condition .stormActive (!active) active)) ∧
    (∀ z, t.zones.get z =
      if active = true ∧ (s.laneOfZone z).state.regime = .economy ∧ s.follows z = true ∧ (s.zones.get z).offDemand = true then
        (s.zones.get z).airOn else s.zones.get z) ∧
    t = ((((s.withPlant t.plant).withLanes t.lanes).withHistory t.history).withZones t.zones).withRaised
      (s.raised ++ [.level .stormActive active])) ∧
  (∀ s : State, s.power = .running →
    (s.plant.exitHold.isSome = true → exec .exitHoldExpiry s = .next
      (((s.withPlant { s.plant with exitHold := none }).changeStorm false).drain)) ∧
    (s.plant.exitHold = none → exec .exitHoldExpiry s = .next s))

/-- An accepted item is an update event of its point (R37, R44). The dependants of an update event are those R45 gives: the watches on the point and,
at a usable point, storm detection and the wake checks; each takes it whole, one after another in an order the spec leaves open (MODEL'S CHOICE of
form, log entry 6). Storm detection follows R60 and R61. The wake checks go through the lanes in index order: a lane in ECONOMY whose mask, point and
level the update meets wakes, with an allocation at once, before the next lane is checked (R66 to R68). A wake, as every change of regime (R54, R97),
ends an economy cycle at the zones that follow it, those with off demand set taking the AIR_ON demand, returns the dwell to 0 and captures one REGIME
entry. Where no watch follows an internal condition, the lanes that wake are those that qualify at the start. -/
def Obligations.InfluentAndAmmoniaUpdatesMoveTheLanes : Prop :=
  (∀ (s : State) (v : Int),
    let byAmmonia := fun (t : State) (p : PointIdx) (k : LaneIdx) =>
      (t.lanes.get k).state.regime = .economy ∧ (t.lanes.get k).config.wakeMask.getLsbD 0 = true ∧
        (t.lanes.get k).config.ammoniaPoint = some p ∧ (t.lanes.get k).config.wakeAmmonia ≤ v
    let byInfluent := fun (t : State) (k : LaneIdx) =>
      (t.lanes.get k).state.regime = .economy ∧ (t.lanes.get k).config.wakeMask.getLsbD 1 = true ∧
        (t.lanes.get k).config.wakeInfluent ≤ v
    (s.plant.storm = false →
      s.detectStorm v = if s.plant.config.enterLevel ≤ v then (s.changeStorm true).drain else s) ∧
    (s.plant.storm = true → s.detectStorm v = s.withPlant
      { s.plant with
        exitHold := if v ≤ s.plant.config.exitLevel then some (s.plant.exitHold.getD (s.plant.config.stormHold * 10)) else none }) ∧
    (∀ k, s.wakeLane k = ((s.changeRegime k .normal).allocate).drain) ∧
    (∀ k new, let l := s.lanes.get k
      s.changeRegime k new = ((s.withZones (Table.build fun z =>
        let zn := s.zones.get z
        if l.state.regime = .economy ∧ laneOf z = k ∧ s.follows z = true ∧ zn.offDemand = true then
          { zn with
            demand := (clampInt zn.config.minAir zn.config.maxAir (zn.config.biasAir + zn.integral.tdiv 256)).toNat
            offDemand := false }
        else zn)).withLanes (s.lanes.set k { l with state := new, dwell := 0 })).capture (.regime k l.state.regime new.regime)) ∧
    (∀ p,
      s.checkAmmonia p v = (indices 8).foldl (fun u k => if byAmmonia u p k then u.wakeLane k else u) s ∧
      ((∀ k, ¬byAmmonia s p k) → s.checkAmmonia p v = s) ∧
      (∀ k, byAmmonia s p k → (∀ j, j ≠ k → (s.lanes.get j).state.regime ≠ .economy) → s.checkAmmonia p v = s.wakeLane k) ∧
      (s.Calm → s.checkAmmonia p v = ((indices 8).filter fun k => byAmmonia s p k).foldl (fun u k => u.wakeLane k) s)) ∧
    s.checkInfluent v = (indices 8).foldl (fun u k => if byInfluent u k then u.wakeLane k else u) s ∧
    ((∀ k, ¬byInfluent s k) → s.checkInfluent v = s) ∧
    (∀ k, byInfluent s k → (∀ j, j ≠ k → (s.lanes.get j).state.regime ≠ .economy) → s.checkInfluent v = s.wakeLane k) ∧
    (s.Calm → s.checkInfluent v = ((indices 8).filter fun k => byInfluent s k).foldl (fun u k => u.wakeLane k) s)) ∧
  (∀ (s : State) (p : PointIdx),
    let usable := (s.points.get p).state.usable
    let economy := fun (k : LaneIdx) => (s.lanes.get k).state.regime = .economy
    (∀ (seq : Byte) (i : ItemValue), s.arriveAtPoint p seq i =
      if (s.points.get p).accepts seq = true then (s.withPoints (s.points.set p ((s.points.get p).take seq i))).updateEvent p else s) ∧
    (Dependant.watches ∈ s.dependants p ↔
      ∃ w, (s.watches.get w).state ≠ .off ∧ (s.watches.get w).config.subject = .point p) ∧
    (Dependant.storm ∈ s.dependants p ↔ s.plant.config.influentPoint = some p ∧ usable.isSome = true) ∧
    (Dependant.influentWake ∈ s.dependants p ↔ s.plant.config.influentPoint = some p ∧ usable.isSome = true ∧
      ∃ k, economy k ∧ (s.lanes.get k).config.wakeMask.getLsbD 1 = true) ∧
    (Dependant.ammoniaWake ∈ s.dependants p ↔ usable.isSome = true ∧
      ∃ k, economy k ∧ (s.lanes.get k).config.wakeMask.getLsbD 0 = true ∧ (s.lanes.get k).config.ammoniaPoint = some p) ∧
    (s.dependants p).Nodup ∧
    s.takeUpdate p .watches = ((indices 32).foldl (fun u w => u.evaluateWatch (.point p) w) s).drain ∧
    (∀ v, usable = some v → s.takeUpdate p .storm = s.detectStorm v ∧ s.takeUpdate p .influentWake = s.checkInfluent v ∧
      s.takeUpdate p .ammoniaWake = s.checkAmmonia p v) ∧
    s.updateEvent p = s.takeUpdates p (s.dependants p).length (s.dependants p) ∧
    (s.dependants p = [] → s.updateEvent p = s) ∧
    (∀ d, s.dependants p = [d] → s.updateEvent p = s.takeUpdate p d) ∧
    (∀ ds : List Dependant,
      (ds = [] → s.takeUpdates p ds.length ds = s) ∧
      (∀ d, ds = [d] → s.takeUpdates p ds.length ds = s.takeUpdate p d) ∧
      (2 ≤ ds.length → ∃ i d, ds[i]? = some d ∧ s.takeUpdates p ds.length ds =
        ((s.withFreeIndex (s.freeIndex + 1)).takeUpdate p d).takeUpdates p (ds.length - 1) (ds.eraseIdx i))))

/-- The pending set and the dwell, steps of a lane period expiry before its zones compute (R56, R58, R64, R65): the pending set is applied whole, with
demand 0 at a zone it makes idle (its off demand cleared: DEDUCED, log entry 16) and the initial state at one it brings back; in NORMAL the dwell
grows by the period that has ended, returns to 0, or carries the lane into ECONOMY with its first cycle, whose start changes no demand (DEDUCED, log
entry 15). -/
def Obligations.LanePeriodAppliesAndDwells : Prop :=
  (∀ (s : State) (k : LaneIdx) (p : Pending), (s.lanes.get k).pending = some p →
    let l := s.lanes.get k
    let was := fun (i : Fin 4) => l.state.regime = .offline ∨ l.config.zoneCount ≤ i.val
    let will := fun (i : Fin 4) => l.state.regime = .offline ∨ p.lane.zoneCount ≤ i.val
    (s.applyPending k).lanes = s.lanes.set k { l with config := p.lane, pending := none } ∧
    (∀ i : Fin 4, (s.applyPending k).zones.get (zoneAt k i) =
      if will i ∧ ¬was i then { s.zones.get (zoneAt k i) with config := p.zones.get i, demand := 0, offDemand := false }
      else if was i ∧ ¬will i then Zone.initial (p.zones.get i)
      else { s.zones.get (zoneAt k i) with config := p.zones.get i }) ∧
    (∀ z, laneOf z ≠ k → (s.applyPending k).zones.get z = s.zones.get z) ∧
    s.applyPending k = (s.withLanes (s.applyPending k).lanes).withZones (s.applyPending k).zones) ∧
  (∀ (s : State) (k : LaneIdx), (s.lanes.get k).pending = none → s.applyPending k = s) ∧
  (∀ (s : State) (k : LaneIdx) (ended : Nat),
    let l := s.lanes.get k
    let low := l.config.autoEconomy = true ∧ s.plant.storm = false ∧
      ∃ a, s.usable l.config.ammoniaPoint = some a ∧ a ≤ l.config.enterLevel
    (l.state.regime ≠ .normal → s.evaluateDwell k ended = s) ∧
    (l.state = .normal → ¬low → s.evaluateDwell k ended = s.withLanes (s.lanes.set k { l with dwell := 0 })) ∧
    (l.state = .normal → low → l.dwell + ended < l.config.dwellMinutes * 60 →
      s.evaluateDwell k ended = s.withLanes (s.lanes.set k { l with dwell := l.dwell + ended })) ∧
    (l.state = .normal → low → l.config.dwellMinutes * 60 ≤ l.dwell + ended →
      s.evaluateDwell k ended = (s.withLanes (s.lanes.set k { l with state := .economy (s.newCycle l.config), dwell := 0 })).capture
        (.regime k .normal .economy)))

/-- A lane period expiry computes the lane's zones in index order, each from the state the steps before it left (R58, R82 to R94): the mode decided,
with a ZONE_MODE entry when it changed, then the first branch of the spec's table that holds, and at the end of the branches FIXED_AIR, AIR_OFF and
DO_CONTROL one offer to the zone's valve output: its base position plus the step by which the grant leads the airflow. The expiry is taken whole
(MODEL'S CHOICE, log entry 25). Where no watch follows an internal condition, the lanes keep what those steps left, and no zone of another lane
changes. Where the timer does not run there is no such event (MODEL'S CHOICE, log entry 4). -/
def Obligations.LanePeriodComputesTheZones : Prop :=
  (∀ (s : State) (k : LaneIdx), s.power = .running →
    ((s.lanes.get k).timer = none → exec (.lanePeriodExpiry k) s = .next s) ∧
    ((s.lanes.get k).timer.isSome = true →
      let ended := (s.lanes.get k).config.period
      let u := ((s.applyPending k).startPeriod k).evaluateDwell k ended
      (u.lanes.get k).timer = some ((u.lanes.get k).config.period * 10) ∧
      exec (.lanePeriodExpiry k) s = .next ((indices 4).foldl (fun v i => v.computeZone ended (zoneAt k i)) u).drain ∧
      (s.Calm → ∃ t, exec (.lanePeriodExpiry k) s = .next t ∧ t.lanes = u.lanes ∧
        (∀ z, t.zones.get z = if laneOf z = k then u.zoneComputed z ended else s.zones.get z) ∧
        (∀ o, (∀ z, laneOf z = k → (u.zones.get z).config.valveOutput ≠ some o) → t.outputs.get o = s.outputs.get o) ∧
        t.points = s.points ∧ t.plant = s.plant ∧ t.allocator = s.allocator ∧ t.blowers = s.blowers ∧ t.watches = s.watches ∧
        t.raised = [] ∧ t.freeIndex = s.freeIndex ∧ s.SameOutside t))) ∧
  (∀ (s : State) (z : ZoneIdx) (ended : Nat),
    let zn := s.zones.get z
    let mode := s.modeDecided z
    let noted := if mode = zn.mode then s.history else s.history.capture s.timeCount (.zoneMode z zn.mode mode)
    let computed := (s.withZones (s.zones.set z (s.zoneComputed z ended))).withHistory noted
    let trims := (s.laneOfZone z).state.regime ≠ .tripped ∧ mode ≠ .held
    let step : Int := match zn.grant, s.usable zn.config.airflowPoint with
      | some grant, some flow => clampInt (-zn.config.valveRate) zn.config.valveRate (((grant - flow) * zn.config.valveGain).tdiv 1024)
      | _, _ => 0
    (s.isIdle z = true → s.computeZone ended z = s) ∧
    (s.isIdle z = false →
      (¬trims ∨ zn.config.valveOutput = none → s.computeZone ended z = computed) ∧
      (trims → ∀ o, zn.config.valveOutput = some o →
        let out := s.outputs.get o
        s.computeZone ended z = computed.offer o (out.last.getD ((out.config.low + out.config.high).tdiv 2) + step))))

/-- A lane's phase timer expires (R95, R96): AIR_ON turns to AIR_OFF for its length, or the cycle ends and a new one starts from the values then
in force; a phase other than the one just ended changes the demands of the zones that follow the cycle. Outside ECONOMY no phase timer runs and there
is no such event (MODEL'S CHOICE, log entry 4). -/
def Obligations.PhaseExpiryTurnsTheCycle : Prop :=
  ∀ (s : State) (k : LaneIdx), s.power = .running →
    ((s.lanes.get k).state.regime ≠ .economy → exec (.phaseExpiry k) s = .next s) ∧
    (∀ c : Cycle, s.raised = [] → (s.lanes.get k).state = .economy c →
      let l := (s.lanes.get k).config
      let on64 : Int := clampInt l.minimumOn 64 (match s.usable l.ammoniaPoint with
        | some a => l.baseOn + ((a - l.ammoniaTarget) * l.onSlope).tdiv 1000
        | none => l.baseOn)
      let on := l.cycleLength * on64.toNat / 64
      let next : Cycle :=
        if c.phase = .airOn ∧ c.offLength ≠ 0 then { c with phase := .airOff, timer := c.offLength * 10 }
        else if on = 0 then
          { phase := .airOff, onFraction := on64.toNat, onLength := 0, offLength := l.cycleLength, timer := l.cycleLength * 10 }
        else { phase := .airOn, onFraction := on64.toNat, onLength := on, offLength := l.cycleLength - on, timer := on * 10 }
      l.minimumOn ≤ 64 →
      exec (.phaseExpiry k) s = .next ((s.withLanes (s.lanes.set k { s.lanes.get k with state := .economy next })).withZones
        (Table.build fun z =>
          let zn := s.zones.get z
          if laneOf z = k ∧ s.follows z = true ∧ next.phase ≠ c.phase then
            match next.phase with
            | .airOff => { zn with demand := zn.config.minAir, offDemand := true }
            | .airOn => { zn with
                demand := (clampInt zn.config.minAir zn.config.maxAir (zn.config.biasAir + zn.integral.tdiv 256)).toNat
                offDemand := false }
          else zn)))

/-! ### Air allocation and blowers -/

/-- The review of one blower against a reading is the table of R115: its new state with a BLOWER entry when the state changed (R114), and where the table
gives them the offers, run 0 and then for a RUNNING blower speed 0, and BLOWER_START_FAIL or BLOWER_TRIP. Other outputs are offered nothing. -/
def Obligations.ReviewFollowsTheTable : Prop :=
  ∀ (s : State) (b : BlowerIdx) (r : DriveReading),
    let old := (s.blowers.get b).state
    let new := old.reviewed (s.blowers.get b).config r
    let u := s.review b r
    let bl := s.blowers.get b
    let become := (s.withBlowers (s.blowers.set b { bl with state := new })).capture (.blower b old.status new.status)
    (old.status = .starting → r = .fault → u = (become.offerTo bl.config.runOutput 0).raise (.event .blowerStartFail)) ∧
    (old.status = .running → r = .stopped ∨ r = .fault →
      u = ((become.offerTo bl.config.runOutput 0).offerTo bl.config.speedOutput 0).raise (.event .blowerTrip)) ∧
    (old.status = .stopping → r = .fault → u = (become.offerTo bl.config.runOutput 0).raise (.event .blowerTrip)) ∧
    (old.reviewRaises r = [] → u = if new.status = old.status then s else become) ∧
    u.blowers = s.blowers.set b { s.blowers.get b with state := new } ∧
    u.history = (if new.status = old.status then s.history else s.history.capture s.timeCount (.blower b old.status new.status)) ∧
    (∀ o, (s.blowers.get b).config.runOutput ≠ some o → (s.blowers.get b).config.speedOutput ≠ some o →
      u.outputs.get o = s.outputs.get o) ∧
    u.raised.filter (· ≠ .event .queueOverflow) = s.raised.filter (· ≠ .event .queueOverflow) ++ old.reviewRaises r ∧
    u.zones = s.zones ∧ u.lanes = s.lanes ∧ u.allocator = s.allocator ∧ u.watches = s.watches ∧ u.freeIndex = s.freeIndex ∧
    s.SameOutside u

/-- An allocation (R104 to R110): after the review of every blower, each taking-part zone's grant and CUT are written by the first of the
three cases that applies, the sums, AIR_SHORT and FLOOR_SHORT into the allocator record, the timer starts again, and staging moves at most
one blower. An idle zone keeps grant and CUT. No watch follows an internal condition. Whatever the watches follow, the expiry is these steps in this
order (R106): the timer, the reviews in index order, the grants and the sums, the two levels with the entry and the hand-over of a change, the common
speed of the total grant offered, staging on D and C, and then the watch unit. Where the timer does not run there is no such event (MODEL'S
CHOICE, log entry 4). -/
def Obligations.AllocationGrantsTheAir : Prop :=
  ∀ s : State, s.power = .running →
    (s.allocator.timer = none → exec .allocationExpiry s = .next s) ∧
    (s.allocator.timer.isSome = true → s.Calm →
      let reviewed := s.blowersReviewed
      let part := (indices 32).filter fun z => !s.isIdle z
      let d := fun z => (s.zones.get z).demand
      let fl := fun z => min (s.zones.get z).config.minAir (d z)
      let D := (part.map d).sum
      let F := (part.map fl).sum
      let C := (((indices 6).filter fun b => (reviewed.get b).state.isRunning).map fun b => (reviewed.get b).config.cmax).sum
      let g := fun z =>
        if D ≤ C then d z
        else if F ≤ C then fl z + (d z - fl z) * ((C - F) * 65536 / (D - F)) / 65536
        else fl z * C / F
      ∃ t, exec .allocationExpiry s = .next t ∧
        (∀ z, t.zones.get z = if s.isIdle z then s.zones.get z else
          { s.zones.get z with grant := some (g z), cut := decide (g z < d z) }) ∧
        t.allocator =
          { config := s.allocator.config, upCount := t.allocator.upCount, downCount := t.allocator.downCount, lastDemand := D
            lastCapacity := C, lastGrant := (part.map g).sum, timer := some (s.allocator.config.period * 10)
            airShort := decide (C < D), floorShort := decide (C < F) } ∧
        (t.blowers = reviewed ∨
          ∃ b, (reviewed.get b).Staged (t.blowers.get b) ∧ ∀ c, c ≠ b → t.blowers.get c = reviewed.get c) ∧
        (∀ o, (∀ b, (s.blowers.get b).config.runOutput ≠ some o ∧ (s.blowers.get b).config.speedOutput ≠ some o) →
          t.outputs.get o = s.outputs.get o) ∧
        t.lanes = s.lanes ∧ t.watches = s.watches ∧ t.raised = [] ∧ t.freeIndex = s.freeIndex ∧ s.SameOutside t) ∧
    (s.allocator.timer.isSome = true →
      let r := (indices 6).foldl (fun u b => match u.driveReading (u.blowers.get b).config.statusPoint with
        | some x => u.review b x
        | none => u) (s.withAllocator { s.allocator with timer := some (s.allocator.config.period * 10) })
      let part := (indices 32).filter fun z => !r.isIdle z
      let d := fun z => (r.zones.get z).demand
      let fl := fun z => min (r.zones.get z).config.minAir (d z)
      let D := (part.map d).sum
      let F := (part.map fl).sum
      let C := (((indices 6).filter fun b => (r.blowers.get b).state.isRunning).map fun b => (r.blowers.get b).config.cmax).sum
      let g := fun z =>
        if D ≤ C then d z
        else if F ≤ C then fl z + (d z - fl z) * ((C - F) * 65536 / (D - F)) / 65536
        else fl z * C / F
      let G := (part.map g).sum
      let granted := (r.withZones (Table.build fun z => if r.isIdle z then r.zones.get z else
        { r.zones.get z with grant := some (g z), cut := decide (g z < d z) })).withAllocator
        { r.allocator with lastDemand := D, lastCapacity := C, lastGrant := G }
      let air := decide (C < D)
      let aired := if granted.allocator.airShort = air then granted else
        ((granted.withAllocator { granted.allocator with airShort := air }).capture (.condition .airShort (!air) air)).raise
          (.level .airShort air)
      let floor := decide (C < F)
      let floored := if aired.allocator.floorShort = floor then aired else
        ((aired.withAllocator { aired.allocator with floorShort := floor }).capture (.condition .floorShort (!floor) floor)).raise
          (.level .floorShort floor)
      exec .allocationExpiry s = .next ((floored.offerCommonSpeed G).stage D C).drain)

/-- What every allocation guarantees (R108, R109): the grants do not exceed the capacity together, none exceeds its zone's demand, and when
the capacity covers the floors every zone is granted its floor at least. The common speed (R111): below 1000 it is the least permille, and at
least 0, at which the RUNNING set delivers the total grant: Smin and Sspan are the sums of cmin and of cmax less cmin over the RUNNING blowers, and
each RUNNING blower's speed output is offered the speed they give, in index order (the order is MODEL'S CHOICE, log entry 30). -/
def Obligations.GrantsFitAndSpeedDelivers : Prop :=
  (∀ (s : State) (C : Nat),
    let D := s.totalDemand
    let F := s.totalFloor
    let g := fun z => grantOf D C F (s.zones.get z).demand (s.zones.get z).floor
    s.totalGrant D C F ≤ C ∧
    (∀ z, s.isIdle z = false → g z ≤ (s.zones.get z).demand) ∧
    (F ≤ C → ∀ z, s.isIdle z = false → min (s.zones.get z).config.minAir (s.zones.get z).demand ≤ g z)) ∧
  (∀ (G smin span f : Int), 0 < span → 0 ≤ f → f < 1000 →
    (commonSpeed G smin span = f ↔
      (G - smin) * 1000 ≤ f * span ∧ (f = 0 ∨ (f - 1) * span < (G - smin) * 1000))) ∧
  (∀ (G smin span : Int), 0 < span → (commonSpeed G smin span = 1000 ↔ 999 * span < (G - smin) * 1000)) ∧
  (∀ (G smin : Int), commonSpeed G smin 0 = if smin < G then 1000 else 0) ∧
  (∀ (s : State) (G : Nat),
    let running := (indices 6).filter fun b => (s.blowers.get b).state.isRunning
    let smin : Int := (running.map fun b => ((s.blowers.get b).config.cmin : Int)).sum
    let span : Int := (running.map fun b => ((s.blowers.get b).config.cmax : Int) - (s.blowers.get b).config.cmin).sum
    s.speedFor G = commonSpeed G smin span ∧
    s.offerCommonSpeed G = running.foldl
      (fun u b => u.offerTo (s.blowers.get b).config.speedOutput (commonSpeed G smin span)) s)

/-- Staging (R120 to R122): it waits while a blower is STARTING or STOPPING; the highest-rank stop-pending blower is stopped first; without
capacity, and when the demand has stayed above the threshold for the delay, the lowest-rank ready blower starts; else the highest-rank
running blower stops when the demand has fitted the rest for the delay, or no demand is left for the last one. A start captures its BLOWER entry,
offers speed 0 and then run 1 (R116), a stop captures its entry and offers speed 0 (R118); each clears both counts. -/
def Obligations.StagingMovesOneBlower : Prop :=
  ∀ (s : State) (D C : Nat),
    let a := s.allocator
    let stop := fun (b : BlowerIdx) => s.stopBlower b
    let counts := fun (up down : Nat) => s.withAllocator { s.allocator with upCount := up, downCount := down }
    let high := C * a.config.upThreshold < D * 1000
    let up := if (C = 0 ∧ 0 < D) ∨ ¬high then 0 else min (a.upCount + 1) a.config.upDelay
    let starts := (C = 0 ∧ 0 < D) ∨ (high ∧ a.config.upDelay ≤ up)
    let running := (indices 6).filter fun b => (s.blowers.get b).state.isRunning
    ((∃ b, (s.blowers.get b).state.inTransition = true) → s.stage D C = s) ∧
    ((∀ b, (s.blowers.get b).state.inTransition = false) →
      (∀ b, s.HighestRank (fun x => x.state = .running true) b → s.stage D C = stop b) ∧
      ((∀ b, (s.blowers.get b).state ≠ .running true) →
        (∀ b, starts → s.LowestRank Blower.Ready b → s.stage D C = s.startBlower b) ∧
        ((¬starts ∨ ∀ b, ¬(s.blowers.get b).Ready) →
          (running = [] → s.stage D C = counts up 0) ∧
          (∀ l, s.HighestRank (fun x => x.state.isRunning = true) l →
            let surplus := (2 ≤ running.length ∧ D * 1000 < (C - (s.blowers.get l).config.cmax) * a.config.downThreshold) ∨
              (running.length = 1 ∧ D = 0)
            (¬surplus → s.stage D C = counts up 0) ∧
            (surplus → a.downCount + 1 < a.config.downDelay → s.stage D C = counts up (a.downCount + 1)) ∧
            (surplus → a.config.downDelay ≤ a.downCount + 1 → s.stage D C = stop l))))) ∧
    (∀ b, (s.startBlower b).allocator = { a with upCount := 0, downCount := 0 } ∧
      (s.stopBlower b).allocator = { a with upCount := 0, downCount := 0 } ∧
      (s.startBlower b).blowers = s.blowers.set b { s.blowers.get b with
        state := .starting (some ((s.blowers.get b).config.warmUp * 10)) ((s.blowers.get b).config.timeout * 10) } ∧
      (s.stopBlower b).blowers = s.blowers.set b { s.blowers.get b with state := .stopping ((s.blowers.get b).config.rundown * 10) } ∧
      let bl := s.blowers.get b
      let become := fun (new : BlowerState) =>
        (s.withBlowers (s.blowers.set b { bl with state := new })).capture (.blower b bl.state.status new.status)
      let cleared := fun (u : State) => u.withAllocator { a with upCount := 0, downCount := 0 }
      s.startBlower b = cleared (((become (.starting (some (bl.config.warmUp * 10)) (bl.config.timeout * 10))).offerTo
        bl.config.speedOutput 0).offerTo bl.config.runOutput 1) ∧
      s.stopBlower b = cleared ((become (.stopping (bl.config.rundown * 10))).offerTo bl.config.speedOutput 0))

/-- The three timers of a blower expire (R117, R118): a warm-up by the status reading, also where the start timeout is due with it (FAULT and LOCAL
then by the table: MODEL'S CHOICE, log entry 31), a start timeout to FAULTED with run offered 0 and
BLOWER_START_FAIL, a rundown with run offered 0 and STOPPED. Where the timer does not run, in another state or with the warm-up already expired, there
is no such event (MODEL'S CHOICE, log entry 4). -/
def Obligations.BlowerTimersExpire : Prop :=
  ∀ (s : State) (b : BlowerIdx), s.power = .running →
    let bl := s.blowers.get b
    let become := fun (u : State) (new : BlowerState) =>
      (u.withBlowers (u.blowers.set b { bl with state := new })).capture (.blower b bl.state.status new.status)
    let failed := (((become s .faulted).offerTo bl.config.runOutput 0).raise (.event .blowerStartFail)).drain
    let reading := s.driveReading bl.config.statusPoint
    (∀ w timeout, bl.state = .starting (some w) timeout → s.raised = [] →
      (reading = some .running → exec (.warmUpExpiry b) s = .next (become s (.running (!bl.config.inService)))) ∧
      (reading = some .fault → exec (.warmUpExpiry b) s = .next failed) ∧
      (reading = some .handControl → exec (.warmUpExpiry b) s = .next (become s .handControl)) ∧
      (reading = some .stopped ∨ reading = none → exec (.warmUpExpiry b) s = .next
        (s.withBlowers (s.blowers.set b { bl with state := .starting none timeout })))) ∧
    (∀ timeout, bl.state = .starting none timeout → exec (.warmUpExpiry b) s = .next s) ∧
    (∀ w timeout, bl.state = .starting w timeout → exec (.startTimeoutExpiry b) s = .next failed) ∧
    (∀ left, bl.state = .stopping left →
      exec (.rundownExpiry b) s = .next (become (s.offerTo bl.config.runOutput 0) .stopped).drain) ∧
    (bl.state.status ≠ .starting → exec (.warmUpExpiry b) s = .next s ∧ exec (.startTimeoutExpiry b) s = .next s) ∧
    (bl.state.status ≠ .stopping → exec (.rundownExpiry b) s = .next s)

/-! ### Return lines -/

/-- One pacing of a return line (R129 to R135): the first of the five states that applies, its target, the timer started again, and the offer
to the pump. The expiry is taken whole (MODEL'S CHOICE, log entry 25). Where the timer does not run there is no such event (MODEL'S CHOICE, log
entry 4). -/
def Obligations.PacingSetsTheTarget : Prop :=
  ∀ (s : State) (r : LineIdx), s.power = .running →
    let l := s.returns.get r
    let c := l.config
    let served := (indices 8).filter fun k => (s.lanes.get k).state.regime != .offline
    let weight := (served.map fun k => (s.lanes.get k).config.influentWeight).sum
    let mine := ((served.filter fun k => (s.lanes.get k).config.returnLine == some r).map fun k => (s.lanes.get k).config.influentWeight).sum
    let held := clampNat c.minFlow c.maxFlow l.target
    let manual := ∃ o, c.pumpOutput = some o ∧ (s.outputs.get o).state = .supervised
    let still := mine = 0 ∨ weight = 0
    let storm := ∃ k, (s.lanes.get k).config.returnLine = some r ∧ (s.lanes.get k).state.regime = .storm
    let enter := fun (st : LineState) (target : Nat) =>
      s.withReturns (s.returns.set r { l with state := st, target := target, timer := some (c.period * 10) })
    let trim := fun (u : State) (target : Nat) => match c.pumpOutput with
      | none => u
      | some o =>
        let base := (s.outputs.get o).last.getD (((s.outputs.get o).config.low + (s.outputs.get o).config.high).tdiv 2)
        let step := match s.usable c.flowPoint with
          | some flow => clampInt (-c.rate) c.rate (((target - flow) * c.gain).tdiv 1024)
          | none => 0
        u.offer o (base + step)
    (l.timer = none → exec (.pacingExpiry r) s = .next s) ∧
    (l.timer.isSome = true →
      (manual → exec (.pacingExpiry r) s = .next (enter .heldManual held).drain) ∧
      (¬manual → still → exec (.pacingExpiry r) s = .next (match c.pumpOutput with
        | none => enter .stopped 0
        | some o => (enter .stopped 0).offer o (s.outputs.get o).config.low).drain) ∧
      (¬manual → ¬still → storm →
        let h := match l.state with
          | .heldStorm h => h
          | _ => held
        exec (.pacingExpiry r) s = .next (trim (enter (.heldStorm h) h) h).drain) ∧
      (¬manual → ¬still → ¬storm → s.usable s.plant.config.influentPoint = none →
        exec (.pacingExpiry r) s = .next (trim (enter .heldStale held) held).drain) ∧
      (¬manual → ¬still → ¬storm → ∀ q : Int, s.usable s.plant.config.influentPoint = some q →
        let boost := match s.usable c.blanketPoint with
          | some b => if c.blanketThreshold ≤ b then c.boost else 0
          | none => 0
        let target := clampNat c.minFlow c.maxFlow (q.toNat * mine / weight * min (c.ratio + boost) 2000 / 1000)
        exec (.pacingExpiry r) s = .next (trim (enter .pacing target) target).drain))

/-! ### Outputs and supervision -/

/-- An offer and a resend (R142, R143, R145): ignored by an unused and by a SUPERVISED output; an AUTO output sends when it has no last value,
the change reaches the deadband or its last value is unsent. To send sets last commanded, restarts the resend timer and offers a COMMAND,
whose answer clears or sets unsent. A forced offer passes over the deadband: it sends a value that differs from the last, or an unsent one
(R151, R152). Where the resend timer does not run there is no such event (MODEL'S CHOICE, log entry 4). -/
def Obligations.OffersAndResendsSend : Prop :=
  ∀ (s : State) (o : OutputIdx) (v : Int),
    let out := s.outputs.get o
    let w := clampInt out.config.low out.config.high v
    let sends := out.last = none ∨ out.unsent = true ∨ ∃ l, out.last = some l ∧ out.config.deadband ≤ (w - l).natAbs
    let timer := if out.config.resend = 0 then out.resendTimer else some (out.config.resend * 10)
    let sent := fun (x : Int) =>
      let u := s.withOutputs (s.outputs.set o { out with last := some x, resendTimer := timer })
      let answer := u.sendCommand o x
      answer.1.withOutputs (s.outputs.set o { out with last := some x, resendTimer := timer, unsent := !answer.2 })
    (out.config.destination = 0 ∨ out.state = .supervised → s.offer o v = s) ∧
    (out.config.destination ≠ 0 → out.state = .auto → sends → s.offer o v = sent w) ∧
    (out.config.destination ≠ 0 → out.state = .auto → ¬sends → s.offer o v = s) ∧
    (out.config.destination = 0 ∨ out.state = .supervised → s.forcedOffer o v = s) ∧
    (out.config.destination ≠ 0 → out.state = .auto →
      s.forcedOffer o v = if out.last = some w ∧ out.unsent = false then s else sent w) ∧
    (s.power = .running →
      (out.resendTimer = none → exec (.resendExpiry o) s = .next s) ∧
      (out.resendTimer.isSome = true →
        (∀ l, out.state = .auto → out.last = some l → exec (.resendExpiry o) s = .next (sent l).drain) ∧
        (out.state = .supervised → s.raised = [] → out.config.resend ≠ 0 → exec (.resendExpiry o) s = .next
          (s.withOutputs (s.outputs.set o { out with resendTimer := some (out.config.resend * 10) })))))

/-- The guard treats one item by the first case that applies (R146): no output for it, a valve of a TRIPPED lane, a source that is no
supervisor source, or the value clamped; the accepted value becomes last commanded, and under a running countdown the output SUPERVISED. A change
of an output's state captures its OVERRIDE entry, and then each zone in index order that names the output and is not idle decides its mode, HELD under
SUPERVISED and by its DO point under AUTO, with a ZONE_MODE entry where that changes it (R83, R84, R141); an output that has the state already is left
as it is. -/
def Obligations.GuardTreatsItems : Prop :=
  (∀ (s : State) (o : OutputIdx) (new : OutputState),
    let out := s.outputs.get o
    let mode := fun z => if new = .supervised then Mode.held
      else if (s.usable (s.zones.get z).config.doPoint).isSome then Mode.doControl else Mode.fixedAir
    let moved := (indices 32).filter fun z =>
      decide ((s.zones.get z).config.valveOutput = some o ∧ s.isIdle z = false ∧ (s.zones.get z).mode ≠ mode z)
    (out.state = new → s.changeOutput o new = s) ∧
    (out.state ≠ new → s.changeOutput o new =
      ((s.withOutputs (s.outputs.set o { out with state := new })).withZones (Table.build fun z =>
        let zn := s.zones.get z
        if z ∈ moved then { zn with mode := mode z, reseed := zn.reseed || mode z == .doControl } else zn)).withHistory
        (moved.foldl (fun h z => h.capture s.timeCount (.zoneMode z (s.zones.get z).mode (mode z)))
          (s.history.capture s.timeCount (.override o out.state new))))) ∧
  ∀ (s : State) (dst src : Addr) (item : CommandItem),
    let found := fun (o : OutputIdx) => (s.outputs.get o).config.destination ≠ 0 ∧ (s.outputs.get o).config.destination = dst ∧
      (s.outputs.get o).config.channel = item.channel
    let noted := fun (o : OutputIdx) (v : Int) =>
      let out := s.outputs.get o
      (s.withOutputs (s.outputs.set o
        { out with
          last := some v, unsent := false
          resendTimer := if out.config.resend = 0 then out.resendTimer else some (out.config.resend * 10) })).withRing
        { s.ring with transmit := s.ring.transmit.map fun q => match q.body with
          | .command (some p) ch w => if p = o then { q with body := .command (some p) ch v } else { q with body := .command (some p) ch w }
          | _ => q }
    ((∀ o, ¬found o) → s.guardItem dst src item = (s, some item)) ∧
    (∀ o, found o → (∀ p, p < o → ¬found p) →
      let c := (s.outputs.get o).config
      let tripped := c.kind = .zoneValve ∧ (s.lanes.get (laneOf c.owner)).state.regime = .tripped
      let v := clampInt c.low c.high item.value
      (tripped → s.guardItem dst src item = (noted o c.trip, some { item with value := c.trip })) ∧
      (¬tripped → s.isSupervisor src = false → s.guardItem dst src item = (s, none)) ∧
      (¬tripped → s.isSupervisor src = true → s.supervision.countdown = none →
        s.guardItem dst src item = (noted o v, some { item with value := v })) ∧
      (¬tripped → s.isSupervisor src = true → s.supervision.countdown.isSome = true →
        s.guardItem dst src item = ((noted o v).changeOutput o .supervised, some { item with value := v })))

/-- REFRESH and the countdown's expiry (R148, R149): a lease of at least 5 s is loaded, and an active SUPERVISION_LOST is cleared with its SUPERVISION
entry, which the watch unit takes before the reply is offered; the expiry releases every output in index order, disables the countdown and makes
SUPERVISION_LOST active. Where the countdown is disabled there is no such event (MODEL'S CHOICE, log entry 4). -/
def Obligations.RefreshAndCountdownExpiry : Prop :=
  (∀ (s : State) (src : Addr) (tag seconds : Byte), s.Serves src →
    let loaded : Supervision := { countdown := some (max 5 seconds.toNat * 10), lost := false }
    let result : Result := if seconds.toNat < 5 then .okClamped else .ok
    (s.supervision.lost = false →
      exec (.refresh src tag seconds) s = .next ((s.replied src 13 tag result []).withSupervision loaded)) ∧
    (s.supervision.lost = true → s.Calm →
      exec (.refresh src tag seconds) s = .next
        (((s.replied src 13 tag result []).withSupervision loaded).capture (.supervision true false))) ∧
    (s.supervision.lost = true →
      exec (.refresh src tag seconds) s = .next (State.reply src 13 tag
        (((s.hearing.withSupervision loaded).capture (.supervision true false)).raise (.level .supervisionLost false),
          some (result, []))))) ∧
  (∀ s : State, s.power = .running →
    (s.supervision.countdown = none → exec .countdownExpiry s = .next s) ∧
    (s.supervision.countdown.isSome = true → s.supervision.lost = false →
      let released := (indices 64).foldl (fun u o => u.changeOutput o .auto) s
      exec .countdownExpiry s = .next (((released.withSupervision { countdown := none, lost := true }).capture
        (.supervision false true)).raise (.level .supervisionLost true)).drain ∧
      ∀ o, released.outputs.get o = { s.outputs.get o with state := .auto }))

/-- RELEASE_OUTPUT (R150): an AUTO output is answered OK with no change; a SUPERVISED one returns to AUTO with its OVERRIDE entry, and each zone
that names it and is not idle decides its mode anew (R84, R141). Nothing else of the output changes and nothing is sent but the reply. -/
def Obligations.ReleaseOutputReturnsToAuto : Prop :=
  ∀ (s : State) (src : Addr) (tag output : Byte), s.Serves src →
    (63 < output.toNat → exec (.releaseOutput src tag output) s = .next (s.replied src 12 tag .badIndex [])) ∧
    (∀ o : OutputIdx, output.toNat = o.val →
      ((s.outputs.get o).state = .auto → exec (.releaseOutput src tag output) s = .next (s.replied src 12 tag .ok [])) ∧
      ((s.outputs.get o).state = .supervised →
        let outputs := s.outputs.set o { s.outputs.get o with state := .auto }
        let named := fun z => (s.zones.get z).config.valveOutput = some o ∧ s.isIdle z = false
        let mode := fun z => if (s.usable (s.zones.get z).config.doPoint).isSome then Mode.doControl else Mode.fixedAir
        let moved := (indices 32).filter fun z => decide (named z ∧ (s.zones.get z).mode ≠ mode z)
        exec (.releaseOutput src tag output) s = .next
          ((((s.replied src 12 tag .ok []).withOutputs outputs).withZones (Table.build fun z =>
            let zn := s.zones.get z
            if z ∈ moved then { zn with mode := mode z, reseed := zn.reseed || mode z == .doControl } else zn)).withHistory
            (moved.foldl (fun h z => h.capture s.timeCount (.zoneMode z (s.zones.get z).mode (mode z)))
              (s.history.capture s.timeCount (.override o .supervised .auto))))))

/-! ### Watches, trips and holds -/

/-- One watch's answer to one change of its subject (R160 to R163): an OFF watch and another subject are passed over, a value test of an
unusable point is skipped, and otherwise the truth is formed and, in ARMED, counted: a true with count 0 fires the watch. -/
def Obligations.EvaluationFormsAndCountsTheTruth : Prop :=
  ∀ (s : State) (ch : Change) (w : WatchIdx),
    let x := s.watches.get w
    let c := x.config
    let passes := fun (t : State) (truth : Bool) (value : Int) =>
      let y := { x with truth := truth }
      (x.state ≠ .armed → t = s.withWatches (s.watches.set w y)) ∧
      (x.state = .armed → truth = false → t = s.withWatches (s.watches.set w { y with count := c.persistence - 1 })) ∧
      (x.state = .armed → truth = true → x.count ≠ 0 → t = s.withWatches (s.watches.set w { y with count := x.count - 1 })) ∧
      (x.state = .armed → truth = true → x.count = 0 → t = (s.withWatches (s.watches.set w y)).fire w value)
    let isTrue := fun (v : Int) =>
      (c.test = .above ∧ c.high ≤ v) ∨ (c.test = .below ∧ v ≤ c.low) ∨ (c.test = .outside ∧ (c.high ≤ v ∨ v ≤ c.low))
    let isFalse := fun (v : Int) =>
      (c.test = .above ∧ v ≤ c.high - c.hysteresis) ∨ (c.test = .below ∧ c.low + c.hysteresis ≤ v) ∨
        (c.test = .outside ∧ c.low + c.hysteresis ≤ v ∧ v ≤ c.high - c.hysteresis)
    (x.state = .off ∨ c.subject ≠ ch.subject → s.evaluateWatch ch w = s) ∧
    (x.state ≠ .off → c.subject = ch.subject →
      (∀ p, ch = .point p →
        let pt := (s.points.get p).state
        (c.test = .unusable → passes (s.evaluateWatch ch w) pt.usable.isNone pt.quality.code) ∧
        (c.test = .above ∨ c.test = .below ∨ c.test = .outside →
          (pt.usable = none → s.evaluateWatch ch w = s) ∧
          (∀ v, pt.usable = some v →
            passes (s.evaluateWatch ch w) (if isTrue v then true else if isFalse v then false else x.truth) v))) ∧
      (c.test = .active →
        (∀ l b, ch = .level l b → passes (s.evaluateWatch ch w) b 1) ∧ (∀ e, ch = .event e → passes (s.evaluateWatch ch w) true 1)))

/-- A firing (R165 to R168): FIRED with its hold under rearm AUTO, the occurrence flag, the WATCH_FIRED entry; with actions armed the NOTICE, the
trip request and the wake; then the linked watches that wait are armed with a full count, and the history freezes. Whether a woken lane's
allocation comes before or after this firing's freeze is open (log entry 7). That it is taken within the firing, so before a later watch's freeze
at the same change, is the model's choice (DESIGN CHOICE, log entry 33). RELAY (R171): an alarm line is active exactly while a FIRED watch with armed
RELAY on it exists, in a running part (DEDUCED, log entry 19), so such a firing makes its line active. -/
def Obligations.FiringTakesItsSteps : Prop :=
  (∀ (s : State) (k : Fin 4), s.alarmLine k = true ↔ s.power = .running ∧
    ∃ w, (s.watches.get w).state.isFired = true ∧ (s.watches.get w).config.armed = true ∧
      (s.watches.get w).config.actions.getLsbD 1 = true ∧ (s.watches.get w).config.relayLine = k) ∧
  ∀ (s : State) (w : WatchIdx) (value : Int),
    let x := s.watches.get w
    let c := x.config
    let hold := if c.rearm = .auto then some (c.hold * 10) else none
    let fired := (s.withWatches (s.watches.set w { x with state := .fired hold, occurrence := true })).capture (.watchFired w value)
    let link := fun (u : State) => u.withWatches (u.watches.map fun y =>
      if y.config.stage = some w ∧ y.state = .waiting then { y with state := .armed, count := y.config.persistence - 1 } else y)
    let freeze := fun (u : State) =>
      if c.actions.getLsbD 4 then u.withHistory { u.history with frozen := true } else u
    let noticed :=
      if c.actions.getLsbD 0 = true ∧ s.plant.config.noticeAddress ≠ 0 then
        (fired.enqueue { dst := s.plant.config.noticeAddress
                         body := .notice w (BitVec.ofNat 8 c.subject.code) value s.timeCount }).1
      else fired
    let tripped := if c.actions.getLsbD 2 then noticed.tripRequest c.targetLane w else noticed
    let wakes := c.actions.getLsbD 3 = true ∧ (tripped.lanes.get c.targetLane).state.regime = .economy
    let woken := tripped.changeRegime c.targetLane .normal
    let settled := woken.withFreeIndex (woken.freeIndex + 1)
    (c.armed = false → s.fire w value = link fired) ∧
    (c.armed = true → ¬wakes → s.fire w value = freeze (link tripped)) ∧
    (c.armed = true → wakes → c.actions.getLsbD 4 = false → s.fire w value = link woken.allocate) ∧
    (c.armed = true → wakes → c.actions.getLsbD 4 = true →
      s.fire w value = freeze (link settled.allocate) ∨ s.fire w value = (freeze (link settled)).allocate) ∧
    (s.power = .running → c.armed = true → c.actions.getLsbD 1 = true → (s.fire w value).alarmLine c.relayLine = true)

/-- The watch unit takes every arrival before an event ends (DEDUCED, log entry 14): none is left waiting, and with none waiting nothing happens. The
arrivals are taken in the order they arrived, each by the watches in index order, and what an evaluation raises joins behind those that wait and is
taken after the evaluation of the whole change has ended (R155, R160). An arrival that concerns no watch changes nothing. -/
def Obligations.WatchUnitTakesEveryArrival : Prop :=
  (∀ s : State, s.drain.raised = []) ∧
  (∀ s : State, s.raised = [] → s.drain = s) ∧
  (∀ (s : State) (ch : Change) (rest : List Change), s.raised = ch :: rest →
    s.drain = ((indices 32).foldl (fun u w => u.evaluateWatch ch w) (s.withRaised rest)).drain) ∧
  (∀ (s : State) (ch : Change) (rest : List Change) (w : WatchIdx), ∃ more,
    ((s.withRaised rest).evaluateWatch ch w).raised = rest ++ more) ∧
  (∀ (s : State) (ch : Change), s.raised = [ch] →
    let after := (indices 32).foldl (fun u w => u.evaluateWatch ch w) (s.withRaised [])
    after.raised = [] → s.drain = after) ∧
  (∀ s : State, (∀ ch ∈ s.raised, ∀ w, (s.watches.get w).state = .off ∨ (s.watches.get w).config.subject ≠ ch.subject) →
    s.drain = s.withRaised [])

/-- A watch leaves FIRED (R164, R169, R170): to ARMED when it has no stage link or its stage watch is FIRED, else to WAITING, and the ARMED
watches linked to it wait again with a full count. A hold's expiry keeps count and occurrence; ACKNOWLEDGE reloads the count and clears the
occurrence, and of a watch not FIRED it clears the occurrence alone. Where no hold runs there is no expiry (MODEL'S CHOICE, log entry 4). -/
def Obligations.HoldExpiryAndAcknowledge : Prop :=
  ∀ (s : State) (w : WatchIdx),
    let x := s.watches.get w
    let staged := ∀ j, x.config.stage = some j → (s.watches.get j).state.isFired = true
    let back : WatchState := if staged then .armed else .waiting
    let linked := fun (ws : Table 32 Watch) => ws.map fun y =>
      if y.config.stage = some w ∧ y.state = .armed then { y with state := .waiting, count := y.config.persistence - 1 } else y
    (s.power = .running → s.raised = [] →
      (x.state.hold? = none → exec (.holdExpiry w) s = .next s) ∧
      (x.state.hold?.isSome = true →
        exec (.holdExpiry w) s = .next (s.withWatches (linked (s.watches.set w { x with state := back }))))) ∧
    (∀ (src : Addr) (tag watch : Byte), s.Serves src →
      (31 < watch.toNat → exec (.acknowledge src tag watch) s = .next (s.replied src 11 tag .badIndex [])) ∧
      (watch.toNat = w.val →
        (x.state.isFired = true → exec (.acknowledge src tag watch) s = .next ((s.replied src 11 tag .ok []).withWatches
          (linked (s.watches.set w { x with state := back, count := x.config.persistence - 1, occurrence := false })))) ∧
        (x.state.isFired = false → exec (.acknowledge src tag watch) s = .next ((s.replied src 11 tag .ok []).withWatches
          (s.watches.set w { x with occurrence := false })))))

/-- A trip request (R69 to R71, R99, R151): the named lane, and the working lanes of its group when the group's cross-trip is enabled, become
TRIPPED by the cause, the named lane first and the others in index order; their working zones ask for trip air, and their used valve outputs are
AUTO at the trip value. One lane's trip captures TRIP, ends an economy cycle, changes the regime with its REGIME entry and the demands of its zones,
and then takes the lane's valve outputs in index order: each that is SUPERVISED returns to AUTO with its OVERRIDE and ZONE_MODE entries (R141), and each
is given its trip value as a forced offer, which sends a COMMAND (R142, R151). Other lanes keep regime and cause. -/
def Obligations.TripRequestSpreads : Prop :=
  (∀ (s : State) (k : LaneIdx) (cause : WatchIdx),
    let l := s.lanes.get k
    let changed := (((s.capture (.trip k cause)).withLanes (s.lanes.set k { l with state := .tripped cause, dwell := 0 })).capture
      (.regime k l.state.regime .tripped)).withZones (Table.build fun z => let zn := s.zones.get z
        if laneOf z = k ∧ (placeOf z).val < l.config.zoneCount then { zn with demand := zn.config.tripAir, offDemand := false } else zn)
    let valves := (indices 64).filter fun o =>
      decide ((s.outputs.get o).config.kind = .zoneValve ∧ laneOf (s.outputs.get o).config.owner = k)
    s.tripLane k cause = valves.foldl
      (fun u o => (u.changeOutput o .auto).forcedOffer o (s.outputs.get o).config.trip) changed) ∧
  ∀ (s : State) (k : LaneIdx) (cause : WatchIdx),
    let group := (s.lanes.get k).config.tripGroup
    let spreads := ∃ g, group = some g ∧ s.plant.config.crossTrip.get g = true
    let working := fun (j : LaneIdx) => (s.lanes.get j).state.regime ≠ .offline ∧ (s.lanes.get j).state.regime ≠ .tripped
    let trips := fun (j : LaneIdx) => working j ∧ (j = k ∨ (spreads ∧ (s.lanes.get j).config.tripGroup = group))
    let valve := fun (o : OutputIdx) => (s.outputs.get o).config.kind = .zoneValve ∧ trips (laneOf (s.outputs.get o).config.owner)
    let t := s.tripRequest k cause
    t = ((k :: (indices 8).filter (· ≠ k)).filter fun j => trips j).foldl (fun u j => u.tripLane j cause) s ∧
    (∀ j, t.lanes.get j = if trips j then { s.lanes.get j with state := .tripped cause, dwell := 0 } else s.lanes.get j) ∧
    (∀ z, let zn := s.zones.get z
      let zn' := t.zones.get z
      zn'.config = zn.config ∧ zn'.setpoint = zn.setpoint ∧ zn'.integral = zn.integral ∧ zn'.grant = zn.grant ∧ zn'.cut = zn.cut ∧
        (trips (laneOf z) ∧ s.isIdle z = false → zn'.demand = zn.config.tripAir ∧ zn'.offDemand = false) ∧
        (¬trips (laneOf z) ∨ s.isIdle z = true → zn'.demand = zn.demand ∧ zn'.offDemand = zn.offDemand)) ∧
    (∀ o, let out := s.outputs.get o
      (¬valve o → t.outputs.get o = out) ∧
      (valve o → (t.outputs.get o).config = out.config ∧ (t.outputs.get o).state = .auto ∧
        (out.config.destination ≠ 0 →
          (t.outputs.get o).last = some (clampInt out.config.low out.config.high out.config.trip)))) ∧
    t.allocator = s.allocator ∧ t.blowers = s.blowers ∧ t.watches = s.watches ∧ t.freeIndex = s.freeIndex ∧ s.SameOutside t

/-! ### Management requests -/

/-- The checks of R183 come first, for every request: NOT_PERMITTED for a source that is no supervisor source, then BAD_REQUEST for an unknown
code or too few arguments; neither has another effect, and the reply is lost at a full queue. Argument bytes beyond those needed are ignored
(BAD_REQUEST as a command carries any bytes: MODEL'S CHOICE, log entry 2). A request clears RING_SILENT before it acts, and one that carries
the own address as its source is removed (R8, R15; MODEL'S CHOICE, log entry 1). All of this holds of every request also where the receiver holds part
of another frame, which stays held (MODEL'S CHOICE, log entry 27). The reply is offered last, after the watch unit has taken what the
request raised (R182). -/
def Obligations.RequestsAreCheckedFirst : Prop :=
  (∀ (s : State) (src : Addr) (code tag : Byte) (result : Result) (data : List Byte),
    State.reply src code tag (s, some (result, data)) =
      (s.drain.enqueue { dst := src, body := .reply code tag result data }).1.drain) ∧
  ∀ (s : State) (c : Instr) (src : Addr) (tag code : Byte) (args : List Byte), Request.parts c = some (src, tag, code, args) →
    (s.power = .running → src ≠ s.ownAddress → s.isSupervisor src = false → s.ring.silent = false → s.raised = [] →
      s.ring.transmit.length < 16 → exec c s = .next (s.replied src code tag .notPermitted [])) ∧
    (s.Serves src → (Request.needs code args = none ∨ ∃ n, Request.needs code args = some n ∧ args.length < n) →
      exec c s = .next (s.replied src code tag .badRequest [])) ∧
    (s.power = .running → src ≠ s.ownAddress → s.ring.silent = false → s.Calm → 16 ≤ s.ring.transmit.length →
      (s.isSupervisor src = false ∨ Request.needs code args = none) → exec c s = .next s.hearing) ∧
    (s.power = .running → s.ring.silent = true → exec c s = exec c
      (((s.withRing { s.ring.restartSilence s.plant.config.silenceTime with silent := false }).capture
        (.condition .ringSilent true false)).raise (.level .ringSilent false)).drain) ∧
    (s.power = .running → s.ring.silent = false → s.raised = [] → src = s.ownAddress → exec c s = .next s.hearing) ∧
    (∃ t, exec c s = .next t ∧ t.ring.received = s.ring.received) ∧
    (∀ extra : List Byte, c.wf = true → (∀ a b d e, c ≠ .badRequest a b d e) →
      exec (.badRequest src tag code (args ++ extra)) s = exec c s)

/-- READ_FIELDS (R184): the refusals in their order, else the values of the run, 4 bytes each, and a run that takes in a route entry's hit field
clears it (R22); no other read changes anything. The configuration fields of all ten tables carry the values in force of the indexed record, not
the pending ones (R55). The run-time fields carry what the tables of sections 2.7, 3.7, 4.1, 4.5, 5.1, 6.1, 6.6, 7.1, 8.1
and 9.2 give: codes, flags, the tenths left of a running timer (of one that is due, 1: MODEL'S CHOICE, log entry 17), or the absent marker. -/
def Obligations.ReadFieldsReturnsTheRun : Prop :=
  (∀ (s : State),
    let absent : Int := -2147483648
    let value := fun (x : Option Int) => x.getD absent
    let number := fun (x : Option Nat) => value (x.map fun (n : Nat) => (n : Int))
    let left := fun (t : Option Nat) => number (t.map fun n => if n = 0 then 1 else n)
    let flag := fun (b : Bool) => if b then (1 : Int) else 0
    let link := fun (x : Option Nat) => (x.map fun (n : Nat) => (n : Int)).getD (-1)
    let read := fun (t : TableName) (i first last : Nat) => ((List.range (last + 1)).drop first).map (s.field t i)
    (∀ i : RouteIdx, let c := (s.routes.get i).config
      read .route i 0 8 =
        [flag c.valid, if c.matchField = .source then 0 else 1, (c.base.toNat : Int), (c.exponent : Int), (c.kinds.toNat : Int),
         (match c.disposition with
          | .pass => 0
          | .observe => 1
          | .consume => 2
          | .guard => 3
          | .discard => 4),
         (c.pointBase : Int), (c.channels : Int), flag c.supervisor]) ∧
    (∀ i : PointIdx, let c := (s.points.get i).config
      read .point i 0 4 =
        [(match c.kind with
          | .dissolvedOxygen => 0
          | .ammonia => 1
          | .airflow => 2
          | .influent => 3
          | .returnFlow => 4
          | .blanket => 5
          | .equipment => 6
          | .generic => 7),
         c.low, c.high, (c.ageLimit : Int), (c.shift : Int)]) ∧
    (∀ i : LaneIdx, let c := (s.lanes.get i).config
      read .lane i 0 20 =
        [flag c.inService, (c.period : Int), (c.zoneCount : Int), link (c.ammoniaPoint.map (·.val)), c.ammoniaTarget, c.trimGain,
         c.trimLow, c.trimHigh, (c.influentWeight : Int), link (c.returnLine.map (·.val)), link (c.tripGroup.map (·.val)),
         flag c.autoEconomy, c.enterLevel, (c.dwellMinutes : Int), (c.wakeMask.toNat : Int), c.wakeAmmonia, c.wakeInfluent,
         (c.cycleLength : Int), c.baseOn, c.minimumOn, c.onSlope]) ∧
    (let c := s.plant.config
     read .plant 0 0 9 =
        [link (c.influentPoint.map (·.val)), c.enterLevel, c.exitLevel, (c.stormHold : Int), flag (c.crossTrip.get 0),
         flag (c.crossTrip.get 1), flag (c.crossTrip.get 2), flag (c.crossTrip.get 3), (c.noticeAddress.toNat : Int),
         (c.silenceTime : Int)]) ∧
    (∀ i : ZoneIdx, let c := (s.zones.get i).config
      read .zone i 0 15 =
        [link (c.doPoint.map (·.val)), link (c.airflowPoint.map (·.val)), link (c.valveOutput.map (·.val)), c.baseSetpoint,
         c.economyOffset, c.stormSetpoint, c.kp, c.ki, (c.biasAir : Int), (c.minAir : Int), (c.maxAir : Int), (c.fixedAir : Int),
         (c.tripAir : Int), flag c.cyclic, c.valveGain, c.valveRate]) ∧
    (let c := s.allocator.config
     read .allocator 0 0 4 =
        [(c.period : Int), (c.upThreshold : Int), (c.downThreshold : Int), (c.upDelay : Int), (c.downDelay : Int)]) ∧
    (∀ i : BlowerIdx, let c := (s.blowers.get i).config
      read .blower i 0 9 =
        [flag c.inService, link (c.runOutput.map (·.val)), link (c.speedOutput.map (·.val)), link (c.statusPoint.map (·.val)),
         (c.cmin : Int), (c.cmax : Int), (c.rank.val : Int), (c.warmUp : Int), (c.timeout : Int), (c.rundown : Int)]) ∧
    (∀ i : LineIdx, let c := (s.returns.get i).config
      read .returnLine i 0 10 =
        [link (c.pumpOutput.map (·.val)), link (c.flowPoint.map (·.val)), link (c.blanketPoint.map (·.val)), (c.ratio : Int),
         c.blanketThreshold, (c.boost : Int), (c.minFlow : Int), (c.maxFlow : Int), (c.period : Int), c.gain, c.rate]) ∧
    (∀ i : OutputIdx, let c := (s.outputs.get i).config
      read .output i 0 8 =
        [(c.destination.toNat : Int), (c.channel.toNat : Int),
         (match c.kind with
          | .zoneValve => 0
          | .blowerRun => 1
          | .blowerSpeed => 2
          | .returnPump => 3
          | .general => 4),
         (c.owner.val : Int), c.low, c.high, c.trip, c.deadband, (c.resend : Int)]) ∧
    (∀ i : WatchIdx, let c := (s.watches.get i).config
      read .watch i 0 13 =
        [flag c.enable,
         (match c.subject with
          | .point p => (p.val : Int)
          | .level .airShort => 128
          | .level .floorShort => 129
          | .level .stormActive => 130
          | .level .supervisionLost => 131
          | .level .ringSilent => 132
          | .event .routeRange => 133
          | .event .queueOverflow => 134
          | .event .loopCongestion => 135
          | .event .blowerStartFail => 136
          | .event .blowerTrip => 137
          | .event .storeFault => 138),
         (match c.test with
          | .above => 0
          | .below => 1
          | .outside => 2
          | .unusable => 3
          | .active => 4),
         c.high, c.low, c.hysteresis, (c.persistence : Int), link (c.stage.map (·.val)), (c.actions.toNat : Int), flag c.armed,
         (c.targetLane.val : Int), (c.relayLine.val : Int), if c.rearm = .manual then 0 else 1, (c.hold : Int)]) ∧
    (∀ i : RouteIdx, read .route i 9 10 = [flag (s.routes.get i).locked, flag (s.routes.get i).hit]) ∧
    (∀ i : PointIdx, let p := s.points.get i
      read .point i 5 9 =
        [value (p.state.reading.map (·.value)), value (p.state.reading.map (·.filtered)),
         (match p.state with
          | .empty => 0
          | .good _ => 1
          | .suspect _ => 2
          | .stale _ => 3
          | .bad _ => 4
          | .forced _ => 5),
         left p.age, number (p.lastSeq.map (·.toNat))]) ∧
    (∀ i : LaneIdx, let l := s.lanes.get i
      read .lane i 21 27 =
        [(match l.state with
          | .offline => 0
          | .normal => 1
          | .economy _ => 2
          | .storm => 3
          | .tripped _ => 4),
         (match l.state with
          | .tripped w => (w.val : Int)
          | _ => absent),
         (l.dwell : Int),
         (match l.state with
          | .economy c => if c.phase = .airOn then 0 else 1
          | _ => absent),
         (match l.state with
          | .economy c => (c.onFraction : Int)
          | _ => absent),
         left l.timer, flag l.pending.isSome]) ∧
    (read .plant 0 10 11 = [flag s.plant.storm, left s.plant.exitHold]) ∧
    (∀ i : ZoneIdx, let z := s.zones.get i
      read .zone i 16 23 =
        [(match z.mode with
          | .doControl => 0
          | .fixedAir => 1
          | .held => 2),
         z.setpoint, z.integral, (z.demand : Int), number z.grant, flag z.cut, flag z.reseed, flag z.offDemand]) ∧
    (read .allocator 0 5 10 =
      [(s.allocator.upCount : Int), (s.allocator.downCount : Int), (s.allocator.lastDemand : Int), (s.allocator.lastCapacity : Int),
       (s.allocator.lastGrant : Int), left s.allocator.timer]) ∧
    (∀ i : BlowerIdx, read .blower i 10 14 = match (s.blowers.get i).state with
      | .unknown => [0, absent, absent, absent, 0]
      | .stopped => [1, absent, absent, absent, 0]
      | .starting w t => [2, left w, left (some t), absent, 0]
      | .running p => [3, absent, absent, absent, flag p]
      | .stopping r => [4, absent, absent, left (some r), 0]
      | .faulted => [5, absent, absent, absent, 0]
      | .handControl => [6, absent, absent, absent, 0]) ∧
    (∀ i : LineIdx, let l := s.returns.get i
      read .returnLine i 11 14 = match l.state with
      | .pacing => [0, (l.target : Int), absent, left l.timer]
      | .heldStorm h => [1, (l.target : Int), (h : Int), left l.timer]
      | .heldStale => [2, (l.target : Int), absent, left l.timer]
      | .heldManual => [3, (l.target : Int), absent, left l.timer]
      | .stopped => [4, (l.target : Int), absent, left l.timer]) ∧
    (∀ i : OutputIdx, let o := s.outputs.get i
      read .output i 9 12 = [if o.state = .auto then 0 else 1, value o.last, flag o.unsent, left o.resendTimer]) ∧
    (∀ i : WatchIdx, let w := s.watches.get i
      read .watch i 14 18 =
        [(match w.state with
          | .off => 0
          | .waiting => 1
          | .armed => 2
          | .fired _ => 3),
         (w.count : Int), flag w.truth, flag w.occurrence,
         (match w.state with
          | .fired hold => left hold
          | _ => absent)])) ∧
  ∀ (s : State) (src : Addr) (tag table index first count : Byte), s.Serves src →
    ((9 < table.toNat ∨ count = 0 ∨ 8 < count.toNat) →
      exec (.readFields src tag table index first count) s = .next (s.replied src 1 tag .badArgument [])) ∧
    (1 ≤ count.toNat → count.toNat ≤ 8 → ∀ t : TableName, TableName.ofCode table = some t →
      (t.records ≤ index.toNat →
        exec (.readFields src tag table index first count) s = .next (s.replied src 1 tag .badIndex [])) ∧
      (index.toNat < t.records → t.fields < first.toNat + count.toNat →
        exec (.readFields src tag table index first count) s = .next (s.replied src 1 tag .badArgument [])) ∧
      (index.toNat < t.records → first.toNat + count.toNat ≤ t.fields →
        let data := (List.range count.toNat).flatMap fun i => bytesOfInt (s.field t index.toNat (first.toNat + i))
        let done := s.replied src 1 tag .ok data
        (t ≠ .route ∨ 10 < first.toNat ∨ first.toNat + count.toNat ≤ 10 →
          exec (.readFields src tag table index first count) s = .next done) ∧
        (∀ i : RouteIdx, t = .route → index.toNat = i.val → first.toNat ≤ 10 → 10 < first.toNat + count.toNat →
          exec (.readFields src tag table index first count) s = .next
            (done.withRoutes (s.routes.set i { s.routes.get i with hit := false })))))

/-- WRITE_FIELDS refuses in the order of R185, with no field changed: the table code and the count (as a request's bytes carry them too, with as many
values as R183 asks for; the command that carries such bytes is BAD_REQUEST: MODEL'S CHOICE, log entries 2 and 23), the index, LOCKED and
CONDITION_PRESENT, then a run that reaches a read-only field or beyond the last. -/
def Obligations.WriteFieldsRefusesInOrder : Prop :=
  (∀ (s : State) (src : Addr) (tag table index first count : Byte) (values : List Byte), s.Serves src →
    (9 < table.toNat ∨ count = 0 ∨ 8 < count.toNat) → (1 ≤ count.toNat → count.toNat ≤ 8 → 4 * count.toNat ≤ values.length) →
    exec (.badRequest src tag 2 (table :: index :: first :: count :: values)) s = .next (s.replied src 2 tag .badArgument [])) ∧
  ∀ (s : State) (t : TableName) (src : Addr) (tag index first : Byte) (vs : List Word32), s.Serves src →
    let refused := fun (r : Result) => exec (t.writing src tag index first vs) s = .next (s.replied src 2 tag r [])
    (vs.length = 0 ∨ 8 < vs.length → refused .badArgument) ∧
    (1 ≤ vs.length → vs.length ≤ 8 →
      (t.records ≤ index.toNat → refused .badIndex) ∧
      (∀ i : RouteIdx, t = .route → index.toNat = i.val → (s.routes.get i).locked = true → refused .locked) ∧
      (∀ w : WatchIdx, t = .watch → index.toNat = w.val → (s.watches.get w).state.isFired = true → refused .conditionPresent) ∧
      (index.toNat < t.records → (∀ i : RouteIdx, t = .route → index.toNat = i.val → (s.routes.get i).locked = false) →
        (∀ w : WatchIdx, t = .watch → index.toNat = w.val → (s.watches.get w).state.isFired = false) →
        t.writable < first.toNat + vs.length → refused .badArgument))

/-- Every configuration field of the ten tables takes the values its field table gives it (R185): a numeric field every value, brought to the nearer
end of its range when it lies outside and then marked as clamped, an enumeration the listed values, refusing every other. It reads back as it was
written, or as the nearest value it takes; the other fields keep their values, and an id from the first read-only field on is refused (R31, R48, R55,
R59, R80, R103, R113, R127, R140, R157). -/
def Obligations.WrittenFieldsReadBack : Prop :=
  ∀ accepts : OutputIdx → Bool,
    let fields := fun (t : TableName) => t.fieldClasses accepts
    (∀ t, (fields t).length = t.writable) ∧
    WritesTake RouteConfig.write (fun c => (Route.fresh c).read) (fields .route) ∧
    WritesTake PointConfig.write (fun c => (Point.fresh c).read) (fields .point) ∧
    WritesTake OutputConfig.write (fun c => (Output.fresh c).read) (fields .output) ∧
    WritesTake LaneConfig.write (fun c => (Lane.fresh c).read) (fields .lane) ∧
    WritesTake (ZoneConfig.write accepts) (fun c => (Zone.initial c).read) (fields .zone) ∧
    WritesTake BlowerConfig.write (fun c => (Blower.fresh c).read) (fields .blower) ∧
    WritesTake ReturnConfig.write (fun c => (ReturnLine.fresh c).read) (fields .returnLine) ∧
    WritesTake WatchConfig.write (fun c => (Watch.fresh c).read) (fields .watch) ∧
    WritesTake PlantConfig.write (fun c => (Plant.fresh c).read) (fields .plant) ∧
    WritesTake AllocatorConfig.write (fun c => (Allocator.fresh c).read) (fields .allocator) ∧
    WritesReadBack RouteConfig.write (fun c => (Route.fresh c).read) 9 ∧
    WritesReadBack PointConfig.write (fun c => (Point.fresh c).read) 5 ∧
    WritesReadBack OutputConfig.write (fun c => (Output.fresh c).read) 9 ∧
    WritesReadBack LaneConfig.write (fun c => (Lane.fresh c).read) 21 ∧
    WritesReadBack (ZoneConfig.write accepts) (fun c => (Zone.initial c).read) 16 ∧
    WritesReadBack BlowerConfig.write (fun c => (Blower.fresh c).read) 10 ∧
    WritesReadBack ReturnConfig.write (fun c => (ReturnLine.fresh c).read) 11 ∧
    WritesReadBack WatchConfig.write (fun c => (Watch.fresh c).read) 14 ∧
    WritesReadBack PlantConfig.write (fun c => (Plant.fresh c).read) 10 ∧
    WritesReadBack AllocatorConfig.write (fun c => (Allocator.fresh c).read) 5

/-- Writes to ROUTE, RETURN, PLANT and ALLOCATOR, and LOCK_ROUTE (R31 to R33, R59, R103, R127): a value refused refuses the whole write; else all
fields take effect at once, with the table's cross-field checks, hit flag, lock, storm and timers kept, and a return line's target and held
target brought within the new bounds. So does a write to OUTPUT that leaves destination, channel, kind, owner and resend interval as they are and the
last value within the limits: it changes the configuration alone (R140, R144). -/
def Obligations.WritesTakeEffectAtOnce : Prop :=
  ∀ (s : State) (src : Addr) (tag index first : Byte) (vs : List Word32), s.Serves src → 1 ≤ vs.length → vs.length ≤ 8 →
    let replied := fun (r : Result) => s.replied src 2 tag r []
    (∀ i : RouteIdx, index.toNat = i.val → (s.routes.get i).locked = false →
      match writeRun RouteConfig.write first.toNat (carried vs) (s.routes.get i).config with
      | none => exec (.writeFieldsRoute src tag index first vs) s = .next (replied .badArgument)
      | some (c, b) =>
        let base := (c.base >>> c.exponent) <<< c.exponent
        exec (.writeFieldsRoute src tag index first vs) s = .next
          ((replied (writeResult (b || base != c.base))).withRoutes
            (s.routes.set i { s.routes.get i with config := { c with base := base } }))) ∧
    (∀ r : LineIdx, index.toNat = r.val →
      match writeRun ReturnConfig.write first.toNat (carried vs) (s.returns.get r).config with
      | none => exec (.writeFieldsReturn src tag index first vs) s = .next (replied .badArgument)
      | some (c, b) =>
        let top := max c.maxFlow c.minFlow
        let l := s.returns.get r
        let within := clampNat c.minFlow top
        exec (.writeFieldsReturn src tag index first vs) s = .next
          ((replied (writeResult (b || top != c.maxFlow))).withReturns (s.returns.set r
            { l with
              config := { c with maxFlow := top }
              state := (match l.state with
                | .heldStorm h => .heldStorm (within h)
                | other => other)
              target := if l.state = .stopped then l.target else within l.target }))) ∧
    (index = 0 →
      (match writeRun PlantConfig.write first.toNat (carried vs) s.plant.config with
      | none => exec (.writeFieldsPlant src tag index first vs) s = .next (replied .badArgument)
      | some (c, b) =>
        let level := min c.exitLevel c.enterLevel
        exec (.writeFieldsPlant src tag index first vs) s = .next
          ((replied (writeResult (b || level != c.exitLevel))).withPlant
            { s.plant with config := { c with exitLevel := level } })) ∧
      (match writeRun AllocatorConfig.write first.toNat (carried vs) s.allocator.config with
      | none => exec (.writeFieldsAllocator src tag index first vs) s = .next (replied .badArgument)
      | some (c, b) =>
        exec (.writeFieldsAllocator src tag index first vs) s = .next
          ((replied (writeResult b)).withAllocator { s.allocator with config := c }))) ∧
    (∀ o : OutputIdx, index.toNat = o.val →
      match writeRun OutputConfig.write first.toNat (carried vs) (s.outputs.get o).config with
      | none => exec (.writeFieldsOutput src tag index first vs) s = .next (replied .badArgument)
      | some (c, b) =>
        let old := s.outputs.get o
        let high := max c.low c.high
        let trip := clampInt c.low high c.trip
        let suits := ∀ z : ZoneIdx, ((s.zones.get z).config.valveOutput = some o ∨
          ∃ p, (s.lanes.get (laneOf z)).pending = some p ∧ (p.zones.get (placeOf z)).valveOutput = some o) →
          c.kind = .zoneValve ∧ c.owner = z
        suits → c.destination = old.config.destination → c.channel = old.config.channel → c.kind = old.config.kind →
          c.owner = old.config.owner → c.resend = old.config.resend → (∀ l, old.last = some l → c.low ≤ l ∧ l ≤ high) →
          exec (.writeFieldsOutput src tag index first vs) s = .next
            ((replied (writeResult (b || high != c.high || trip != c.trip))).withOutputs
              (s.outputs.set o { old with config := { c with high := high, trip := trip } }))) ∧
    (∀ entry : Byte,
      (63 < entry.toNat → exec (.lockRoute src tag entry) s = .next (s.replied src 6 tag .badIndex [])) ∧
      (∀ i : RouteIdx, entry.toNat = i.val → exec (.lockRoute src tag entry) s = .next
        ((s.replied src 6 tag .ok []).withRoutes (s.routes.set i { s.routes.get i with locked := true }))))

/-- A write to POINT (R48, R44): the range low is raised to 0 for a quantity that cannot be negative and the high to the low, the point returns to
NONE, and that is an update event when its quality was another, which the point's dependants take before the reply is offered (R45, R182; log entry
14). Without dependants, or from NONE, the reply is all else that happens. -/
def Obligations.WritePointStartsItAnew : Prop :=
  ∀ (s : State) (src : Addr) (tag index first : Byte) (vs : List Word32) (p : PointIdx), s.Serves src → 1 ≤ vs.length →
    vs.length ≤ 8 → index.toNat = p.val →
    match writeRun PointConfig.write first.toNat (carried vs) (s.points.get p).config with
    | none => exec (.writeFieldsPoint src tag index first vs) s = .next (s.replied src 2 tag .badArgument [])
    | some (c, b) =>
      let low := if c.kind = .equipment ∨ c.kind = .generic then c.low else max 0 c.low
      let high := max low c.high
      let pt : Point := { config := { c with low := low, high := high }, state := .empty, age := none, lastSeq := none }
      let result := writeResult (b || low != c.low || high != c.high)
      (∃ t, exec (.writeFieldsPoint src tag index first vs) s = .next t ∧ t.points = s.points.set p pt ∧ t.routes = s.routes ∧
        (s.hearing.withPoints (s.points.set p pt)).UpdateKeeps t) ∧
      ((s.points.get p).state.quality ≠ .none →
        exec (.writeFieldsPoint src tag index first vs) s = .next (State.reply src 2 tag
          ((s.hearing.withPoints (s.points.set p pt)).updateEvent p, some (result, [])))) ∧
      ((s.points.get p).state.quality = .none ∨ s.NoDependants p →
        exec (.writeFieldsPoint src tag index first vs) s = .next
          ((s.replied src 2 tag result []).withPoints (s.points.set p pt)))

/-- A write to OUTPUT (R140, R144): refused when a zone that names the output would be left with a wrong kind or owner; else high and trip are
brought into order and the effects of R144 take place. A new destination, channel or kind makes another actuator: last commanded absent,
unsent clear, timer stopped, AUTO, the waiting COMMAND detached. Limits that leave the last value outside send the clamped one: the queue is offered a
COMMAND with it, and its answer clears or sets unsent (R143). A return to AUTO has the effects of R141. Values equal to those in force change
nothing. -/
def Obligations.WriteOutputActsOnItsState : Prop :=
  (∀ (s : State) (src : Addr) (tag index first : Byte) (vs : List Word32) (o : OutputIdx), s.Serves src → 1 ≤ vs.length →
    vs.length ≤ 8 → index.toNat = o.val →
    match writeRun OutputConfig.write first.toNat (carried vs) (s.outputs.get o).config with
    | none => exec (.writeFieldsOutput src tag index first vs) s = .next (s.replied src 2 tag .badArgument [])
    | some (c, b) =>
      let high := max c.low c.high
      let trip := clampInt c.low high c.trip
      let new := { c with high := high, trip := trip }
      let names := fun (z : ZoneIdx) => (s.zones.get z).config.valveOutput = some o ∨
        ∃ p, (s.lanes.get (laneOf z)).pending = some p ∧ (p.zones.get (placeOf z)).valveOutput = some o
      let suits := ∀ z, names z → new.kind = .zoneValve ∧ new.owner = z
      (¬suits → exec (.writeFieldsOutput src tag index first vs) s = .next (s.replied src 2 tag .badArgument [])) ∧
      (suits → exec (.writeFieldsOutput src tag index first vs) s = .next
        (State.reply src 2 tag
          (s.hearing.writeOutput o new, some (writeResult (b || high != c.high || trip != c.trip), []))))) ∧
  (∀ (s : State) (o : OutputIdx) (new : OutputConfig), (s.outputs.get o).Sound →
    let old := s.outputs.get o
    let moved := old.config.destination ≠ new.destination ∨ old.config.channel ≠ new.channel ∨ old.config.kind ≠ new.kind
    let tripped := new.kind = .zoneValve ∧ (s.lanes.get (laneOf new.owner)).state.regime = .tripped
    let kept := ∀ l, old.last = some l → new.low ≤ l ∧ l ≤ new.high
    let t := s.writeOutput o new
    let out := t.outputs.get o
    let released := old.state = .supervised ∧ (moved ∨ (old.config.owner ≠ new.owner ∧ tripped))
    let reported := (s.withOutputs (s.outputs.set o { old with config := new })).changeOutput o .auto
    out.config = new ∧
    out.last = (if moved then none else old.last.map (clampInt new.low new.high)) ∧
    out.state = (if moved ∨ (old.config.owner ≠ new.owner ∧ tripped) then .auto else old.state) ∧
    (moved ∨ kept → out.unsent = (if moved then false else old.unsent) ∧
      (∀ q ∈ t.ring.transmit, q.body.owner = some o → ¬moved ∧ q ∈ s.ring.transmit) ∧
      t.ring.transmit.map (·.body.payload) = s.ring.transmit.map (·.body.payload) ∧ t.ring.line = s.ring.line ∧ t.raised = s.raised) ∧
    (moved → out.resendTimer = none ∧ t.ring = { s.ring with transmit := s.ring.transmit.map fun q => match q.body with
      | .command owner ch v => { q with body := .command (if owner = some o then none else owner) ch v }
      | _ => q }) ∧
    (¬moved → kept → t.ring = s.ring) ∧
    (¬moved → ∀ l, old.last = some l → ¬(new.low ≤ l ∧ l ≤ new.high) →
      let answer := s.sendCommand o (clampInt new.low new.high l)
      t.ring = answer.1.ring ∧ t.raised = answer.1.raised ∧ out.unsent = !answer.2) ∧
    (released → t.zones = reported.zones ∧ t.history = reported.history) ∧
    (¬released → t.zones = s.zones ∧ t.history = s.history) ∧
    (¬moved → kept → out.resendTimer =
      if old.last.isSome ∧ new.resend ≠ 0 then some (old.resendTimer.getD (new.resend * 10)) else none) ∧
    (¬moved → ¬kept → out.resendTimer = if new.resend = 0 then none else some (new.resend * 10)) ∧
    (∀ p, p ≠ o → t.outputs.get p = s.outputs.get p) ∧
    (new = old.config → t = s) ∧
    t.lanes = s.lanes ∧ t.allocator = s.allocator ∧ t.blowers = s.blowers ∧ t.watches = s.watches ∧ t.freeIndex = s.freeIndex ∧
    s.SameOutside t)

/-- Writes to LANE and ZONE (R55, R80): the values join the lane's pending set, on top of what is pending already and of the values in force, with
the trim bounds and the air bounds as they will stand; nothing in force changes. A zone's valve output may name an output of kind ZONE_VALVE
that the zone owns alone. -/
def Obligations.LaneAndZoneWritesAreStaged : Prop :=
  ∀ (s : State) (src : Addr) (tag index first : Byte) (vs : List Word32), s.Serves src → 1 ≤ vs.length → vs.length ≤ 8 →
    let standing := fun (k : LaneIdx) => (s.lanes.get k).pending.getD
      { lane := (s.lanes.get k).config, zones := Table.build fun i => (s.zones.get (zoneAt k i)).config }
    let staged := fun (k : LaneIdx) (p : Pending) (clamped : Bool) =>
      (s.replied src 2 tag (writeResult clamped) []).withLanes (s.lanes.set k { s.lanes.get k with pending := some p })
    (∀ k : LaneIdx, index.toNat = k.val →
      match writeRun LaneConfig.write first.toNat (carried vs) (standing k).lane with
      | none => exec (.writeFieldsLane src tag index first vs) s = .next (s.replied src 2 tag .badArgument [])
      | some (c, b) =>
        let high := max c.trimLow c.trimHigh
        exec (.writeFieldsLane src tag index first vs) s = .next
          (staged k { standing k with lane := { c with trimHigh := high } } (b || high != c.trimHigh))) ∧
    (∀ z : ZoneIdx, index.toNat = z.val →
      let k := laneOf z
      let accepts := fun o => decide ((s.outputs.get o).config.kind = .zoneValve ∧ (s.outputs.get o).config.owner = z)
      match writeRun (ZoneConfig.write accepts) first.toNat (carried vs) ((standing k).zones.get (placeOf z)) with
      | none => exec (.writeFieldsZone src tag index first vs) s = .next (s.replied src 2 tag .badArgument [])
      | some (c, b) =>
        let top := max c.minAir c.maxAir
        exec (.writeFieldsZone src tag index first vs) s = .next
          (staged k { standing k with zones := (standing k).zones.set (placeOf z) { c with maxAir := top } } (b || top != c.maxAir)))

/-- Writes to BLOWER and WATCH (R113, R119, R157): refused when two blowers in service would share a rank, or a watch's test or stage link would
not suit; else the checks bring cmax, start timeout, high and persistence into order. A FAULTED blower that reads STOPPED becomes STOPPED (by
the reading as the write arrives: log entry 22) and a RUNNING one is stop-pending exactly while not in service; a watch is set anew, its
occurrence flag kept. -/
def Obligations.BlowerAndWatchWrites : Prop :=
  ∀ (s : State) (src : Addr) (tag index first : Byte) (vs : List Word32), s.Serves src → 1 ≤ vs.length → vs.length ≤ 8 →
    let replied := fun (r : Result) => s.replied src 2 tag r []
    (∀ b : BlowerIdx, index.toNat = b.val →
      match writeRun BlowerConfig.write first.toNat (carried vs) (s.blowers.get b).config with
      | none => exec (.writeFieldsBlower src tag index first vs) s = .next (replied .badArgument)
      | some (c, f) =>
        let cmax := max c.cmin c.cmax
        let timeout := max c.warmUp c.timeout
        let new := { c with cmax := cmax, timeout := timeout }
        let old := s.blowers.get b
        let clash := new.inService = true ∧
          ∃ j, j ≠ b ∧ (s.blowers.get j).config.inService = true ∧ (s.blowers.get j).config.rank = new.rank
        let clears := old.state = .faulted ∧ s.driveReading old.config.statusPoint = some .stopped
        let done := replied (writeResult (f || cmax != c.cmax || timeout != c.timeout))
        (clash → exec (.writeFieldsBlower src tag index first vs) s = .next (replied .badArgument)) ∧
        (¬clash → clears → exec (.writeFieldsBlower src tag index first vs) s = .next
          ((done.withBlowers (s.blowers.set b { config := new, state := .stopped })).capture (.blower b .faulted .stopped))) ∧
        (¬clash → ¬clears → exec (.writeFieldsBlower src tag index first vs) s = .next
          (done.withBlowers (s.blowers.set b
            { config := new, state := if old.state.isRunning then .running (!new.inService) else old.state })))) ∧
    (∀ w : WatchIdx, index.toNat = w.val → (s.watches.get w).state.isFired = false →
      match writeRun WatchConfig.write first.toNat (carried vs) (s.watches.get w).config with
      | none => exec (.writeFieldsWatch src tag index first vs) s = .next (replied .badArgument)
      | some (c, f) =>
        let high := if c.test = .outside then max c.low c.high else c.high
        let level := match c.subject with
          | .level _ => true
          | _ => false
        let n := if level then 1 else c.persistence
        let new := { c with high := high, persistence := n }
        let suits := ((∃ p, new.subject = .point p) ↔ new.test ≠ .active) ∧ ∀ j, new.stage = some j → j < w
        let stageFired := ∀ j, new.stage = some j → (s.watches.get j).state.isFired = true
        let state : WatchState := if new.enable = false then .off else if stageFired then .armed else .waiting
        (¬suits → exec (.writeFieldsWatch src tag index first vs) s = .next (replied .badArgument)) ∧
        (suits → exec (.writeFieldsWatch src tag index first vs) s = .next
          ((replied (writeResult (f || high != c.high || n != c.persistence))).withWatches (s.watches.set w
            { s.watches.get w with config := new, state := state, count := n - 1, truth := false }))))

/-- READ_STATUS is answered OK with 21 data bytes in the layout of section 11.4, and changes no state (R186). A running countdown counts from 1
to 2550 tenths (R148); what a due one reads as is the model's choice (log entry 17) and no part of this statement. -/
def Obligations.ReadStatusReportsTheState : Prop :=
  ∀ (s : State) (src : Addr) (tag : Byte), s.Serves src → s.supervision.countdown ≠ some 0 →
    let on := fun (b : Bool) (n : Nat) => if b then n else 0
    let seconds := match s.supervision.countdown with
      | none => 0
      | some t => (t + 9) / 10
    let data : List Byte :=
      [0xA8] ++ bytes16 s.management.generation ++ bytes32 s.timeCount ++
        (indices 8).map (fun k => match (s.lanes.get k).state with
          | .offline => (0 : Byte)
          | .normal => 1
          | .economy _ => 2
          | .storm => 3
          | .tripped _ => 4) ++
        [BitVec.ofNat 8 (on s.plant.storm 1), BitVec.ofNat 8 seconds,
         BitVec.ofNat 8 (on s.allocator.airShort 1 + on s.allocator.floorShort 2 + on s.plant.storm 4 + on s.supervision.lost 8 +
           on s.ring.silent 16),
         BitVec.ofNat 8 (on s.history.frozen 1), BitVec.ofNat 8 s.history.entries.length,
         BitVec.ofNat 8 (on s.management.commit.isSome 1)]
    exec (.readStatus src tag) s = .next (s.replied src 3 tag .ok data) ∧ data.length = 21

/-- COMMIT_STORE and its completion (R187, R188): a second commit is refused BUSY; else a snapshot of every table is kept with source and tag, and no
reply is offered. A success writes it to the image that is not the current one with the generation one up, and replies OK with it; a failure
leaves that image invalid, captures a STORE entry of cause 1, replies STORE_FAULT and hands STORE_FAULT to the watch unit. With no commit in
flight there is no completion (MODEL'S CHOICE, log entry 20). -/
def Obligations.CommitKeepsAndWritesASnapshot : Prop :=
  (∀ (s : State) (src : Addr) (tag : Byte), s.Serves src →
    (s.management.commit.isSome = true → exec (.commitStore src tag) s = .next (s.replied src 4 tag .busy [])) ∧
    (s.management.commit = none → exec (.commitStore src tag) s = .next (s.hearing.withManagement
      { s.management with
        commit := some { settings := s.settings, target := if s.management.current = some 0 then 1 else 0
                         source := src, tag := tag } }))) ∧
  (∀ s : State,
    (s.management.commit = none → s.raised = [] → ∀ ok, exec (.commitCompletion ok) s = .next s) ∧
    (∀ c, s.management.commit = some c →
      let g := s.management.generation + 1
      let success : Management :=
        { commit := none, generation := g, current := some c.target
          images := s.management.images.set c.target (some { generation := g, settings := c.settings }) }
      let failure := { s.management with commit := none, images := s.management.images.set c.target none }
      let answer := fun (u : State) (r : Result) (data : List Byte) =>
        (u.enqueue { dst := c.source, body := .reply 4 c.tag r data }).1
      exec (.commitCompletion true) s = .next (answer (s.withManagement success) .ok (bytes16 g)).drain ∧
      exec (.commitCompletion false) s = .next
        ((answer ((s.withManagement failure).capture (.store 1 s.management.generation)) .storeFault []).raise
          (.event .storeFault)).drain))

/-- RESTART (R189, R17, R34, R51, R78, R102, R125, R138, R153, R174): refused BUSY while a commit is in flight; else every block takes its
warm-restart state, the RESTART entry is captured, and the OK reply is the first frame to join the emptied transmit queue. -/
def Obligations.RestartTakesTheWarmState : Prop :=
  ∀ (s : State) (src : Addr) (tag : Byte), s.Serves src →
    (s.management.commit.isSome = true → exec (.restart src tag) s = .next (s.replied src 5 tag .busy [])) ∧
    (s.management.commit = none →
      let lane := fun (l : Lane) =>
        let state : LaneState := match l.state with
          | .tripped w => .tripped w
          | _ => if l.config.inService then .normal else .offline
        { l with state := state, dwell := 0, pending := none
                 timer := if state = .offline then none else some (l.config.period * 10) }
      let ring := { s.ring.restartSilence s.plant.config.silenceTime with forward := [], transmit := [], runCount := 0 }
      exec (.restart src tag) s = .next
        { s with
          ring := ring.join s.ownAddress { dst := src, body := .reply 5 tag .ok [] }
          routes := s.routes.map fun r => { r with hit := false }
          points := s.points.map fun p => { config := p.config, state := .empty, age := none, lastSeq := none }
          plant := { s.plant with storm := false, exitHold := none }
          lanes := s.lanes.map lane
          zones := Table.build fun z =>
            let c := (s.zones.get z).config
            let l := lane (s.lanes.get (laneOf z))
            { config := c, mode := .fixedAir, setpoint := c.baseSetpoint, integral := 0, grant := none, cut := false
              reseed := false, offDemand := false
              demand :=
                if l.state = .offline ∨ l.config.zoneCount ≤ (placeOf z).val then 0
                else if l.state.regime = .tripped then c.tripAir
                else clampNat c.minAir c.maxAir c.fixedAir }
          allocator := { s.allocator with upCount := 0, downCount := 0, airShort := false, floorShort := false
                                          timer := some (s.allocator.config.period * 10) }
          returns := s.returns.map fun l =>
            { config := l.config, state := .pacing, target := l.config.minFlow, timer := some (l.config.period * 10) }
          outputs := Table.build fun o =>
            let out := s.outputs.get o
            { out with state := .auto, unsent := s.ring.transmit.any fun q => q.body.owner == some o
                       resendTimer :=
                         if out.last.isSome ∧ out.config.resend ≠ 0 then some (out.config.resend * 10) else none }
          supervision := { countdown := none, lost := false }
          watches := s.watches.map fun w =>
            if w.state.isFired then w
            else
              { w with
                state :=
                  if w.config.enable = false then .off
                  else if (∀ j, w.config.stage = some j → (s.watches.get j).state.isFired = true) then .armed else .waiting
                count := w.config.persistence - 1, truth := false }
          history := s.history.capture s.timeCount .restart })

/-- SET_REGIME and RESTORE_LANE (R72 to R75): the checks in their order and the table of R73. A lane leaving OFFLINE takes its pending set, its zones'
initial state and a full period (its zones beyond the zone count, which stay idle, stay as they were: MODEL'S CHOICE, log entry 28); one entering
OFFLINE captures its REGIME entry, stops its timer, its zones ask for nothing, its used AUTO valve outputs are given their low limit in index order,
and then the OK reply is offered; a restored lane re-seeds its zones. The first cycle's start changes no demand (DEDUCED, log entry 15), and a zone of
a lane that enters OFFLINE has its off demand cleared (DEDUCED, log entry 16). -/
def Obligations.RegimeRequestsFollowTheTable : Prop :=
  ∀ (s : State) (src : Addr) (tag lane regime : Byte), s.Serves src →
    let set := fun (r : Result) => exec (.setRegime src tag lane regime) s = .next (s.replied src 9 tag r [])
    let restore := fun (r : Result) => exec (.restoreLane src tag lane) s = .next (s.replied src 10 tag r [])
    (7 < lane.toNat → set .badIndex ∧ restore .badIndex) ∧
    (∀ k : LaneIdx, lane.toNat = k.val →
      let l := s.lanes.get k
      let now := l.state.regime
      let follow : LaneState := if s.plant.storm then .storm else .normal
      (2 < regime.toNat → set .badArgument) ∧
      (regime.toNat ≤ 2 → now = .tripped → set .wrongRegime) ∧
      ((regime = 0 ∧ now = .offline) ∨ (regime = 1 ∧ now = .normal) ∨ (regime = 2 ∧ now = .economy) → set .ok) ∧
      (regime = 1 ∨ regime = 2 → now = .storm → set .wrongRegime) ∧
      (regime = 2 → now = .normal ∨ now = .offline → s.plant.storm = true → set .wrongRegime) ∧
      (regime = 2 → now = .normal → s.plant.storm = false → exec (.setRegime src tag lane regime) s = .next
        (((s.replied src 9 tag .ok []).withLanes
          (s.lanes.set k { l with state := .economy (s.newCycle l.config), dwell := 0 })).capture (.regime k .normal .economy))) ∧
      (regime = 1 → now = .economy → exec (.setRegime src tag lane regime) s = .next
        (State.reply src 9 tag (s.hearing.wakeLane k, some (.ok, [])))) ∧
      (now = .offline → (regime = 1 ∨ (regime = 2 ∧ s.plant.storm = false)) →
        let u := s.applyPending k
        let c := (u.lanes.get k).config
        let state := if regime = 1 then follow else .economy (s.newCycle c)
        exec (.setRegime src tag lane regime) s = .next
          ((((s.replied src 9 tag .ok []).withLanes (s.lanes.set k
            { config := c, state := state, dwell := 0, timer := some (c.period * 10), pending := none })).withZones
            (Table.build fun z =>
              if laneOf z = k ∧ (placeOf z).val < c.zoneCount then Zone.initial (u.zones.get z).config
              else u.zones.get z)).capture (.regime k .offline state.regime))) ∧
      (regime = 0 → now = .normal ∨ now = .economy ∨ now = .storm → s.Calm →
        ∃ t, exec (.setRegime src tag lane regime) s = .next t ∧
          t.lanes = s.lanes.set k { l with state := .offline, dwell := 0, timer := none } ∧
          t.history = s.history.capture s.timeCount (.regime k now .offline) ∧
          (∀ z, t.zones.get z =
            if laneOf z = k then { s.zones.get z with demand := 0, offDemand := false } else s.zones.get z) ∧
          (∀ o, let out := s.outputs.get o
            let gives := out.config.kind = .zoneValve ∧ laneOf out.config.owner = k ∧ out.config.destination ≠ 0 ∧
              out.state = .auto
            (¬gives → t.outputs.get o = out) ∧
            (gives → (t.outputs.get o).last = some (clampInt out.config.low out.config.high out.config.low) ∧
              (t.outputs.get o).config = out.config ∧ (t.outputs.get o).state = .auto)) ∧
          t.plant = s.plant ∧ t.points = s.points ∧ t.returns = s.returns ∧ t.management = s.management) ∧
      (regime = 0 → now = .normal ∨ now = .economy ∨ now = .storm →
        let entered := ((s.hearing.withLanes (s.lanes.set k { l with state := .offline, dwell := 0, timer := none })).withZones
          (Table.build fun z =>
            if laneOf z = k then { s.zones.get z with demand := 0, offDemand := false } else s.zones.get z)).capture
          (.regime k now .offline)
        let valves := (indices 64).filter fun o =>
          decide ((s.outputs.get o).config.kind = .zoneValve ∧ laneOf (s.outputs.get o).config.owner = k)
        exec (.setRegime src tag lane regime) s = .next (State.reply src 9 tag
          (valves.foldl (fun u o => u.forcedOffer o (s.outputs.get o).config.low) entered, some (.ok, [])))) ∧
      (now ≠ .tripped → restore .notTripped) ∧
      (∀ w, l.state = .tripped w →
        ((s.watches.get w).state.isFired = true → restore .conditionPresent) ∧
        ((s.watches.get w).state.isFired = false → exec (.restoreLane src tag lane) s = .next
          (((((s.replied src 10 tag .ok []).capture (.restore k w)).withLanes
            (s.lanes.set k { l with state := follow, dwell := 0 })).capture (.regime k .tripped follow.regime)).withZones
            (Table.build fun z => let zn := s.zones.get z
              if laneOf z = k ∧ (placeOf z).val < l.config.zoneCount then { zn with reseed := true } else zn)))))

/-- The history (R175, R178, R179): a capture appends a numbered entry with the time count, dropping the oldest of 64, and is lost while FROZEN;
READ_HISTORY removes and returns one to three of the oldest entries, whether or not its reply finds room. Each entry stands in 13 bytes: number, time
count, kind, subject, old state, new state and value, filled as the table of R176 gives, with 0xFF for an absent byte and −8388608 for an absent
value (section 10.5). -/
def Obligations.HistoryIsCapturedAndRead : Prop :=
  (∀ (h : History) (time : BitVec 32) (e : HistoryEvent),
    (h.frozen = true → h.capture time e = h) ∧
    (h.frozen = false → (h.capture time e).next = h.next + 1 ∧ (h.capture time e).frozen = false ∧
      (h.entries.length < 64 →
        (h.capture time e).entries = h.entries ++ [{ number := h.next, time := time, event := e }]) ∧
      (∀ old rest, h.entries = old :: rest → h.entries.length = 64 →
        (h.capture time e).entries = rest ++ [{ number := h.next, time := time, event := e }]))) ∧
  (∀ (s : State) (src : Addr) (tag count : Byte),
    let n := min 3 (max 1 count.toNat)
    let taken := s.history.entries.take n
    let rest := { s.history with entries := s.history.entries.drop n }
    let result : Result := if 1 ≤ count.toNat ∧ count.toNat ≤ 3 then .ok else .okClamped
    (s.Serves src → exec (.readHistory src tag count) s = .next
      ((s.replied src 14 tag result (BitVec.ofNat 8 taken.length :: taken.flatMap Entry.bytes)).withHistory rest)) ∧
    (s.Calm → s.power = .running → src ≠ s.ownAddress → s.isSupervisor src = true → s.ring.silent = false →
      16 ≤ s.ring.transmit.length → exec (.readHistory src tag count) s = .next (s.hearing.withHistory rest))) ∧
  (∀ (number : BitVec 16) (time : BitVec 32) (e : HistoryEvent),
    let regime := fun (r : Regime) => match r with
      | .offline => 0
      | .normal => 1
      | .economy => 2
      | .storm => 3
      | .tripped => 4
    let mode := fun (m : Mode) => match m with
      | .doControl => 0
      | .fixedAir => 1
      | .held => 2
    let blower := fun (b : BlowerStatus) => match b with
      | .unknown => 0
      | .stopped => 1
      | .starting => 2
      | .running => 3
      | .stopping => 4
      | .faulted => 5
      | .handControl => 6
    let output := fun (o : OutputState) => match o with
      | .auto => 0
      | .supervised => 1
    let level := fun (b : Bool) => if b then 1 else 0
    let condition := fun (c : Level) => match c with
      | .airShort => 128
      | .floorShort => 129
      | .stormActive => 130
      | .supervisionLost => 131
      | .ringSilent => 132
    let row : List Nat × Int := match e with
      | .regime k o n => ([1, k.val, regime o, regime n], -8388608)
      | .zoneMode z o n => ([2, z.val, mode o, mode n], -8388608)
      | .blower b o n => ([3, b.val, blower o, blower n], -8388608)
      | .watchFired w v => ([4, w.val, 2, 3], v)
      | .trip k cause => ([5, k.val, 0xFF, 0xFF], cause.val)
      | .restore k cause => ([6, k.val, 0xFF, 0xFF], cause.val)
      | .override o x n => ([7, o.val, output x, output n], -8388608)
      | .supervision o n => ([8, 131, level o, level n], -8388608)
      | .condition c o n => ([9, condition c, level o, level n], -8388608)
      | .restart => ([10, 0xFF, 0xFF, 0xFF], -8388608)
      | .store cause generation => ([11, 0xFF, 0xFF, cause], generation.toNat)
    Entry.bytes { number := number, time := time, event := e } =
      bytes16 number ++ bytes32 time ++ row.1.map (BitVec.ofNat 8) ++ bytes24 row.2)

/-- RESUME_CAPTURE sets the freeze state to CAPTURING and is answered OK; no entry is captured for it and the capture number is not moved
(R178). -/
def Obligations.ResumeCaptureEndsTheFreeze : Prop :=
  ∀ (s : State) (src : Addr) (tag : Byte), s.Serves src →
    exec (.resumeCapture src tag) s = .next ((s.replied src 15 tag .ok []).withHistory { s.history with frozen := false }) ∧
    (s.history.frozen = false → exec (.resumeCapture src tag) s = .next (s.replied src 15 tag .ok []))

/-! ### Invariants -/

/-- Every step keeps the bounds of the ring interface and the numbering of the history (R10, R11, R13, R175). -/
def Obligations.StepsKeepRingAndHistorySound : Prop :=
  ∀ s t : State, step s = .next t → (s.RingSound → t.RingSound) ∧ (s.HistorySound → t.HistorySound)

/-- Every step keeps every configuration (in force, pending, in a snapshot, in an image) within the checks of its table, and every commanded, held
and asked-for value within its bounds (R36, R48, R55, R59, R80, R81, R103, R113, R126, R127, R139, R140, R157). -/
def Obligations.StepsKeepSettingsAndValuesSound : Prop :=
  ∀ s t : State, step s = .next t → (s.SettingsSound → t.SettingsSound) ∧ (s.ValuesSound → t.ValuesSound)

/-- Every step keeps regimes, storm and dwell in agreement (R53, R60 to R64), and no output SUPERVISED without a lease or on a TRIPPED lane
(R141). -/
def Obligations.StepsKeepStormAndOverridesSound : Prop :=
  ∀ s t : State, step s = .next t → (s.StormSound → t.StormSound) ∧ (s.OverridesSound → t.OverridesSound)

/-- Every step keeps at most one blower in transition (R120), stop-pending as the in-service field says (R119), and every watch in agreement with
its enable, its stage link and its persistence, with no arrival left waiting (R156 to R164). -/
def Obligations.StepsKeepBlowersAndWatchesSound : Prop :=
  ∀ s t : State, step s = .next t → (s.BlowersSound → t.BlowersSound) ∧ (s.WatchesSound → t.WatchesSound)

/-- Every step keeps the timers running that must run (R15, R57, R104, R128, R188). -/
def Obligations.StepsKeepTimersSound : Prop :=
  ∀ s t : State, step s = .next t → s.TimersSound → t.TimersSound
end

