-- ==== Sys2Proof/Laws/State.lean ====
section
/-! SUPPORT. One lemma per field per update of the state: no later proof unfolds a record update. -/
namespace Sys2Proof.Machine.State

@[simp] theorem withPower_power (s : State) (x : Power) : (s.withPower x).power = x := rfl
@[simp] theorem withPower_ownAddress (s : State) (x : Power) : (s.withPower x).ownAddress = s.ownAddress := rfl
@[simp] theorem withPower_timeCount (s : State) (x : Power) : (s.withPower x).timeCount = s.timeCount := rfl
@[simp] theorem withPower_ring (s : State) (x : Power) : (s.withPower x).ring = s.ring := rfl
@[simp] theorem withPower_routes (s : State) (x : Power) : (s.withPower x).routes = s.routes := rfl
@[simp] theorem withPower_points (s : State) (x : Power) : (s.withPower x).points = s.points := rfl
@[simp] theorem withPower_plant (s : State) (x : Power) : (s.withPower x).plant = s.plant := rfl
@[simp] theorem withPower_lanes (s : State) (x : Power) : (s.withPower x).lanes = s.lanes := rfl
@[simp] theorem withPower_zones (s : State) (x : Power) : (s.withPower x).zones = s.zones := rfl
@[simp] theorem withPower_allocator (s : State) (x : Power) : (s.withPower x).allocator = s.allocator := rfl
@[simp] theorem withPower_blowers (s : State) (x : Power) : (s.withPower x).blowers = s.blowers := rfl
@[simp] theorem withPower_returns (s : State) (x : Power) : (s.withPower x).returns = s.returns := rfl
@[simp] theorem withPower_outputs (s : State) (x : Power) : (s.withPower x).outputs = s.outputs := rfl
@[simp] theorem withPower_supervision (s : State) (x : Power) : (s.withPower x).supervision = s.supervision := rfl
@[simp] theorem withPower_watches (s : State) (x : Power) : (s.withPower x).watches = s.watches := rfl
@[simp] theorem withPower_history (s : State) (x : Power) : (s.withPower x).history = s.history := rfl
@[simp] theorem withPower_management (s : State) (x : Power) : (s.withPower x).management = s.management := rfl
@[simp] theorem withPower_raised (s : State) (x : Power) : (s.withPower x).raised = s.raised := rfl
@[simp] theorem withPower_freeIndex (s : State) (x : Power) : (s.withPower x).freeIndex = s.freeIndex := rfl
@[simp] theorem withPower_pending (s : State) (x : Power) : (s.withPower x).pending = s.pending := rfl
@[simp] theorem withPower_withPower (s : State) (x y : Power) : (s.withPower x).withPower y = s.withPower y := rfl
@[simp] theorem withPower_self (s : State) : s.withPower s.power = s := rfl

@[simp] theorem withOwnAddress_power (s : State) (x : Addr) : (s.withOwnAddress x).power = s.power := rfl
@[simp] theorem withOwnAddress_ownAddress (s : State) (x : Addr) : (s.withOwnAddress x).ownAddress = x := rfl
@[simp] theorem withOwnAddress_timeCount (s : State) (x : Addr) : (s.withOwnAddress x).timeCount = s.timeCount := rfl
@[simp] theorem withOwnAddress_ring (s : State) (x : Addr) : (s.withOwnAddress x).ring = s.ring := rfl
@[simp] theorem withOwnAddress_routes (s : State) (x : Addr) : (s.withOwnAddress x).routes = s.routes := rfl
@[simp] theorem withOwnAddress_points (s : State) (x : Addr) : (s.withOwnAddress x).points = s.points := rfl
@[simp] theorem withOwnAddress_plant (s : State) (x : Addr) : (s.withOwnAddress x).plant = s.plant := rfl
@[simp] theorem withOwnAddress_lanes (s : State) (x : Addr) : (s.withOwnAddress x).lanes = s.lanes := rfl
@[simp] theorem withOwnAddress_zones (s : State) (x : Addr) : (s.withOwnAddress x).zones = s.zones := rfl
@[simp] theorem withOwnAddress_allocator (s : State) (x : Addr) : (s.withOwnAddress x).allocator = s.allocator := rfl
@[simp] theorem withOwnAddress_blowers (s : State) (x : Addr) : (s.withOwnAddress x).blowers = s.blowers := rfl
@[simp] theorem withOwnAddress_returns (s : State) (x : Addr) : (s.withOwnAddress x).returns = s.returns := rfl
@[simp] theorem withOwnAddress_outputs (s : State) (x : Addr) : (s.withOwnAddress x).outputs = s.outputs := rfl
@[simp] theorem withOwnAddress_supervision (s : State) (x : Addr) : (s.withOwnAddress x).supervision = s.supervision := rfl
@[simp] theorem withOwnAddress_watches (s : State) (x : Addr) : (s.withOwnAddress x).watches = s.watches := rfl
@[simp] theorem withOwnAddress_history (s : State) (x : Addr) : (s.withOwnAddress x).history = s.history := rfl
@[simp] theorem withOwnAddress_management (s : State) (x : Addr) : (s.withOwnAddress x).management = s.management := rfl
@[simp] theorem withOwnAddress_raised (s : State) (x : Addr) : (s.withOwnAddress x).raised = s.raised := rfl
@[simp] theorem withOwnAddress_freeIndex (s : State) (x : Addr) : (s.withOwnAddress x).freeIndex = s.freeIndex := rfl
@[simp] theorem withOwnAddress_pending (s : State) (x : Addr) : (s.withOwnAddress x).pending = s.pending := rfl
@[simp] theorem withOwnAddress_withOwnAddress (s : State) (x y : Addr) : (s.withOwnAddress x).withOwnAddress y = s.withOwnAddress y := rfl
@[simp] theorem withOwnAddress_self (s : State) : s.withOwnAddress s.ownAddress = s := rfl

@[simp] theorem withTimeCount_power (s : State) (x : BitVec 32) : (s.withTimeCount x).power = s.power := rfl
@[simp] theorem withTimeCount_ownAddress (s : State) (x : BitVec 32) : (s.withTimeCount x).ownAddress = s.ownAddress := rfl
@[simp] theorem withTimeCount_timeCount (s : State) (x : BitVec 32) : (s.withTimeCount x).timeCount = x := rfl
@[simp] theorem withTimeCount_ring (s : State) (x : BitVec 32) : (s.withTimeCount x).ring = s.ring := rfl
@[simp] theorem withTimeCount_routes (s : State) (x : BitVec 32) : (s.withTimeCount x).routes = s.routes := rfl
@[simp] theorem withTimeCount_points (s : State) (x : BitVec 32) : (s.withTimeCount x).points = s.points := rfl
@[simp] theorem withTimeCount_plant (s : State) (x : BitVec 32) : (s.withTimeCount x).plant = s.plant := rfl
@[simp] theorem withTimeCount_lanes (s : State) (x : BitVec 32) : (s.withTimeCount x).lanes = s.lanes := rfl
@[simp] theorem withTimeCount_zones (s : State) (x : BitVec 32) : (s.withTimeCount x).zones = s.zones := rfl
@[simp] theorem withTimeCount_allocator (s : State) (x : BitVec 32) : (s.withTimeCount x).allocator = s.allocator := rfl
@[simp] theorem withTimeCount_blowers (s : State) (x : BitVec 32) : (s.withTimeCount x).blowers = s.blowers := rfl
@[simp] theorem withTimeCount_returns (s : State) (x : BitVec 32) : (s.withTimeCount x).returns = s.returns := rfl
@[simp] theorem withTimeCount_outputs (s : State) (x : BitVec 32) : (s.withTimeCount x).outputs = s.outputs := rfl
@[simp] theorem withTimeCount_supervision (s : State) (x : BitVec 32) : (s.withTimeCount x).supervision = s.supervision := rfl
@[simp] theorem withTimeCount_watches (s : State) (x : BitVec 32) : (s.withTimeCount x).watches = s.watches := rfl
@[simp] theorem withTimeCount_history (s : State) (x : BitVec 32) : (s.withTimeCount x).history = s.history := rfl
@[simp] theorem withTimeCount_management (s : State) (x : BitVec 32) : (s.withTimeCount x).management = s.management := rfl
@[simp] theorem withTimeCount_raised (s : State) (x : BitVec 32) : (s.withTimeCount x).raised = s.raised := rfl
@[simp] theorem withTimeCount_freeIndex (s : State) (x : BitVec 32) : (s.withTimeCount x).freeIndex = s.freeIndex := rfl
@[simp] theorem withTimeCount_pending (s : State) (x : BitVec 32) : (s.withTimeCount x).pending = s.pending := rfl
@[simp] theorem withTimeCount_withTimeCount (s : State) (x y : BitVec 32) : (s.withTimeCount x).withTimeCount y = s.withTimeCount y := rfl
@[simp] theorem withTimeCount_self (s : State) : s.withTimeCount s.timeCount = s := rfl

@[simp] theorem withRing_power (s : State) (x : Ring) : (s.withRing x).power = s.power := rfl
@[simp] theorem withRing_ownAddress (s : State) (x : Ring) : (s.withRing x).ownAddress = s.ownAddress := rfl
@[simp] theorem withRing_timeCount (s : State) (x : Ring) : (s.withRing x).timeCount = s.timeCount := rfl
@[simp] theorem withRing_ring (s : State) (x : Ring) : (s.withRing x).ring = x := rfl
@[simp] theorem withRing_routes (s : State) (x : Ring) : (s.withRing x).routes = s.routes := rfl
@[simp] theorem withRing_points (s : State) (x : Ring) : (s.withRing x).points = s.points := rfl
@[simp] theorem withRing_plant (s : State) (x : Ring) : (s.withRing x).plant = s.plant := rfl
@[simp] theorem withRing_lanes (s : State) (x : Ring) : (s.withRing x).lanes = s.lanes := rfl
@[simp] theorem withRing_zones (s : State) (x : Ring) : (s.withRing x).zones = s.zones := rfl
@[simp] theorem withRing_allocator (s : State) (x : Ring) : (s.withRing x).allocator = s.allocator := rfl
@[simp] theorem withRing_blowers (s : State) (x : Ring) : (s.withRing x).blowers = s.blowers := rfl
@[simp] theorem withRing_returns (s : State) (x : Ring) : (s.withRing x).returns = s.returns := rfl
@[simp] theorem withRing_outputs (s : State) (x : Ring) : (s.withRing x).outputs = s.outputs := rfl
@[simp] theorem withRing_supervision (s : State) (x : Ring) : (s.withRing x).supervision = s.supervision := rfl
@[simp] theorem withRing_watches (s : State) (x : Ring) : (s.withRing x).watches = s.watches := rfl
@[simp] theorem withRing_history (s : State) (x : Ring) : (s.withRing x).history = s.history := rfl
@[simp] theorem withRing_management (s : State) (x : Ring) : (s.withRing x).management = s.management := rfl
@[simp] theorem withRing_raised (s : State) (x : Ring) : (s.withRing x).raised = s.raised := rfl
@[simp] theorem withRing_freeIndex (s : State) (x : Ring) : (s.withRing x).freeIndex = s.freeIndex := rfl
@[simp] theorem withRing_pending (s : State) (x : Ring) : (s.withRing x).pending = s.pending := rfl
@[simp] theorem withRing_withRing (s : State) (x y : Ring) : (s.withRing x).withRing y = s.withRing y := rfl
@[simp] theorem withRing_self (s : State) : s.withRing s.ring = s := rfl

@[simp] theorem withRoutes_power (s : State) (x : Table 64 Route) : (s.withRoutes x).power = s.power := rfl
@[simp] theorem withRoutes_ownAddress (s : State) (x : Table 64 Route) : (s.withRoutes x).ownAddress = s.ownAddress := rfl
@[simp] theorem withRoutes_timeCount (s : State) (x : Table 64 Route) : (s.withRoutes x).timeCount = s.timeCount := rfl
@[simp] theorem withRoutes_ring (s : State) (x : Table 64 Route) : (s.withRoutes x).ring = s.ring := rfl
@[simp] theorem withRoutes_routes (s : State) (x : Table 64 Route) : (s.withRoutes x).routes = x := rfl
@[simp] theorem withRoutes_points (s : State) (x : Table 64 Route) : (s.withRoutes x).points = s.points := rfl
@[simp] theorem withRoutes_plant (s : State) (x : Table 64 Route) : (s.withRoutes x).plant = s.plant := rfl
@[simp] theorem withRoutes_lanes (s : State) (x : Table 64 Route) : (s.withRoutes x).lanes = s.lanes := rfl
@[simp] theorem withRoutes_zones (s : State) (x : Table 64 Route) : (s.withRoutes x).zones = s.zones := rfl
@[simp] theorem withRoutes_allocator (s : State) (x : Table 64 Route) : (s.withRoutes x).allocator = s.allocator := rfl
@[simp] theorem withRoutes_blowers (s : State) (x : Table 64 Route) : (s.withRoutes x).blowers = s.blowers := rfl
@[simp] theorem withRoutes_returns (s : State) (x : Table 64 Route) : (s.withRoutes x).returns = s.returns := rfl
@[simp] theorem withRoutes_outputs (s : State) (x : Table 64 Route) : (s.withRoutes x).outputs = s.outputs := rfl
@[simp] theorem withRoutes_supervision (s : State) (x : Table 64 Route) : (s.withRoutes x).supervision = s.supervision := rfl
@[simp] theorem withRoutes_watches (s : State) (x : Table 64 Route) : (s.withRoutes x).watches = s.watches := rfl
@[simp] theorem withRoutes_history (s : State) (x : Table 64 Route) : (s.withRoutes x).history = s.history := rfl
@[simp] theorem withRoutes_management (s : State) (x : Table 64 Route) : (s.withRoutes x).management = s.management := rfl
@[simp] theorem withRoutes_raised (s : State) (x : Table 64 Route) : (s.withRoutes x).raised = s.raised := rfl
@[simp] theorem withRoutes_freeIndex (s : State) (x : Table 64 Route) : (s.withRoutes x).freeIndex = s.freeIndex := rfl
@[simp] theorem withRoutes_pending (s : State) (x : Table 64 Route) : (s.withRoutes x).pending = s.pending := rfl
@[simp] theorem withRoutes_withRoutes (s : State) (x y : Table 64 Route) : (s.withRoutes x).withRoutes y = s.withRoutes y := rfl
@[simp] theorem withRoutes_self (s : State) : s.withRoutes s.routes = s := rfl

@[simp] theorem withPoints_power (s : State) (x : Table 128 Point) : (s.withPoints x).power = s.power := rfl
@[simp] theorem withPoints_ownAddress (s : State) (x : Table 128 Point) : (s.withPoints x).ownAddress = s.ownAddress := rfl
@[simp] theorem withPoints_timeCount (s : State) (x : Table 128 Point) : (s.withPoints x).timeCount = s.timeCount := rfl
@[simp] theorem withPoints_ring (s : State) (x : Table 128 Point) : (s.withPoints x).ring = s.ring := rfl
@[simp] theorem withPoints_routes (s : State) (x : Table 128 Point) : (s.withPoints x).routes = s.routes := rfl
@[simp] theorem withPoints_points (s : State) (x : Table 128 Point) : (s.withPoints x).points = x := rfl
@[simp] theorem withPoints_plant (s : State) (x : Table 128 Point) : (s.withPoints x).plant = s.plant := rfl
@[simp] theorem withPoints_lanes (s : State) (x : Table 128 Point) : (s.withPoints x).lanes = s.lanes := rfl
@[simp] theorem withPoints_zones (s : State) (x : Table 128 Point) : (s.withPoints x).zones = s.zones := rfl
@[simp] theorem withPoints_allocator (s : State) (x : Table 128 Point) : (s.withPoints x).allocator = s.allocator := rfl
@[simp] theorem withPoints_blowers (s : State) (x : Table 128 Point) : (s.withPoints x).blowers = s.blowers := rfl
@[simp] theorem withPoints_returns (s : State) (x : Table 128 Point) : (s.withPoints x).returns = s.returns := rfl
@[simp] theorem withPoints_outputs (s : State) (x : Table 128 Point) : (s.withPoints x).outputs = s.outputs := rfl
@[simp] theorem withPoints_supervision (s : State) (x : Table 128 Point) : (s.withPoints x).supervision = s.supervision := rfl
@[simp] theorem withPoints_watches (s : State) (x : Table 128 Point) : (s.withPoints x).watches = s.watches := rfl
@[simp] theorem withPoints_history (s : State) (x : Table 128 Point) : (s.withPoints x).history = s.history := rfl
@[simp] theorem withPoints_management (s : State) (x : Table 128 Point) : (s.withPoints x).management = s.management := rfl
@[simp] theorem withPoints_raised (s : State) (x : Table 128 Point) : (s.withPoints x).raised = s.raised := rfl
@[simp] theorem withPoints_freeIndex (s : State) (x : Table 128 Point) : (s.withPoints x).freeIndex = s.freeIndex := rfl
@[simp] theorem withPoints_pending (s : State) (x : Table 128 Point) : (s.withPoints x).pending = s.pending := rfl
@[simp] theorem withPoints_withPoints (s : State) (x y : Table 128 Point) : (s.withPoints x).withPoints y = s.withPoints y := rfl
@[simp] theorem withPoints_self (s : State) : s.withPoints s.points = s := rfl

@[simp] theorem withPlant_power (s : State) (x : Plant) : (s.withPlant x).power = s.power := rfl
@[simp] theorem withPlant_ownAddress (s : State) (x : Plant) : (s.withPlant x).ownAddress = s.ownAddress := rfl
@[simp] theorem withPlant_timeCount (s : State) (x : Plant) : (s.withPlant x).timeCount = s.timeCount := rfl
@[simp] theorem withPlant_ring (s : State) (x : Plant) : (s.withPlant x).ring = s.ring := rfl
@[simp] theorem withPlant_routes (s : State) (x : Plant) : (s.withPlant x).routes = s.routes := rfl
@[simp] theorem withPlant_points (s : State) (x : Plant) : (s.withPlant x).points = s.points := rfl
@[simp] theorem withPlant_plant (s : State) (x : Plant) : (s.withPlant x).plant = x := rfl
@[simp] theorem withPlant_lanes (s : State) (x : Plant) : (s.withPlant x).lanes = s.lanes := rfl
@[simp] theorem withPlant_zones (s : State) (x : Plant) : (s.withPlant x).zones = s.zones := rfl
@[simp] theorem withPlant_allocator (s : State) (x : Plant) : (s.withPlant x).allocator = s.allocator := rfl
@[simp] theorem withPlant_blowers (s : State) (x : Plant) : (s.withPlant x).blowers = s.blowers := rfl
@[simp] theorem withPlant_returns (s : State) (x : Plant) : (s.withPlant x).returns = s.returns := rfl
@[simp] theorem withPlant_outputs (s : State) (x : Plant) : (s.withPlant x).outputs = s.outputs := rfl
@[simp] theorem withPlant_supervision (s : State) (x : Plant) : (s.withPlant x).supervision = s.supervision := rfl
@[simp] theorem withPlant_watches (s : State) (x : Plant) : (s.withPlant x).watches = s.watches := rfl
@[simp] theorem withPlant_history (s : State) (x : Plant) : (s.withPlant x).history = s.history := rfl
@[simp] theorem withPlant_management (s : State) (x : Plant) : (s.withPlant x).management = s.management := rfl
@[simp] theorem withPlant_raised (s : State) (x : Plant) : (s.withPlant x).raised = s.raised := rfl
@[simp] theorem withPlant_freeIndex (s : State) (x : Plant) : (s.withPlant x).freeIndex = s.freeIndex := rfl
@[simp] theorem withPlant_pending (s : State) (x : Plant) : (s.withPlant x).pending = s.pending := rfl
@[simp] theorem withPlant_withPlant (s : State) (x y : Plant) : (s.withPlant x).withPlant y = s.withPlant y := rfl
@[simp] theorem withPlant_self (s : State) : s.withPlant s.plant = s := rfl

@[simp] theorem withLanes_power (s : State) (x : Table 8 Lane) : (s.withLanes x).power = s.power := rfl
@[simp] theorem withLanes_ownAddress (s : State) (x : Table 8 Lane) : (s.withLanes x).ownAddress = s.ownAddress := rfl
@[simp] theorem withLanes_timeCount (s : State) (x : Table 8 Lane) : (s.withLanes x).timeCount = s.timeCount := rfl
@[simp] theorem withLanes_ring (s : State) (x : Table 8 Lane) : (s.withLanes x).ring = s.ring := rfl
@[simp] theorem withLanes_routes (s : State) (x : Table 8 Lane) : (s.withLanes x).routes = s.routes := rfl
@[simp] theorem withLanes_points (s : State) (x : Table 8 Lane) : (s.withLanes x).points = s.points := rfl
@[simp] theorem withLanes_plant (s : State) (x : Table 8 Lane) : (s.withLanes x).plant = s.plant := rfl
@[simp] theorem withLanes_lanes (s : State) (x : Table 8 Lane) : (s.withLanes x).lanes = x := rfl
@[simp] theorem withLanes_zones (s : State) (x : Table 8 Lane) : (s.withLanes x).zones = s.zones := rfl
@[simp] theorem withLanes_allocator (s : State) (x : Table 8 Lane) : (s.withLanes x).allocator = s.allocator := rfl
@[simp] theorem withLanes_blowers (s : State) (x : Table 8 Lane) : (s.withLanes x).blowers = s.blowers := rfl
@[simp] theorem withLanes_returns (s : State) (x : Table 8 Lane) : (s.withLanes x).returns = s.returns := rfl
@[simp] theorem withLanes_outputs (s : State) (x : Table 8 Lane) : (s.withLanes x).outputs = s.outputs := rfl
@[simp] theorem withLanes_supervision (s : State) (x : Table 8 Lane) : (s.withLanes x).supervision = s.supervision := rfl
@[simp] theorem withLanes_watches (s : State) (x : Table 8 Lane) : (s.withLanes x).watches = s.watches := rfl
@[simp] theorem withLanes_history (s : State) (x : Table 8 Lane) : (s.withLanes x).history = s.history := rfl
@[simp] theorem withLanes_management (s : State) (x : Table 8 Lane) : (s.withLanes x).management = s.management := rfl
@[simp] theorem withLanes_raised (s : State) (x : Table 8 Lane) : (s.withLanes x).raised = s.raised := rfl
@[simp] theorem withLanes_freeIndex (s : State) (x : Table 8 Lane) : (s.withLanes x).freeIndex = s.freeIndex := rfl
@[simp] theorem withLanes_pending (s : State) (x : Table 8 Lane) : (s.withLanes x).pending = s.pending := rfl
@[simp] theorem withLanes_withLanes (s : State) (x y : Table 8 Lane) : (s.withLanes x).withLanes y = s.withLanes y := rfl
@[simp] theorem withLanes_self (s : State) : s.withLanes s.lanes = s := rfl

@[simp] theorem withZones_power (s : State) (x : Table 32 Zone) : (s.withZones x).power = s.power := rfl
@[simp] theorem withZones_ownAddress (s : State) (x : Table 32 Zone) : (s.withZones x).ownAddress = s.ownAddress := rfl
@[simp] theorem withZones_timeCount (s : State) (x : Table 32 Zone) : (s.withZones x).timeCount = s.timeCount := rfl
@[simp] theorem withZones_ring (s : State) (x : Table 32 Zone) : (s.withZones x).ring = s.ring := rfl
@[simp] theorem withZones_routes (s : State) (x : Table 32 Zone) : (s.withZones x).routes = s.routes := rfl
@[simp] theorem withZones_points (s : State) (x : Table 32 Zone) : (s.withZones x).points = s.points := rfl
@[simp] theorem withZones_plant (s : State) (x : Table 32 Zone) : (s.withZones x).plant = s.plant := rfl
@[simp] theorem withZones_lanes (s : State) (x : Table 32 Zone) : (s.withZones x).lanes = s.lanes := rfl
@[simp] theorem withZones_zones (s : State) (x : Table 32 Zone) : (s.withZones x).zones = x := rfl
@[simp] theorem withZones_allocator (s : State) (x : Table 32 Zone) : (s.withZones x).allocator = s.allocator := rfl
@[simp] theorem withZones_blowers (s : State) (x : Table 32 Zone) : (s.withZones x).blowers = s.blowers := rfl
@[simp] theorem withZones_returns (s : State) (x : Table 32 Zone) : (s.withZones x).returns = s.returns := rfl
@[simp] theorem withZones_outputs (s : State) (x : Table 32 Zone) : (s.withZones x).outputs = s.outputs := rfl
@[simp] theorem withZones_supervision (s : State) (x : Table 32 Zone) : (s.withZones x).supervision = s.supervision := rfl
@[simp] theorem withZones_watches (s : State) (x : Table 32 Zone) : (s.withZones x).watches = s.watches := rfl
@[simp] theorem withZones_history (s : State) (x : Table 32 Zone) : (s.withZones x).history = s.history := rfl
@[simp] theorem withZones_management (s : State) (x : Table 32 Zone) : (s.withZones x).management = s.management := rfl
@[simp] theorem withZones_raised (s : State) (x : Table 32 Zone) : (s.withZones x).raised = s.raised := rfl
@[simp] theorem withZones_freeIndex (s : State) (x : Table 32 Zone) : (s.withZones x).freeIndex = s.freeIndex := rfl
@[simp] theorem withZones_pending (s : State) (x : Table 32 Zone) : (s.withZones x).pending = s.pending := rfl
@[simp] theorem withZones_withZones (s : State) (x y : Table 32 Zone) : (s.withZones x).withZones y = s.withZones y := rfl
@[simp] theorem withZones_self (s : State) : s.withZones s.zones = s := rfl

@[simp] theorem withAllocator_power (s : State) (x : Allocator) : (s.withAllocator x).power = s.power := rfl
@[simp] theorem withAllocator_ownAddress (s : State) (x : Allocator) : (s.withAllocator x).ownAddress = s.ownAddress := rfl
@[simp] theorem withAllocator_timeCount (s : State) (x : Allocator) : (s.withAllocator x).timeCount = s.timeCount := rfl
@[simp] theorem withAllocator_ring (s : State) (x : Allocator) : (s.withAllocator x).ring = s.ring := rfl
@[simp] theorem withAllocator_routes (s : State) (x : Allocator) : (s.withAllocator x).routes = s.routes := rfl
@[simp] theorem withAllocator_points (s : State) (x : Allocator) : (s.withAllocator x).points = s.points := rfl
@[simp] theorem withAllocator_plant (s : State) (x : Allocator) : (s.withAllocator x).plant = s.plant := rfl
@[simp] theorem withAllocator_lanes (s : State) (x : Allocator) : (s.withAllocator x).lanes = s.lanes := rfl
@[simp] theorem withAllocator_zones (s : State) (x : Allocator) : (s.withAllocator x).zones = s.zones := rfl
@[simp] theorem withAllocator_allocator (s : State) (x : Allocator) : (s.withAllocator x).allocator = x := rfl
@[simp] theorem withAllocator_blowers (s : State) (x : Allocator) : (s.withAllocator x).blowers = s.blowers := rfl
@[simp] theorem withAllocator_returns (s : State) (x : Allocator) : (s.withAllocator x).returns = s.returns := rfl
@[simp] theorem withAllocator_outputs (s : State) (x : Allocator) : (s.withAllocator x).outputs = s.outputs := rfl
@[simp] theorem withAllocator_supervision (s : State) (x : Allocator) : (s.withAllocator x).supervision = s.supervision := rfl
@[simp] theorem withAllocator_watches (s : State) (x : Allocator) : (s.withAllocator x).watches = s.watches := rfl
@[simp] theorem withAllocator_history (s : State) (x : Allocator) : (s.withAllocator x).history = s.history := rfl
@[simp] theorem withAllocator_management (s : State) (x : Allocator) : (s.withAllocator x).management = s.management := rfl
@[simp] theorem withAllocator_raised (s : State) (x : Allocator) : (s.withAllocator x).raised = s.raised := rfl
@[simp] theorem withAllocator_freeIndex (s : State) (x : Allocator) : (s.withAllocator x).freeIndex = s.freeIndex := rfl
@[simp] theorem withAllocator_pending (s : State) (x : Allocator) : (s.withAllocator x).pending = s.pending := rfl
@[simp] theorem withAllocator_withAllocator (s : State) (x y : Allocator) : (s.withAllocator x).withAllocator y = s.withAllocator y := rfl
@[simp] theorem withAllocator_self (s : State) : s.withAllocator s.allocator = s := rfl

@[simp] theorem withBlowers_power (s : State) (x : Table 6 Blower) : (s.withBlowers x).power = s.power := rfl
@[simp] theorem withBlowers_ownAddress (s : State) (x : Table 6 Blower) : (s.withBlowers x).ownAddress = s.ownAddress := rfl
@[simp] theorem withBlowers_timeCount (s : State) (x : Table 6 Blower) : (s.withBlowers x).timeCount = s.timeCount := rfl
@[simp] theorem withBlowers_ring (s : State) (x : Table 6 Blower) : (s.withBlowers x).ring = s.ring := rfl
@[simp] theorem withBlowers_routes (s : State) (x : Table 6 Blower) : (s.withBlowers x).routes = s.routes := rfl
@[simp] theorem withBlowers_points (s : State) (x : Table 6 Blower) : (s.withBlowers x).points = s.points := rfl
@[simp] theorem withBlowers_plant (s : State) (x : Table 6 Blower) : (s.withBlowers x).plant = s.plant := rfl
@[simp] theorem withBlowers_lanes (s : State) (x : Table 6 Blower) : (s.withBlowers x).lanes = s.lanes := rfl
@[simp] theorem withBlowers_zones (s : State) (x : Table 6 Blower) : (s.withBlowers x).zones = s.zones := rfl
@[simp] theorem withBlowers_allocator (s : State) (x : Table 6 Blower) : (s.withBlowers x).allocator = s.allocator := rfl
@[simp] theorem withBlowers_blowers (s : State) (x : Table 6 Blower) : (s.withBlowers x).blowers = x := rfl
@[simp] theorem withBlowers_returns (s : State) (x : Table 6 Blower) : (s.withBlowers x).returns = s.returns := rfl
@[simp] theorem withBlowers_outputs (s : State) (x : Table 6 Blower) : (s.withBlowers x).outputs = s.outputs := rfl
@[simp] theorem withBlowers_supervision (s : State) (x : Table 6 Blower) : (s.withBlowers x).supervision = s.supervision := rfl
@[simp] theorem withBlowers_watches (s : State) (x : Table 6 Blower) : (s.withBlowers x).watches = s.watches := rfl
@[simp] theorem withBlowers_history (s : State) (x : Table 6 Blower) : (s.withBlowers x).history = s.history := rfl
@[simp] theorem withBlowers_management (s : State) (x : Table 6 Blower) : (s.withBlowers x).management = s.management := rfl
@[simp] theorem withBlowers_raised (s : State) (x : Table 6 Blower) : (s.withBlowers x).raised = s.raised := rfl
@[simp] theorem withBlowers_freeIndex (s : State) (x : Table 6 Blower) : (s.withBlowers x).freeIndex = s.freeIndex := rfl
@[simp] theorem withBlowers_pending (s : State) (x : Table 6 Blower) : (s.withBlowers x).pending = s.pending := rfl
@[simp] theorem withBlowers_withBlowers (s : State) (x y : Table 6 Blower) : (s.withBlowers x).withBlowers y = s.withBlowers y := rfl
@[simp] theorem withBlowers_self (s : State) : s.withBlowers s.blowers = s := rfl

@[simp] theorem withReturns_power (s : State) (x : Table 4 ReturnLine) : (s.withReturns x).power = s.power := rfl
@[simp] theorem withReturns_ownAddress (s : State) (x : Table 4 ReturnLine) : (s.withReturns x).ownAddress = s.ownAddress := rfl
@[simp] theorem withReturns_timeCount (s : State) (x : Table 4 ReturnLine) : (s.withReturns x).timeCount = s.timeCount := rfl
@[simp] theorem withReturns_ring (s : State) (x : Table 4 ReturnLine) : (s.withReturns x).ring = s.ring := rfl
@[simp] theorem withReturns_routes (s : State) (x : Table 4 ReturnLine) : (s.withReturns x).routes = s.routes := rfl
@[simp] theorem withReturns_points (s : State) (x : Table 4 ReturnLine) : (s.withReturns x).points = s.points := rfl
@[simp] theorem withReturns_plant (s : State) (x : Table 4 ReturnLine) : (s.withReturns x).plant = s.plant := rfl
@[simp] theorem withReturns_lanes (s : State) (x : Table 4 ReturnLine) : (s.withReturns x).lanes = s.lanes := rfl
@[simp] theorem withReturns_zones (s : State) (x : Table 4 ReturnLine) : (s.withReturns x).zones = s.zones := rfl
@[simp] theorem withReturns_allocator (s : State) (x : Table 4 ReturnLine) : (s.withReturns x).allocator = s.allocator := rfl
@[simp] theorem withReturns_blowers (s : State) (x : Table 4 ReturnLine) : (s.withReturns x).blowers = s.blowers := rfl
@[simp] theorem withReturns_returns (s : State) (x : Table 4 ReturnLine) : (s.withReturns x).returns = x := rfl
@[simp] theorem withReturns_outputs (s : State) (x : Table 4 ReturnLine) : (s.withReturns x).outputs = s.outputs := rfl
@[simp] theorem withReturns_supervision (s : State) (x : Table 4 ReturnLine) : (s.withReturns x).supervision = s.supervision := rfl
@[simp] theorem withReturns_watches (s : State) (x : Table 4 ReturnLine) : (s.withReturns x).watches = s.watches := rfl
@[simp] theorem withReturns_history (s : State) (x : Table 4 ReturnLine) : (s.withReturns x).history = s.history := rfl
@[simp] theorem withReturns_management (s : State) (x : Table 4 ReturnLine) : (s.withReturns x).management = s.management := rfl
@[simp] theorem withReturns_raised (s : State) (x : Table 4 ReturnLine) : (s.withReturns x).raised = s.raised := rfl
@[simp] theorem withReturns_freeIndex (s : State) (x : Table 4 ReturnLine) : (s.withReturns x).freeIndex = s.freeIndex := rfl
@[simp] theorem withReturns_pending (s : State) (x : Table 4 ReturnLine) : (s.withReturns x).pending = s.pending := rfl
@[simp] theorem withReturns_withReturns (s : State) (x y : Table 4 ReturnLine) : (s.withReturns x).withReturns y = s.withReturns y := rfl
@[simp] theorem withReturns_self (s : State) : s.withReturns s.returns = s := rfl

@[simp] theorem withOutputs_power (s : State) (x : Table 64 Output) : (s.withOutputs x).power = s.power := rfl
@[simp] theorem withOutputs_ownAddress (s : State) (x : Table 64 Output) : (s.withOutputs x).ownAddress = s.ownAddress := rfl
@[simp] theorem withOutputs_timeCount (s : State) (x : Table 64 Output) : (s.withOutputs x).timeCount = s.timeCount := rfl
@[simp] theorem withOutputs_ring (s : State) (x : Table 64 Output) : (s.withOutputs x).ring = s.ring := rfl
@[simp] theorem withOutputs_routes (s : State) (x : Table 64 Output) : (s.withOutputs x).routes = s.routes := rfl
@[simp] theorem withOutputs_points (s : State) (x : Table 64 Output) : (s.withOutputs x).points = s.points := rfl
@[simp] theorem withOutputs_plant (s : State) (x : Table 64 Output) : (s.withOutputs x).plant = s.plant := rfl
@[simp] theorem withOutputs_lanes (s : State) (x : Table 64 Output) : (s.withOutputs x).lanes = s.lanes := rfl
@[simp] theorem withOutputs_zones (s : State) (x : Table 64 Output) : (s.withOutputs x).zones = s.zones := rfl
@[simp] theorem withOutputs_allocator (s : State) (x : Table 64 Output) : (s.withOutputs x).allocator = s.allocator := rfl
@[simp] theorem withOutputs_blowers (s : State) (x : Table 64 Output) : (s.withOutputs x).blowers = s.blowers := rfl
@[simp] theorem withOutputs_returns (s : State) (x : Table 64 Output) : (s.withOutputs x).returns = s.returns := rfl
@[simp] theorem withOutputs_outputs (s : State) (x : Table 64 Output) : (s.withOutputs x).outputs = x := rfl
@[simp] theorem withOutputs_supervision (s : State) (x : Table 64 Output) : (s.withOutputs x).supervision = s.supervision := rfl
@[simp] theorem withOutputs_watches (s : State) (x : Table 64 Output) : (s.withOutputs x).watches = s.watches := rfl
@[simp] theorem withOutputs_history (s : State) (x : Table 64 Output) : (s.withOutputs x).history = s.history := rfl
@[simp] theorem withOutputs_management (s : State) (x : Table 64 Output) : (s.withOutputs x).management = s.management := rfl
@[simp] theorem withOutputs_raised (s : State) (x : Table 64 Output) : (s.withOutputs x).raised = s.raised := rfl
@[simp] theorem withOutputs_freeIndex (s : State) (x : Table 64 Output) : (s.withOutputs x).freeIndex = s.freeIndex := rfl
@[simp] theorem withOutputs_pending (s : State) (x : Table 64 Output) : (s.withOutputs x).pending = s.pending := rfl
@[simp] theorem withOutputs_withOutputs (s : State) (x y : Table 64 Output) : (s.withOutputs x).withOutputs y = s.withOutputs y := rfl
@[simp] theorem withOutputs_self (s : State) : s.withOutputs s.outputs = s := rfl

@[simp] theorem withSupervision_power (s : State) (x : Supervision) : (s.withSupervision x).power = s.power := rfl
@[simp] theorem withSupervision_ownAddress (s : State) (x : Supervision) : (s.withSupervision x).ownAddress = s.ownAddress := rfl
@[simp] theorem withSupervision_timeCount (s : State) (x : Supervision) : (s.withSupervision x).timeCount = s.timeCount := rfl
@[simp] theorem withSupervision_ring (s : State) (x : Supervision) : (s.withSupervision x).ring = s.ring := rfl
@[simp] theorem withSupervision_routes (s : State) (x : Supervision) : (s.withSupervision x).routes = s.routes := rfl
@[simp] theorem withSupervision_points (s : State) (x : Supervision) : (s.withSupervision x).points = s.points := rfl
@[simp] theorem withSupervision_plant (s : State) (x : Supervision) : (s.withSupervision x).plant = s.plant := rfl
@[simp] theorem withSupervision_lanes (s : State) (x : Supervision) : (s.withSupervision x).lanes = s.lanes := rfl
@[simp] theorem withSupervision_zones (s : State) (x : Supervision) : (s.withSupervision x).zones = s.zones := rfl
@[simp] theorem withSupervision_allocator (s : State) (x : Supervision) : (s.withSupervision x).allocator = s.allocator := rfl
@[simp] theorem withSupervision_blowers (s : State) (x : Supervision) : (s.withSupervision x).blowers = s.blowers := rfl
@[simp] theorem withSupervision_returns (s : State) (x : Supervision) : (s.withSupervision x).returns = s.returns := rfl
@[simp] theorem withSupervision_outputs (s : State) (x : Supervision) : (s.withSupervision x).outputs = s.outputs := rfl
@[simp] theorem withSupervision_supervision (s : State) (x : Supervision) : (s.withSupervision x).supervision = x := rfl
@[simp] theorem withSupervision_watches (s : State) (x : Supervision) : (s.withSupervision x).watches = s.watches := rfl
@[simp] theorem withSupervision_history (s : State) (x : Supervision) : (s.withSupervision x).history = s.history := rfl
@[simp] theorem withSupervision_management (s : State) (x : Supervision) : (s.withSupervision x).management = s.management := rfl
@[simp] theorem withSupervision_raised (s : State) (x : Supervision) : (s.withSupervision x).raised = s.raised := rfl
@[simp] theorem withSupervision_freeIndex (s : State) (x : Supervision) : (s.withSupervision x).freeIndex = s.freeIndex := rfl
@[simp] theorem withSupervision_pending (s : State) (x : Supervision) : (s.withSupervision x).pending = s.pending := rfl
@[simp] theorem withSupervision_withSupervision (s : State) (x y : Supervision) : (s.withSupervision x).withSupervision y = s.withSupervision y := rfl
@[simp] theorem withSupervision_self (s : State) : s.withSupervision s.supervision = s := rfl

@[simp] theorem withWatches_power (s : State) (x : Table 32 Watch) : (s.withWatches x).power = s.power := rfl
@[simp] theorem withWatches_ownAddress (s : State) (x : Table 32 Watch) : (s.withWatches x).ownAddress = s.ownAddress := rfl
@[simp] theorem withWatches_timeCount (s : State) (x : Table 32 Watch) : (s.withWatches x).timeCount = s.timeCount := rfl
@[simp] theorem withWatches_ring (s : State) (x : Table 32 Watch) : (s.withWatches x).ring = s.ring := rfl
@[simp] theorem withWatches_routes (s : State) (x : Table 32 Watch) : (s.withWatches x).routes = s.routes := rfl
@[simp] theorem withWatches_points (s : State) (x : Table 32 Watch) : (s.withWatches x).points = s.points := rfl
@[simp] theorem withWatches_plant (s : State) (x : Table 32 Watch) : (s.withWatches x).plant = s.plant := rfl
@[simp] theorem withWatches_lanes (s : State) (x : Table 32 Watch) : (s.withWatches x).lanes = s.lanes := rfl
@[simp] theorem withWatches_zones (s : State) (x : Table 32 Watch) : (s.withWatches x).zones = s.zones := rfl
@[simp] theorem withWatches_allocator (s : State) (x : Table 32 Watch) : (s.withWatches x).allocator = s.allocator := rfl
@[simp] theorem withWatches_blowers (s : State) (x : Table 32 Watch) : (s.withWatches x).blowers = s.blowers := rfl
@[simp] theorem withWatches_returns (s : State) (x : Table 32 Watch) : (s.withWatches x).returns = s.returns := rfl
@[simp] theorem withWatches_outputs (s : State) (x : Table 32 Watch) : (s.withWatches x).outputs = s.outputs := rfl
@[simp] theorem withWatches_supervision (s : State) (x : Table 32 Watch) : (s.withWatches x).supervision = s.supervision := rfl
@[simp] theorem withWatches_watches (s : State) (x : Table 32 Watch) : (s.withWatches x).watches = x := rfl
@[simp] theorem withWatches_history (s : State) (x : Table 32 Watch) : (s.withWatches x).history = s.history := rfl
@[simp] theorem withWatches_management (s : State) (x : Table 32 Watch) : (s.withWatches x).management = s.management := rfl
@[simp] theorem withWatches_raised (s : State) (x : Table 32 Watch) : (s.withWatches x).raised = s.raised := rfl
@[simp] theorem withWatches_freeIndex (s : State) (x : Table 32 Watch) : (s.withWatches x).freeIndex = s.freeIndex := rfl
@[simp] theorem withWatches_pending (s : State) (x : Table 32 Watch) : (s.withWatches x).pending = s.pending := rfl
@[simp] theorem withWatches_withWatches (s : State) (x y : Table 32 Watch) : (s.withWatches x).withWatches y = s.withWatches y := rfl
@[simp] theorem withWatches_self (s : State) : s.withWatches s.watches = s := rfl

@[simp] theorem withHistory_power (s : State) (x : History) : (s.withHistory x).power = s.power := rfl
@[simp] theorem withHistory_ownAddress (s : State) (x : History) : (s.withHistory x).ownAddress = s.ownAddress := rfl
@[simp] theorem withHistory_timeCount (s : State) (x : History) : (s.withHistory x).timeCount = s.timeCount := rfl
@[simp] theorem withHistory_ring (s : State) (x : History) : (s.withHistory x).ring = s.ring := rfl
@[simp] theorem withHistory_routes (s : State) (x : History) : (s.withHistory x).routes = s.routes := rfl
@[simp] theorem withHistory_points (s : State) (x : History) : (s.withHistory x).points = s.points := rfl
@[simp] theorem withHistory_plant (s : State) (x : History) : (s.withHistory x).plant = s.plant := rfl
@[simp] theorem withHistory_lanes (s : State) (x : History) : (s.withHistory x).lanes = s.lanes := rfl
@[simp] theorem withHistory_zones (s : State) (x : History) : (s.withHistory x).zones = s.zones := rfl
@[simp] theorem withHistory_allocator (s : State) (x : History) : (s.withHistory x).allocator = s.allocator := rfl
@[simp] theorem withHistory_blowers (s : State) (x : History) : (s.withHistory x).blowers = s.blowers := rfl
@[simp] theorem withHistory_returns (s : State) (x : History) : (s.withHistory x).returns = s.returns := rfl
@[simp] theorem withHistory_outputs (s : State) (x : History) : (s.withHistory x).outputs = s.outputs := rfl
@[simp] theorem withHistory_supervision (s : State) (x : History) : (s.withHistory x).supervision = s.supervision := rfl
@[simp] theorem withHistory_watches (s : State) (x : History) : (s.withHistory x).watches = s.watches := rfl
@[simp] theorem withHistory_history (s : State) (x : History) : (s.withHistory x).history = x := rfl
@[simp] theorem withHistory_management (s : State) (x : History) : (s.withHistory x).management = s.management := rfl
@[simp] theorem withHistory_raised (s : State) (x : History) : (s.withHistory x).raised = s.raised := rfl
@[simp] theorem withHistory_freeIndex (s : State) (x : History) : (s.withHistory x).freeIndex = s.freeIndex := rfl
@[simp] theorem withHistory_pending (s : State) (x : History) : (s.withHistory x).pending = s.pending := rfl
@[simp] theorem withHistory_withHistory (s : State) (x y : History) : (s.withHistory x).withHistory y = s.withHistory y := rfl
@[simp] theorem withHistory_self (s : State) : s.withHistory s.history = s := rfl

@[simp] theorem withManagement_power (s : State) (x : Management) : (s.withManagement x).power = s.power := rfl
@[simp] theorem withManagement_ownAddress (s : State) (x : Management) : (s.withManagement x).ownAddress = s.ownAddress := rfl
@[simp] theorem withManagement_timeCount (s : State) (x : Management) : (s.withManagement x).timeCount = s.timeCount := rfl
@[simp] theorem withManagement_ring (s : State) (x : Management) : (s.withManagement x).ring = s.ring := rfl
@[simp] theorem withManagement_routes (s : State) (x : Management) : (s.withManagement x).routes = s.routes := rfl
@[simp] theorem withManagement_points (s : State) (x : Management) : (s.withManagement x).points = s.points := rfl
@[simp] theorem withManagement_plant (s : State) (x : Management) : (s.withManagement x).plant = s.plant := rfl
@[simp] theorem withManagement_lanes (s : State) (x : Management) : (s.withManagement x).lanes = s.lanes := rfl
@[simp] theorem withManagement_zones (s : State) (x : Management) : (s.withManagement x).zones = s.zones := rfl
@[simp] theorem withManagement_allocator (s : State) (x : Management) : (s.withManagement x).allocator = s.allocator := rfl
@[simp] theorem withManagement_blowers (s : State) (x : Management) : (s.withManagement x).blowers = s.blowers := rfl
@[simp] theorem withManagement_returns (s : State) (x : Management) : (s.withManagement x).returns = s.returns := rfl
@[simp] theorem withManagement_outputs (s : State) (x : Management) : (s.withManagement x).outputs = s.outputs := rfl
@[simp] theorem withManagement_supervision (s : State) (x : Management) : (s.withManagement x).supervision = s.supervision := rfl
@[simp] theorem withManagement_watches (s : State) (x : Management) : (s.withManagement x).watches = s.watches := rfl
@[simp] theorem withManagement_history (s : State) (x : Management) : (s.withManagement x).history = s.history := rfl
@[simp] theorem withManagement_management (s : State) (x : Management) : (s.withManagement x).management = x := rfl
@[simp] theorem withManagement_raised (s : State) (x : Management) : (s.withManagement x).raised = s.raised := rfl
@[simp] theorem withManagement_freeIndex (s : State) (x : Management) : (s.withManagement x).freeIndex = s.freeIndex := rfl
@[simp] theorem withManagement_pending (s : State) (x : Management) : (s.withManagement x).pending = s.pending := rfl
@[simp] theorem withManagement_withManagement (s : State) (x y : Management) : (s.withManagement x).withManagement y = s.withManagement y := rfl
@[simp] theorem withManagement_self (s : State) : s.withManagement s.management = s := rfl

@[simp] theorem withRaised_power (s : State) (x : List Change) : (s.withRaised x).power = s.power := rfl
@[simp] theorem withRaised_ownAddress (s : State) (x : List Change) : (s.withRaised x).ownAddress = s.ownAddress := rfl
@[simp] theorem withRaised_timeCount (s : State) (x : List Change) : (s.withRaised x).timeCount = s.timeCount := rfl
@[simp] theorem withRaised_ring (s : State) (x : List Change) : (s.withRaised x).ring = s.ring := rfl
@[simp] theorem withRaised_routes (s : State) (x : List Change) : (s.withRaised x).routes = s.routes := rfl
@[simp] theorem withRaised_points (s : State) (x : List Change) : (s.withRaised x).points = s.points := rfl
@[simp] theorem withRaised_plant (s : State) (x : List Change) : (s.withRaised x).plant = s.plant := rfl
@[simp] theorem withRaised_lanes (s : State) (x : List Change) : (s.withRaised x).lanes = s.lanes := rfl
@[simp] theorem withRaised_zones (s : State) (x : List Change) : (s.withRaised x).zones = s.zones := rfl
@[simp] theorem withRaised_allocator (s : State) (x : List Change) : (s.withRaised x).allocator = s.allocator := rfl
@[simp] theorem withRaised_blowers (s : State) (x : List Change) : (s.withRaised x).blowers = s.blowers := rfl
@[simp] theorem withRaised_returns (s : State) (x : List Change) : (s.withRaised x).returns = s.returns := rfl
@[simp] theorem withRaised_outputs (s : State) (x : List Change) : (s.withRaised x).outputs = s.outputs := rfl
@[simp] theorem withRaised_supervision (s : State) (x : List Change) : (s.withRaised x).supervision = s.supervision := rfl
@[simp] theorem withRaised_watches (s : State) (x : List Change) : (s.withRaised x).watches = s.watches := rfl
@[simp] theorem withRaised_history (s : State) (x : List Change) : (s.withRaised x).history = s.history := rfl
@[simp] theorem withRaised_management (s : State) (x : List Change) : (s.withRaised x).management = s.management := rfl
@[simp] theorem withRaised_raised (s : State) (x : List Change) : (s.withRaised x).raised = x := rfl
@[simp] theorem withRaised_freeIndex (s : State) (x : List Change) : (s.withRaised x).freeIndex = s.freeIndex := rfl
@[simp] theorem withRaised_pending (s : State) (x : List Change) : (s.withRaised x).pending = s.pending := rfl
@[simp] theorem withRaised_withRaised (s : State) (x y : List Change) : (s.withRaised x).withRaised y = s.withRaised y := rfl
@[simp] theorem withRaised_self (s : State) : s.withRaised s.raised = s := rfl

@[simp] theorem withFreeIndex_power (s : State) (x : Nat) : (s.withFreeIndex x).power = s.power := rfl
@[simp] theorem withFreeIndex_ownAddress (s : State) (x : Nat) : (s.withFreeIndex x).ownAddress = s.ownAddress := rfl
@[simp] theorem withFreeIndex_timeCount (s : State) (x : Nat) : (s.withFreeIndex x).timeCount = s.timeCount := rfl
@[simp] theorem withFreeIndex_ring (s : State) (x : Nat) : (s.withFreeIndex x).ring = s.ring := rfl
@[simp] theorem withFreeIndex_routes (s : State) (x : Nat) : (s.withFreeIndex x).routes = s.routes := rfl
@[simp] theorem withFreeIndex_points (s : State) (x : Nat) : (s.withFreeIndex x).points = s.points := rfl
@[simp] theorem withFreeIndex_plant (s : State) (x : Nat) : (s.withFreeIndex x).plant = s.plant := rfl
@[simp] theorem withFreeIndex_lanes (s : State) (x : Nat) : (s.withFreeIndex x).lanes = s.lanes := rfl
@[simp] theorem withFreeIndex_zones (s : State) (x : Nat) : (s.withFreeIndex x).zones = s.zones := rfl
@[simp] theorem withFreeIndex_allocator (s : State) (x : Nat) : (s.withFreeIndex x).allocator = s.allocator := rfl
@[simp] theorem withFreeIndex_blowers (s : State) (x : Nat) : (s.withFreeIndex x).blowers = s.blowers := rfl
@[simp] theorem withFreeIndex_returns (s : State) (x : Nat) : (s.withFreeIndex x).returns = s.returns := rfl
@[simp] theorem withFreeIndex_outputs (s : State) (x : Nat) : (s.withFreeIndex x).outputs = s.outputs := rfl
@[simp] theorem withFreeIndex_supervision (s : State) (x : Nat) : (s.withFreeIndex x).supervision = s.supervision := rfl
@[simp] theorem withFreeIndex_watches (s : State) (x : Nat) : (s.withFreeIndex x).watches = s.watches := rfl
@[simp] theorem withFreeIndex_history (s : State) (x : Nat) : (s.withFreeIndex x).history = s.history := rfl
@[simp] theorem withFreeIndex_management (s : State) (x : Nat) : (s.withFreeIndex x).management = s.management := rfl
@[simp] theorem withFreeIndex_raised (s : State) (x : Nat) : (s.withFreeIndex x).raised = s.raised := rfl
@[simp] theorem withFreeIndex_freeIndex (s : State) (x : Nat) : (s.withFreeIndex x).freeIndex = x := rfl
@[simp] theorem withFreeIndex_pending (s : State) (x : Nat) : (s.withFreeIndex x).pending = s.pending := rfl
@[simp] theorem withFreeIndex_withFreeIndex (s : State) (x y : Nat) : (s.withFreeIndex x).withFreeIndex y = s.withFreeIndex y := rfl
@[simp] theorem withFreeIndex_self (s : State) : s.withFreeIndex s.freeIndex = s := rfl

@[simp] theorem withPending_power (s : State) (x : List Instr) : (s.withPending x).power = s.power := rfl
@[simp] theorem withPending_ownAddress (s : State) (x : List Instr) : (s.withPending x).ownAddress = s.ownAddress := rfl
@[simp] theorem withPending_timeCount (s : State) (x : List Instr) : (s.withPending x).timeCount = s.timeCount := rfl
@[simp] theorem withPending_ring (s : State) (x : List Instr) : (s.withPending x).ring = s.ring := rfl
@[simp] theorem withPending_routes (s : State) (x : List Instr) : (s.withPending x).routes = s.routes := rfl
@[simp] theorem withPending_points (s : State) (x : List Instr) : (s.withPending x).points = s.points := rfl
@[simp] theorem withPending_plant (s : State) (x : List Instr) : (s.withPending x).plant = s.plant := rfl
@[simp] theorem withPending_lanes (s : State) (x : List Instr) : (s.withPending x).lanes = s.lanes := rfl
@[simp] theorem withPending_zones (s : State) (x : List Instr) : (s.withPending x).zones = s.zones := rfl
@[simp] theorem withPending_allocator (s : State) (x : List Instr) : (s.withPending x).allocator = s.allocator := rfl
@[simp] theorem withPending_blowers (s : State) (x : List Instr) : (s.withPending x).blowers = s.blowers := rfl
@[simp] theorem withPending_returns (s : State) (x : List Instr) : (s.withPending x).returns = s.returns := rfl
@[simp] theorem withPending_outputs (s : State) (x : List Instr) : (s.withPending x).outputs = s.outputs := rfl
@[simp] theorem withPending_supervision (s : State) (x : List Instr) : (s.withPending x).supervision = s.supervision := rfl
@[simp] theorem withPending_watches (s : State) (x : List Instr) : (s.withPending x).watches = s.watches := rfl
@[simp] theorem withPending_history (s : State) (x : List Instr) : (s.withPending x).history = s.history := rfl
@[simp] theorem withPending_management (s : State) (x : List Instr) : (s.withPending x).management = s.management := rfl
@[simp] theorem withPending_raised (s : State) (x : List Instr) : (s.withPending x).raised = s.raised := rfl
@[simp] theorem withPending_freeIndex (s : State) (x : List Instr) : (s.withPending x).freeIndex = s.freeIndex := rfl
@[simp] theorem withPending_pending (s : State) (x : List Instr) : (s.withPending x).pending = x := rfl
@[simp] theorem withPending_withPending (s : State) (x y : List Instr) : (s.withPending x).withPending y = s.withPending y := rfl
@[simp] theorem withPending_self (s : State) : s.withPending s.pending = s := rfl

end Sys2Proof.Machine.State
end

