-- ==== Sys2Proof/Laws/Footprint.lean ====
section
/-! SUPPORT. What each shared operation can change, said once: one lemma per operation names the parts of the state it may touch, and every other
part is as it was. -/
namespace Sys2Proof.Machine

/-- The parts of the state a footprint speaks of: the fields of `State`, with the ring interface in five parts. -/
inductive Part where
  | power | ownAddress | timeCount | received | passing | silence | silent | traffic | routes | points | plant | lanes | zones
  | allocator | blowers | returns | outputs | supervision | watches | history | management | raised | freeIndex | pending
deriving DecidableEq, Repr

/-- A part is the same in two states. -/
def Part.same (s t : State) : Part → Prop
  | .power => t.power = s.power
  | .ownAddress => t.ownAddress = s.ownAddress
  | .timeCount => t.timeCount = s.timeCount
  | .received => t.ring.received = s.ring.received
  | .passing => t.ring.passing = s.ring.passing ∧ t.ring.inPassage = s.ring.inPassage
  | .silence => t.ring.silence = s.ring.silence
  | .silent => t.ring.silent = s.ring.silent
  | .traffic => t.ring.forward = s.ring.forward ∧ t.ring.transmit = s.ring.transmit ∧ t.ring.line = s.ring.line ∧
      t.ring.runCount = s.ring.runCount ∧ t.ring.sequence = s.ring.sequence
  | .routes => t.routes = s.routes
  | .points => t.points = s.points
  | .plant => t.plant = s.plant
  | .lanes => t.lanes = s.lanes
  | .zones => t.zones = s.zones
  | .allocator => t.allocator = s.allocator
  | .blowers => t.blowers = s.blowers
  | .returns => t.returns = s.returns
  | .outputs => t.outputs = s.outputs
  | .supervision => t.supervision = s.supervision
  | .watches => t.watches = s.watches
  | .history => t.history = s.history
  | .management => t.management = s.management
  | .raised => t.raised = s.raised
  | .freeIndex => t.freeIndex = s.freeIndex
  | .pending => t.pending = s.pending

/-- The second state is the first but for the parts of a list. -/
def State.SameBut (c : List Part) (s t : State) : Prop := ∀ p, p ∉ c → p.same s t

namespace State.SameBut

variable {c d : List Part} {s t u : State}

theorem refl (c : List Part) (s : State) : SameBut c s s := by
  intro p _
  cases p <;> simp [Part.same]

theorem trans (h : SameBut c s t) (k : SameBut c t u) : SameBut c s u := by
  intro p hp
  have h1 := h p hp
  have h2 := k p hp
  cases p <;> simp only [Part.same] at h1 h2 ⊢ <;> first | exact h2.trans h1 | simp [h1, h2]

theorem mono (h : SameBut c s t) (k : ∀ p, p ∈ c → p ∈ d) : SameBut d s t := fun p hp => h p fun hc => hp (k p hc)

/-- A fold of an operation changes no more than the operation. -/
theorem each {α : Type} (f : α → State → State) (h : ∀ a s, SameBut c s (f a s)) (l : List α) (s : State) :
    SameBut c s (s.each l f) := by
  unfold State.each
  induction l generalizing s with
  | nil => exact refl c s
  | cons a l ih => exact (h a s).trans (ih (f a s))

end State.SameBut

namespace State

/-! ### Single replacements -/

theorem withRouteTable_but (s : State) (x) : SameBut [.routes] s (s.withRoutes x) := by
  intro p h; cases p <;> first | rfl | exact absurd (List.mem_singleton.2 rfl) h | exact ⟨rfl, rfl⟩ | exact ⟨rfl, rfl, rfl, rfl, rfl⟩
theorem withPointTable_but (s : State) (x) : SameBut [.points] s (s.withPoints x) := by
  intro p h; cases p <;> first | rfl | exact absurd (List.mem_singleton.2 rfl) h | exact ⟨rfl, rfl⟩ | exact ⟨rfl, rfl, rfl, rfl, rfl⟩
theorem withPlant_but (s : State) (x) : SameBut [.plant] s (s.withPlant x) := by
  intro p h; cases p <;> first | rfl | exact absurd (List.mem_singleton.2 rfl) h | exact ⟨rfl, rfl⟩ | exact ⟨rfl, rfl, rfl, rfl, rfl⟩
theorem withLanes_but (s : State) (x) : SameBut [.lanes] s (s.withLanes x) := by
  intro p h; cases p <;> first | rfl | exact absurd (List.mem_singleton.2 rfl) h | exact ⟨rfl, rfl⟩ | exact ⟨rfl, rfl, rfl, rfl, rfl⟩
theorem withZones_but (s : State) (x) : SameBut [.zones] s (s.withZones x) := by
  intro p h; cases p <;> first | rfl | exact absurd (List.mem_singleton.2 rfl) h | exact ⟨rfl, rfl⟩ | exact ⟨rfl, rfl, rfl, rfl, rfl⟩
theorem withAllocator_but (s : State) (x) : SameBut [.allocator] s (s.withAllocator x) := by
  intro p h; cases p <;> first | rfl | exact absurd (List.mem_singleton.2 rfl) h | exact ⟨rfl, rfl⟩ | exact ⟨rfl, rfl, rfl, rfl, rfl⟩
theorem withBlowers_but (s : State) (x) : SameBut [.blowers] s (s.withBlowers x) := by
  intro p h; cases p <;> first | rfl | exact absurd (List.mem_singleton.2 rfl) h | exact ⟨rfl, rfl⟩ | exact ⟨rfl, rfl, rfl, rfl, rfl⟩
theorem withReturns_but (s : State) (x) : SameBut [.returns] s (s.withReturns x) := by
  intro p h; cases p <;> first | rfl | exact absurd (List.mem_singleton.2 rfl) h | exact ⟨rfl, rfl⟩ | exact ⟨rfl, rfl, rfl, rfl, rfl⟩
theorem withOutputs_but (s : State) (x) : SameBut [.outputs] s (s.withOutputs x) := by
  intro p h; cases p <;> first | rfl | exact absurd (List.mem_singleton.2 rfl) h | exact ⟨rfl, rfl⟩ | exact ⟨rfl, rfl, rfl, rfl, rfl⟩
theorem withSupervision_but (s : State) (x) : SameBut [.supervision] s (s.withSupervision x) := by
  intro p h; cases p <;> first | rfl | exact absurd (List.mem_singleton.2 rfl) h | exact ⟨rfl, rfl⟩ | exact ⟨rfl, rfl, rfl, rfl, rfl⟩
theorem withWatches_but (s : State) (x) : SameBut [.watches] s (s.withWatches x) := by
  intro p h; cases p <;> first | rfl | exact absurd (List.mem_singleton.2 rfl) h | exact ⟨rfl, rfl⟩ | exact ⟨rfl, rfl, rfl, rfl, rfl⟩
theorem withHistory_but (s : State) (x) : SameBut [.history] s (s.withHistory x) := by
  intro p h; cases p <;> first | rfl | exact absurd (List.mem_singleton.2 rfl) h | exact ⟨rfl, rfl⟩ | exact ⟨rfl, rfl, rfl, rfl, rfl⟩
theorem withManagement_but (s : State) (x) : SameBut [.management] s (s.withManagement x) := by
  intro p h; cases p <;> first | rfl | exact absurd (List.mem_singleton.2 rfl) h | exact ⟨rfl, rfl⟩ | exact ⟨rfl, rfl, rfl, rfl, rfl⟩
theorem withRaised_but (s : State) (x) : SameBut [.raised] s (s.withRaised x) := by
  intro p h; cases p <;> first | rfl | exact absurd (List.mem_singleton.2 rfl) h | exact ⟨rfl, rfl⟩ | exact ⟨rfl, rfl, rfl, rfl, rfl⟩
theorem withFreeIndex_but (s : State) (x) : SameBut [.freeIndex] s (s.withFreeIndex x) := by
  intro p h; cases p <;> first | rfl | exact absurd (List.mem_singleton.2 rfl) h | exact ⟨rfl, rfl⟩ | exact ⟨rfl, rfl, rfl, rfl, rfl⟩

/-! ### Capture, raise, choose -/

theorem capture_but (s : State) (e : HistoryEvent) : SameBut [.history] s (s.capture e) := withHistory_but s _

theorem raise_but (s : State) (ch : Change) : SameBut [.raised] s (s.raise ch) := withRaised_but s _

theorem choose_but (s : State) (n : Nat) : SameBut [.freeIndex] s (s.choose n).2 := by
  unfold choose
  split
  · exact .refl _ s
  · exact withFreeIndex_but s _

theorem choose_lt (s : State) {n : Nat} (h : 0 < n) : (s.choose n).1 < n := by
  unfold choose
  split
  · exact h
  · exact Nat.mod_lt _ h

/-! ### Ring-out -/

theorem startNext_keeps (r : Ring) (own : Addr) :
    (r.startNext own).received = r.received ∧ ((r.startNext own).passing = r.passing ∧ (r.startNext own).inPassage = r.inPassage) ∧
      (r.startNext own).silence = r.silence ∧ (r.startNext own).silent = r.silent := by
  unfold Ring.startNext
  split <;> (try split) <;> simp

theorem arbitrate_keeps (r : Ring) (own : Addr) :
    (r.arbitrate own).received = r.received ∧ ((r.arbitrate own).passing = r.passing ∧ (r.arbitrate own).inPassage = r.inPassage) ∧
      (r.arbitrate own).silence = r.silence ∧ (r.arbitrate own).silent = r.silent := by
  unfold Ring.arbitrate
  split
  · exact startNext_keeps r own
  · simp

theorem withRing_traffic (s : State) (r : Ring) (h1 : r.received = s.ring.received) (h2 : r.passing = s.ring.passing ∧ r.inPassage = s.ring.inPassage)
    (h3 : r.silence = s.ring.silence) (h4 : r.silent = s.ring.silent) : SameBut [.traffic] s (s.withRing r) := by
  intro p h; cases p <;> first | rfl | exact h1 | exact h2 | exact h3 | exact h4 | exact absurd (List.mem_singleton.2 rfl) h

theorem enqueue_but (s : State) (q : Queued) : SameBut [.traffic, .raised] s (s.enqueue q).1 := by
  unfold enqueue
  split
  · obtain ⟨h1, h2, h3, h4⟩ := arbitrate_keeps { s.ring with transmit := s.ring.transmit ++ [q] } s.ownAddress
    exact (withRing_traffic s _ h1 h2 h3 h4).mono (by simp)
  · exact (raise_but s _).mono (by simp)

theorem send_but (s : State) (dst : Addr) (b : Body) : SameBut [.traffic, .raised] s (s.send dst b) := enqueue_but s _

theorem sendCommand_but (s : State) (o : OutputIdx) (v : Int) : SameBut [.traffic, .raised] s (s.sendCommand o v).1 := by
  unfold sendCommand
  dsimp only
  split
  · exact SameBut.mono (c := [.traffic]) (withRing_traffic s _ rfl ⟨rfl, rfl⟩ rfl rfl) (by simp)
  · exact enqueue_but s _

theorem forwardFrame_but (s : State) (f : Frame) : SameBut [.traffic, .raised] s (s.forwardFrame f) := by
  unfold forwardFrame
  split
  · obtain ⟨h1, h2, h3, h4⟩ := arbitrate_keeps { s.ring with forward := s.ring.forward ++ [f] } s.ownAddress
    exact (withRing_traffic s _ h1 h2 h3 h4).mono (by simp)
  · exact (raise_but s _).mono (by simp)

/-! ### Outputs -/

theorem setOutput_but (s : State) (o : OutputIdx) (r : Output) : SameBut [.outputs] s (s.setOutput o r) := withOutputs_but s _

theorem setZone_but (s : State) (z : ZoneIdx) (r : Zone) : SameBut [.zones] s (s.setZone z r) := withZones_but s _

theorem setLane_but (s : State) (k : LaneIdx) (r : Lane) : SameBut [.lanes] s (s.setLane k r) := withLanes_but s _

theorem setBlower_but (s : State) (b : BlowerIdx) (r : Blower) : SameBut [.blowers] s (s.setBlower b r) := withBlowers_but s _

theorem setWatch_but (s : State) (w : WatchIdx) (r : Watch) : SameBut [.watches] s (s.setWatch w r) := withWatches_but s _

theorem decideMode_but (z : ZoneIdx) (s : State) : SameBut [.zones, .history] s (s.decideMode z) := by
  unfold decideMode
  dsimp only
  split
  · exact .refl _ s
  · exact ((setZone_but s z _).mono (by simp)).trans ((capture_but _ _).mono (by simp))

theorem reportOutput_but (o : OutputIdx) (s : State) : SameBut [.zones, .history] s (s.reportOutput o) := by
  refine .each _ (fun z s => ?_) _ s
  split
  · exact decideMode_but z s
  · exact .refl _ s

theorem changeOutput_but (o : OutputIdx) (new : OutputState) (s : State) :
    SameBut [.outputs, .zones, .history] s (s.changeOutput o new) := by
  unfold changeOutput
  dsimp only
  split
  · exact .refl _ s
  · exact (((setOutput_but s o _).mono (by simp)).trans ((capture_but _ _).mono (by simp))).trans
      ((reportOutput_but o _).mono (by simp +contextual))

/-- What an offer, a resend and a trim can change. -/
abbrev offerParts : List Part := [.outputs, .traffic, .raised]

theorem sendValue_but (o : OutputIdx) (v : Int) (s : State) : SameBut offerParts s (s.sendValue o v) := by
  unfold sendValue
  exact (((setOutput_but s o _).mono (by simp)).trans ((sendCommand_but _ o v).mono (by simp +contextual))).trans
    ((setOutput_but _ o _).mono (by simp))

theorem offer_but (o : OutputIdx) (v : Int) (s : State) : SameBut offerParts s (s.offer o v) := by
  unfold offer
  dsimp only
  split
  · exact .refl _ s
  · split
    · exact .refl _ s
    · split
      · exact sendValue_but o _ s
      · exact .refl _ s

theorem offerTo_but (o : Option OutputIdx) (v : Int) (s : State) : SameBut offerParts s (s.offerTo o v) := by
  cases o
  · exact .refl _ s
  · exact offer_but _ v s

theorem forcedOffer_but (o : OutputIdx) (v : Int) (s : State) : SameBut offerParts s (s.forcedOffer o v) := by
  unfold forcedOffer
  dsimp only
  split
  · exact .refl _ s
  · split
    · exact .refl _ s
    · split
      · exact sendValue_but o _ s
      · exact .refl _ s

theorem resend_but (o : OutputIdx) (s : State) : SameBut offerParts s (s.resend o) := by
  unfold resend
  dsimp only
  split
  · exact sendValue_but o _ s
  · exact (setOutput_but s o _).mono (by simp)
  · exact (setOutput_but s o _).mono (by simp)

theorem tripOutputs_but (k : LaneIdx) (s : State) :
    SameBut [.outputs, .zones, .history, .traffic, .raised] s (s.tripOutputs k) := by
  refine .each _ (fun o s => ?_) _ s
  exact ((changeOutput_but o .auto s).mono (by simp +contextual)).trans ((forcedOffer_but o _ _).mono (by simp +contextual))

theorem offlineOutputs_but (k : LaneIdx) (s : State) : SameBut offerParts s (s.offlineOutputs k) :=
  .each _ (fun o s => forcedOffer_but o _ s) _ s

theorem noteValue_but (o : OutputIdx) (v : Int) (s : State) : SameBut [.outputs, .traffic] s (s.noteValue o v) := by
  unfold noteValue
  dsimp only
  split
  · exact ((setOutput_but s o _).mono (by simp)).trans (SameBut.mono (c := [.traffic]) (withRing_traffic _ _ rfl ⟨rfl, rfl⟩ rfl rfl) (by simp))
  · exact (setOutput_but s o _).mono (by simp)

theorem guardItem_but (dst src : Addr) (item : CommandItem) (s : State) :
    SameBut [.outputs, .zones, .history, .traffic] s (s.guardItem dst src item).1 := by
  unfold guardItem
  split
  · exact .refl _ s
  · next o _ =>
    dsimp only
    split
    · exact (noteValue_but o _ s).mono (by simp +contextual)
    · split
      · exact .refl _ s
      · split
        · exact ((noteValue_but o _ s).mono (by simp +contextual)).trans ((changeOutput_but o _ _).mono (by simp +contextual))
        · exact (noteValue_but o _ s).mono (by simp +contextual)

/-! ### Zones -/

theorem trimValve_but (z : ZoneIdx) (s : State) : SameBut offerParts s (s.trimValve z) := by
  unfold trimValve
  dsimp only
  split
  · exact .refl _ s
  · exact offer_but _ _ s

/-- What a zone's computation can change. -/
abbrev zoneParts : List Part := [.zones, .history, .outputs, .traffic, .raised]

theorem computeZone_but (period : Nat) (z : ZoneIdx) (s : State) : SameBut zoneParts s (s.computeZone period z) := by
  have set : ∀ (s : State) (zn : Zone), SameBut zoneParts s (s.setZone z zn) := fun s zn =>
    (setZone_but s z zn).mono (by simp)
  have trim : ∀ s : State, SameBut zoneParts s (s.trimValve z) := fun s => (trimValve_but z s).mono (by simp +contextual)
  unfold computeZone
  split
  · exact .refl _ s
  · refine ((decideMode_but z s).mono (by simp +contextual)).trans ?_
    generalize s.decideMode z = u
    unfold computeBranch
    dsimp only
    split
    · exact set u _
    · split
      · exact set u _
      · exact (set u _).trans (trim _)
      · split
        · exact (set u _).trans (trim _)
        · exact (set u _).trans (trim _)

theorem computeZones_but (k : LaneIdx) (period : Nat) (s : State) : SameBut zoneParts s (s.computeZones k period) :=
  .each _ (fun z s => computeZone_but period z s) _ s

theorem eachWorking_but (k : LaneIdx) (f : Zone → Zone) (s : State) : SameBut [.zones] s (s.eachWorking k f) := by
  refine .each _ (fun z s => ?_) _ s
  split
  · exact .refl _ s
  · exact setZone_but s z _

theorem phaseChange_but (k : LaneIdx) (p : Phase) (s : State) : SameBut [.zones] s (s.phaseChange k p) := by
  refine .each _ (fun z s => ?_) _ s
  split
  · exact setZone_but s z _
  · exact .refl _ s

theorem endCycle_but (k : LaneIdx) (s : State) : SameBut [.zones] s (s.endCycle k) := by
  refine .each _ (fun z s => ?_) _ s
  split
  · exact setZone_but s z _
  · exact .refl _ s

theorem offlineZones_but (k : LaneIdx) (s : State) : SameBut [.zones] s (s.offlineZones k) :=
  .each _ (fun z s => setZone_but s z _) _ s

/-! ### Allocation -/

theorem changeBlower_but (b : BlowerIdx) (new : BlowerState) (s : State) : SameBut [.blowers, .history] s (s.changeBlower b new) :=
  ((setBlower_but s b _).mono (by simp)).trans ((capture_but _ _).mono (by simp))

/-- What a review, a start or a stop of a blower can change, besides the allocator's counts. -/
abbrev blowerParts : List Part := [.blowers, .history, .outputs, .traffic, .raised]

theorem failStart_but (b : BlowerIdx) (s : State) : SameBut blowerParts s (s.failStart b) :=
  (((changeBlower_but b _ s).mono (by simp +contextual)).trans ((offerTo_but _ _ _).mono (by simp +contextual))).trans
    ((raise_but _ _).mono (by simp))

theorem review_but (b : BlowerIdx) (r : DriveReading) (s : State) : SameBut blowerParts s (s.review b r) := by
  have change : ∀ new, SameBut blowerParts s (s.changeBlower b new) := fun new =>
    (changeBlower_but b new s).mono (by simp +contextual)
  have offered : ∀ (o : Option OutputIdx) (v : Int) (t : State), SameBut blowerParts s t → SameBut blowerParts s (t.offerTo o v) :=
    fun o v t h => h.trans ((offerTo_but o v t).mono (by simp +contextual))
  have raised : ∀ (ch : Change) (t : State), SameBut blowerParts s t → SameBut blowerParts s (t.raise ch) :=
    fun ch t h => h.trans ((raise_but t ch).mono (by simp))
  have adopt : SameBut blowerParts s (s.adopt b r) := by unfold State.adopt; cases r <;> exact change _
  unfold review
  split <;> first
    | exact .refl _ s
    | exact adopt
    | exact change _
    | exact failStart_but b s
    | exact raised _ _ (offered _ _ _ (offered _ _ _ (change _)))
    | exact raised _ _ (offered _ _ _ (change _))

theorem reviewBlower_but (b : BlowerIdx) (s : State) : SameBut blowerParts s (s.reviewBlower b) := by
  unfold reviewBlower
  split
  · exact .refl _ s
  · exact review_but b _ s

theorem setCounts_but (up down : Nat) (s : State) : SameBut [.allocator] s (s.setCounts up down) := withAllocator_but s _

/-- What an allocation can change. -/
abbrev allocationParts : List Part := [.allocator, .zones, .blowers, .history, .outputs, .traffic, .raised]

theorem stage_but (D C : Nat) (s : State) : SameBut allocationParts s (s.stage D C) := by
  have stop : ∀ b, SameBut allocationParts s (s.stopBlower b) := fun b =>
    (((changeBlower_but b _ s).mono (by simp +contextual)).trans ((offerTo_but _ _ _).mono (by simp +contextual))).trans
      ((setCounts_but 0 0 _).mono (by simp))
  have start : ∀ b, SameBut allocationParts s (s.startBlower b) := fun b =>
    ((((changeBlower_but b _ s).mono (by simp +contextual)).trans ((offerTo_but _ _ _).mono (by simp +contextual))).trans
      ((offerTo_but _ _ _).mono (by simp +contextual))).trans ((setCounts_but 0 0 _).mono (by simp))
  have counts : ∀ up down, SameBut allocationParts s (s.setCounts up down) := fun up down =>
    (setCounts_but up down s).mono (by simp)
  unfold stage
  split
  · exact .refl _ s
  · split
    · exact stop _
    · split
      · exact start _
      · unfold stageDown
        split
        · exact counts _ _
        · dsimp only
          split
          · exact stop _
          · exact counts _ _

theorem setLevel_short_but (c : Level) (b : Bool) (s : State) (h : c = .airShort ∨ c = .floorShort) :
    SameBut [.allocator, .history, .raised] s (s.setLevel c b) := by
  unfold setLevel
  split
  · exact .refl _ s
  · refine (SameBut.trans ?_ ((capture_but _ _).mono (by simp))).trans ((raise_but _ _).mono (by simp))
    rcases h with rfl | rfl <;> exact (withAllocator_but s _).mono (by simp)

theorem allocate_but (s : State) : SameBut allocationParts s s.allocate := by
  unfold allocate
  dsimp only
  refine SameBut.trans ?_ (stage_but _ _ _)
  refine SameBut.trans ?_ (.each _ (fun b u => (offerTo_but _ _ u).mono (by simp +contextual)) _ _)
  refine SameBut.trans ?_ ((setLevel_short_but .floorShort _ _ (.inr rfl)).mono (by simp +contextual))
  refine SameBut.trans ?_ ((setLevel_short_but .airShort _ _ (.inl rfl)).mono (by simp +contextual))
  refine SameBut.trans ?_ ((withAllocator_but _ _).mono (by simp))
  refine SameBut.trans ?_ (.each _ (fun z u => (setZone_but u z _).mono (by simp)) _ _)
  refine SameBut.trans (t := s.restartAllocation) ((withAllocator_but s _).mono (by simp)) ?_
  exact .each _ (fun b u => (reviewBlower_but b u).mono (by simp +contextual)) _ _

/-! ### Lanes -/

theorem changeRegime_but (k : LaneIdx) (new : LaneState) (s : State) :
    SameBut [.lanes, .zones, .history] s (s.changeRegime k new) := by
  unfold changeRegime
  dsimp only
  split
  · exact (((endCycle_but k s).mono (by simp)).trans ((setLane_but _ k _).mono (by simp))).trans
      ((capture_but _ _).mono (by simp))
  · exact ((setLane_but s k _).mono (by simp)).trans ((capture_but _ _).mono (by simp))

/-- What a trip can change. -/
abbrev tripParts : List Part := [.lanes, .zones, .history, .outputs, .traffic, .raised]

theorem tripLane_but (k : LaneIdx) (cause : WatchIdx) (s : State) : SameBut tripParts s (s.tripLane k cause) :=
  ((((capture_but s _).mono (by simp)).trans ((changeRegime_but k _ _).mono (by simp +contextual))).trans
    ((eachWorking_but k _ _).mono (by simp))).trans ((tripOutputs_but k _).mono (by simp +contextual))

theorem tripIfWorking_but (k : LaneIdx) (cause : WatchIdx) (s : State) : SameBut tripParts s (s.tripIfWorking k cause) := by
  unfold tripIfWorking
  split
  · exact tripLane_but k cause s
  · exact .refl _ s

theorem tripRequest_but (k : LaneIdx) (cause : WatchIdx) (s : State) : SameBut tripParts s (s.tripRequest k cause) := by
  unfold tripRequest
  dsimp only
  split
  · refine (tripIfWorking_but k cause s).trans (.each _ (fun j u => ?_) _ _)
    split
    · exact tripIfWorking_but j cause u
    · exact .refl _ u
  · exact tripIfWorking_but k cause s

theorem changeStorm_but (active : Bool) (s : State) :
    SameBut [.plant, .lanes, .zones, .history, .raised] s (s.changeStorm active) := by
  unfold changeStorm
  dsimp only
  refine SameBut.trans (SameBut.trans ?_ (.each _ (fun k u => ?_) _ _)) ((raise_but _ _).mono (by simp))
  · exact ((withPlant_but s _).mono (by simp)).trans ((capture_but _ _).mono (by simp))
  · split
    · exact (changeRegime_but k _ u).mono (by simp +contextual)
    · exact .refl _ u

/-! ### The watch unit -/

/-- What a firing, an evaluation and the watch unit's round can change. -/
abbrev watchParts : List Part :=
  [.watches, .lanes, .zones, .allocator, .blowers, .history, .outputs, .traffic, .raised, .freeIndex]

theorem fire_but (w : WatchIdx) (value : Int) (s : State) : SameBut watchParts s (s.fire w value) := by
  have link : ∀ u : State, SameBut watchParts u (u.armLinked w) := fun u => (withWatches_but u _).mono (by simp)
  have freeze : ∀ (c : WatchConfig) (u : State), SameBut watchParts u (u.actFreeze c) := by
    intro c u
    unfold actFreeze
    split
    · exact (withHistory_but u _).mono (by simp)
    · exact .refl _ u
  have alloc : ∀ u : State, SameBut watchParts u u.allocate := fun u => (allocate_but u).mono (by simp +contextual)
  have notice : ∀ (c : WatchConfig) (u : State), SameBut watchParts u (u.actNotice w c value) := by
    intro c u
    unfold actNotice
    split
    · unfold sendNotice
      dsimp only
      split
      · exact .refl _ u
      · exact (send_but u _ _).mono (by simp +contextual)
    · exact .refl _ u
  have trip : ∀ (c : WatchConfig) (u : State), SameBut watchParts u (u.actTrip w c) := by
    intro c u
    unfold actTrip
    split
    · exact (tripRequest_but _ w u).mono (by simp +contextual)
    · exact .refl _ u
  have last : ∀ (c : WatchConfig) (u : State), SameBut watchParts u (u.actWakeAndFreeze w c) := by
    intro c u
    unfold actWakeAndFreeze
    dsimp only
    split
    · have wake : SameBut watchParts u (u.changeRegime c.targetLane .normal) :=
        (changeRegime_but _ _ u).mono (by simp +contextual)
      have pick : ∀ v : State, SameBut watchParts v (if c.doesFreeze then v.choose 2 else (0, v)).2 := by
        intro v
        split
        · exact (choose_but v 2).mono (by simp)
        · exact .refl _ v
      replace pick := wake.trans (pick _)
      generalize (if c.doesFreeze then (u.changeRegime c.targetLane .normal).choose 2
        else (0, u.changeRegime c.targetLane .normal)) = picked at pick
      split
      · exact (pick.trans (alloc _)).trans ((link _).trans (freeze c _))
      · exact (pick.trans (link _)).trans ((freeze c _).trans (alloc _))
    · exact (link u).trans (freeze c _)
  unfold fire
  dsimp only
  refine SameBut.trans (SameBut.trans (SameBut.trans ?_ (notice _ _)) (trip _ _)) (last _ _)
  exact ((setWatch_but s w _).mono (by simp)).trans ((capture_but _ _).mono (by simp))

theorem evaluateWatch_but (ch : Change) (w : WatchIdx) (s : State) : SameBut watchParts s (s.evaluateWatch ch w) := by
  have set : ∀ (u : State) (x : Watch), SameBut watchParts u (u.setWatch w x) := fun u x => (setWatch_but u w x).mono (by simp)
  unfold evaluateWatch
  dsimp only
  split
  · exact .refl _ s
  · split
    · exact .refl _ s
    · split
      · next truth _ _ _ =>
        refine SameBut.trans (set s { s.watches.get w with truth := truth }) ?_
        unfold count
        dsimp only
        split
        · split
          · exact fire_but w _ _
          · exact set _ _
        · exact set _ _
      · exact set s _

theorem evaluate_but (ch : Change) (s : State) : SameBut watchParts s (s.evaluate ch) :=
  .each _ (fun w u => evaluateWatch_but ch w u) _ s

theorem drainRounds_but (n : Nat) (s : State) : SameBut watchParts s (s.drainRounds n) := by
  induction n generalizing s with
  | zero => exact .refl _ s
  | succ n ih =>
    unfold drainRounds
    split
    · exact .refl _ s
    · refine SameBut.trans (SameBut.trans ((withRaised_but s []).mono (by simp)) ?_) (ih _)
      exact .each _ (fun ch u => evaluate_but ch u) _ _

theorem drain_but (s : State) : SameBut watchParts s s.drain := drainRounds_but 33 s

/-- With no arrival waiting the watch unit does nothing. -/
theorem drain_of_raised_nil {s : State} (h : s.raised = []) : s.drain = s := by
  unfold drain drainRounds
  split
  · rfl
  · next h' => exact absurd h h'

/-! ### Update events -/

/-- What an update event of a point can change. -/
abbrev updateParts : List Part := .plant :: watchParts

theorem wakeLane_but (k : LaneIdx) (s : State) : SameBut watchParts s (s.wakeLane k) :=
  (((changeRegime_but k _ s).mono (by simp +contextual)).trans ((allocate_but _).mono (by simp +contextual))).trans (drain_but _)

theorem takeUpdate_but (p : PointIdx) (d : Dependant) (s : State) : SameBut updateParts s (s.takeUpdate p d) := by
  have lift : ∀ {a b : State}, SameBut watchParts a b → SameBut updateParts a b := fun h => h.mono fun q hq => List.mem_cons_of_mem _ hq
  have plant : ∀ (u : State) (x : Plant), SameBut updateParts u (u.withPlant x) := fun u x => (withPlant_but u x).mono (by simp)
  have storm : ∀ v, SameBut updateParts s (s.detectStorm v) := by
    intro v
    unfold detectStorm
    dsimp only
    split
    · split
      · split
        · exact plant s _
        · exact .refl _ s
      · exact plant s _
    · split
      · exact ((changeStorm_but true s).mono (by simp +contextual)).trans (lift (drain_but _))
      · exact .refl _ s
  have wakes : ∀ (test : LaneIdx → State → Prop) [∀ k s, Decidable (test k s)],
      SameBut updateParts s (s.each (indices 8) fun k u => if test k u then u.wakeLane k else u) := by
    intro test _
    refine .each _ (fun k u => ?_) _ s
    split
    · exact lift (wakeLane_but k u)
    · exact .refl _ u
  unfold takeUpdate
  dsimp only
  split
  · exact (lift (evaluate_but _ s)).trans (lift (drain_but _))
  · exact storm _
  · exact wakes _
  · exact wakes _
  · exact .refl _ s
  · exact .refl _ s
  · exact .refl _ s

theorem takeUpdates_but (p : PointIdx) (n : Nat) (ds : List Dependant) (s : State) :
    SameBut updateParts s (s.takeUpdates p n ds) := by
  induction n generalizing ds s with
  | zero => exact .refl _ s
  | succ n ih =>
    unfold takeUpdates
    dsimp only
    split
    · exact .refl _ s
    · exact (((choose_but s _).mono (by simp)).trans (takeUpdate_but p _ _)).trans (ih _ _)

theorem updateEvent_but (p : PointIdx) (s : State) : SameBut updateParts s (s.updateEvent p) := takeUpdates_but p _ _ s

/-! ### The bypass -/

theorem passThrough_but (bytes : List Byte) (s : State) : SameBut [.passing] s (s.passThrough bytes) := by
  intro p h; cases p <;> first | rfl | exact absurd (List.mem_singleton.2 rfl) h | exact ⟨rfl, rfl⟩ | exact ⟨rfl, rfl, rfl, rfl, rfl⟩

theorem passBroken_but (bytes : List Byte) (s : State) : SameBut [.passing] s (s.passBroken bytes) := by
  intro p h; cases p <;> first | rfl | exact absurd (List.mem_singleton.2 rfl) h | exact ⟨rfl, rfl, rfl, rfl, rfl⟩

/-- BYPASS_END in the middle of a frame in passage leaves the bypass in force (R2). -/
theorem endBypass_of_inPassage (s : State) (h : s.ring.inPassage ≠ []) : s.endBypass = s := by
  unfold endBypass
  split <;> simp [h]

end State

end Sys2Proof.Machine
end

