-- ==== Sys2Proof/Laws/PerInstr.lean ====
section
/-! SUPPORT. A statement about every command as syntax, one lemma for each constructor. -/
namespace Sys2Proof.Laws

open Sys2Proof.Machine

/-- A well-formed request fits one MGMT_REQUEST frame: its code, its tag and its argument bytes take at most 48 payload bytes (R3). -/
def PayloadFits.Statement (i : Instr) : Prop :=
  ∀ src tag code args, Request.parts i = some (src, tag, code, args) → i.wf = true → 2 + args.length ≤ 48

theorem bytes32_length (w : Word32) : (bytes32 w).length = 4 := rfl

theorem carried_length (vs : List Word32) : (vs.flatMap bytes32).length = 4 * vs.length := by
  induction vs with
  | nil => rfl
  | cons v vs ih => simp only [List.flatMap_cons, List.length_append, bytes32_length, ih, List.length_cons]; omega

/-- The argument bytes of a write: table, index, first field and count, then four for each value (R181). -/
theorem write_arguments_fit {vs : List Word32} (head : List Byte) (four : head.length = 4) (h : valuesFit vs = true) :
    2 + (head ++ vs.flatMap bytes32).length ≤ 48 := by
  have h := of_decide_eq_true h
  simp only [maxArgumentBytes] at h
  rw [List.length_append, carried_length, four]
  omega

theorem PayloadFits.resetAssert : PayloadFits.Statement .resetAssert := by
  intro _ _ _ _ h; cases h

theorem PayloadFits.startUp (straps : BitVec 8) : PayloadFits.Statement (.startUp straps) := by
  intro _ _ _ _ h; cases h

theorem PayloadFits.bypassEnd : PayloadFits.Statement .bypassEnd := by
  intro _ _ _ _ h; cases h

theorem PayloadFits.frameArrival (bytes : List Byte) : PayloadFits.Statement (.frameArrival bytes) := by
  intro _ _ _ _ h; cases h

theorem PayloadFits.frameSent : PayloadFits.Statement .frameSent := by
  intro _ _ _ _ h; cases h

theorem PayloadFits.ringSilenceExpiry : PayloadFits.Statement .ringSilenceExpiry := by
  intro _ _ _ _ h; cases h

theorem PayloadFits.ageExpiry (point : PointIdx) : PayloadFits.Statement (.ageExpiry point) := by
  intro _ _ _ _ h; cases h

theorem PayloadFits.exitHoldExpiry : PayloadFits.Statement .exitHoldExpiry := by
  intro _ _ _ _ h; cases h

theorem PayloadFits.lanePeriodExpiry (lane : LaneIdx) : PayloadFits.Statement (.lanePeriodExpiry lane) := by
  intro _ _ _ _ h; cases h

theorem PayloadFits.phaseExpiry (lane : LaneIdx) : PayloadFits.Statement (.phaseExpiry lane) := by
  intro _ _ _ _ h; cases h

theorem PayloadFits.allocationExpiry : PayloadFits.Statement .allocationExpiry := by
  intro _ _ _ _ h; cases h

theorem PayloadFits.warmUpExpiry (blower : BlowerIdx) : PayloadFits.Statement (.warmUpExpiry blower) := by
  intro _ _ _ _ h; cases h

theorem PayloadFits.startTimeoutExpiry (blower : BlowerIdx) : PayloadFits.Statement (.startTimeoutExpiry blower) := by
  intro _ _ _ _ h; cases h

theorem PayloadFits.rundownExpiry (blower : BlowerIdx) : PayloadFits.Statement (.rundownExpiry blower) := by
  intro _ _ _ _ h; cases h

theorem PayloadFits.pacingExpiry (line : LineIdx) : PayloadFits.Statement (.pacingExpiry line) := by
  intro _ _ _ _ h; cases h

theorem PayloadFits.resendExpiry (output : OutputIdx) : PayloadFits.Statement (.resendExpiry output) := by
  intro _ _ _ _ h; cases h

theorem PayloadFits.countdownExpiry : PayloadFits.Statement .countdownExpiry := by
  intro _ _ _ _ h; cases h

theorem PayloadFits.holdExpiry (watch : WatchIdx) : PayloadFits.Statement (.holdExpiry watch) := by
  intro _ _ _ _ h; cases h

theorem PayloadFits.commitCompletion (success : Bool) : PayloadFits.Statement (.commitCompletion success) := by
  intro _ _ _ _ h; cases h

theorem PayloadFits.badRequest (source : Addr) (tag code : Byte) (args : List Byte) : PayloadFits.Statement (.badRequest source tag code args) := by
  intro _ _ _ _ h wf
  have wf := of_decide_eq_true wf
  simp only [maxArgumentBytes] at wf
  simp only [Request.parts, Option.some.injEq, Prod.mk.injEq] at h
  obtain ⟨-, -, -, rfl⟩ := h
  omega

theorem PayloadFits.readFields (source : Addr) (tag table index first count : Byte) : PayloadFits.Statement (.readFields source tag table index first count) := by
  intro _ _ _ _ h _
  simp only [Request.parts, Option.some.injEq, Prod.mk.injEq] at h
  obtain ⟨-, -, -, rfl⟩ := h
  exact (by decide : 2 + 4 ≤ 48)

theorem PayloadFits.writeFieldsRoute (source : Addr) (tag index first : Byte) (values : List Word32) : PayloadFits.Statement (.writeFieldsRoute source tag index first values) := by
  intro _ _ _ _ h wf
  simp only [Request.parts, Option.some.injEq, Prod.mk.injEq] at h
  obtain ⟨-, -, -, rfl⟩ := h
  exact write_arguments_fit [_, _, _, _] rfl wf

theorem PayloadFits.writeFieldsPoint (source : Addr) (tag index first : Byte) (values : List Word32) : PayloadFits.Statement (.writeFieldsPoint source tag index first values) := by
  intro _ _ _ _ h wf
  simp only [Request.parts, Option.some.injEq, Prod.mk.injEq] at h
  obtain ⟨-, -, -, rfl⟩ := h
  exact write_arguments_fit [_, _, _, _] rfl wf

theorem PayloadFits.writeFieldsOutput (source : Addr) (tag index first : Byte) (values : List Word32) : PayloadFits.Statement (.writeFieldsOutput source tag index first values) := by
  intro _ _ _ _ h wf
  simp only [Request.parts, Option.some.injEq, Prod.mk.injEq] at h
  obtain ⟨-, -, -, rfl⟩ := h
  exact write_arguments_fit [_, _, _, _] rfl wf

theorem PayloadFits.writeFieldsLane (source : Addr) (tag index first : Byte) (values : List Word32) : PayloadFits.Statement (.writeFieldsLane source tag index first values) := by
  intro _ _ _ _ h wf
  simp only [Request.parts, Option.some.injEq, Prod.mk.injEq] at h
  obtain ⟨-, -, -, rfl⟩ := h
  exact write_arguments_fit [_, _, _, _] rfl wf

theorem PayloadFits.writeFieldsZone (source : Addr) (tag index first : Byte) (values : List Word32) : PayloadFits.Statement (.writeFieldsZone source tag index first values) := by
  intro _ _ _ _ h wf
  simp only [Request.parts, Option.some.injEq, Prod.mk.injEq] at h
  obtain ⟨-, -, -, rfl⟩ := h
  exact write_arguments_fit [_, _, _, _] rfl wf

theorem PayloadFits.writeFieldsBlower (source : Addr) (tag index first : Byte) (values : List Word32) : PayloadFits.Statement (.writeFieldsBlower source tag index first values) := by
  intro _ _ _ _ h wf
  simp only [Request.parts, Option.some.injEq, Prod.mk.injEq] at h
  obtain ⟨-, -, -, rfl⟩ := h
  exact write_arguments_fit [_, _, _, _] rfl wf

theorem PayloadFits.writeFieldsReturn (source : Addr) (tag index first : Byte) (values : List Word32) : PayloadFits.Statement (.writeFieldsReturn source tag index first values) := by
  intro _ _ _ _ h wf
  simp only [Request.parts, Option.some.injEq, Prod.mk.injEq] at h
  obtain ⟨-, -, -, rfl⟩ := h
  exact write_arguments_fit [_, _, _, _] rfl wf

theorem PayloadFits.writeFieldsWatch (source : Addr) (tag index first : Byte) (values : List Word32) : PayloadFits.Statement (.writeFieldsWatch source tag index first values) := by
  intro _ _ _ _ h wf
  simp only [Request.parts, Option.some.injEq, Prod.mk.injEq] at h
  obtain ⟨-, -, -, rfl⟩ := h
  exact write_arguments_fit [_, _, _, _] rfl wf

theorem PayloadFits.writeFieldsPlant (source : Addr) (tag index first : Byte) (values : List Word32) : PayloadFits.Statement (.writeFieldsPlant source tag index first values) := by
  intro _ _ _ _ h wf
  simp only [Request.parts, Option.some.injEq, Prod.mk.injEq] at h
  obtain ⟨-, -, -, rfl⟩ := h
  exact write_arguments_fit [_, _, _, _] rfl wf

theorem PayloadFits.writeFieldsAllocator (source : Addr) (tag index first : Byte) (values : List Word32) : PayloadFits.Statement (.writeFieldsAllocator source tag index first values) := by
  intro _ _ _ _ h wf
  simp only [Request.parts, Option.some.injEq, Prod.mk.injEq] at h
  obtain ⟨-, -, -, rfl⟩ := h
  exact write_arguments_fit [_, _, _, _] rfl wf

theorem PayloadFits.readStatus (source : Addr) (tag : Byte) : PayloadFits.Statement (.readStatus source tag) := by
  intro _ _ _ _ h _
  simp only [Request.parts, Option.some.injEq, Prod.mk.injEq] at h
  obtain ⟨-, -, -, rfl⟩ := h
  decide

theorem PayloadFits.commitStore (source : Addr) (tag : Byte) : PayloadFits.Statement (.commitStore source tag) := by
  intro _ _ _ _ h _
  simp only [Request.parts, Option.some.injEq, Prod.mk.injEq] at h
  obtain ⟨-, -, -, rfl⟩ := h
  decide

theorem PayloadFits.restart (source : Addr) (tag : Byte) : PayloadFits.Statement (.restart source tag) := by
  intro _ _ _ _ h _
  simp only [Request.parts, Option.some.injEq, Prod.mk.injEq] at h
  obtain ⟨-, -, -, rfl⟩ := h
  decide

theorem PayloadFits.lockRoute (source : Addr) (tag entry : Byte) : PayloadFits.Statement (.lockRoute source tag entry) := by
  intro _ _ _ _ h _
  simp only [Request.parts, Option.some.injEq, Prod.mk.injEq] at h
  obtain ⟨-, -, -, rfl⟩ := h
  exact (by decide : 2 + 1 ≤ 48)

theorem PayloadFits.forcePoint (source : Addr) (tag point : Byte) (value : Word32) : PayloadFits.Statement (.forcePoint source tag point value) := by
  intro _ _ _ _ h _
  simp only [Request.parts, Option.some.injEq, Prod.mk.injEq] at h
  obtain ⟨-, -, -, rfl⟩ := h
  exact (by decide : 2 + 5 ≤ 48)

theorem PayloadFits.releasePoint (source : Addr) (tag point : Byte) : PayloadFits.Statement (.releasePoint source tag point) := by
  intro _ _ _ _ h _
  simp only [Request.parts, Option.some.injEq, Prod.mk.injEq] at h
  obtain ⟨-, -, -, rfl⟩ := h
  exact (by decide : 2 + 1 ≤ 48)

theorem PayloadFits.setRegime (source : Addr) (tag lane regime : Byte) : PayloadFits.Statement (.setRegime source tag lane regime) := by
  intro _ _ _ _ h _
  simp only [Request.parts, Option.some.injEq, Prod.mk.injEq] at h
  obtain ⟨-, -, -, rfl⟩ := h
  exact (by decide : 2 + 2 ≤ 48)

theorem PayloadFits.restoreLane (source : Addr) (tag lane : Byte) : PayloadFits.Statement (.restoreLane source tag lane) := by
  intro _ _ _ _ h _
  simp only [Request.parts, Option.some.injEq, Prod.mk.injEq] at h
  obtain ⟨-, -, -, rfl⟩ := h
  exact (by decide : 2 + 1 ≤ 48)

theorem PayloadFits.acknowledge (source : Addr) (tag watch : Byte) : PayloadFits.Statement (.acknowledge source tag watch) := by
  intro _ _ _ _ h _
  simp only [Request.parts, Option.some.injEq, Prod.mk.injEq] at h
  obtain ⟨-, -, -, rfl⟩ := h
  exact (by decide : 2 + 1 ≤ 48)

theorem PayloadFits.releaseOutput (source : Addr) (tag output : Byte) : PayloadFits.Statement (.releaseOutput source tag output) := by
  intro _ _ _ _ h _
  simp only [Request.parts, Option.some.injEq, Prod.mk.injEq] at h
  obtain ⟨-, -, -, rfl⟩ := h
  exact (by decide : 2 + 1 ≤ 48)

theorem PayloadFits.refresh (source : Addr) (tag seconds : Byte) : PayloadFits.Statement (.refresh source tag seconds) := by
  intro _ _ _ _ h _
  simp only [Request.parts, Option.some.injEq, Prod.mk.injEq] at h
  obtain ⟨-, -, -, rfl⟩ := h
  exact (by decide : 2 + 1 ≤ 48)

theorem PayloadFits.readHistory (source : Addr) (tag count : Byte) : PayloadFits.Statement (.readHistory source tag count) := by
  intro _ _ _ _ h _
  simp only [Request.parts, Option.some.injEq, Prod.mk.injEq] at h
  obtain ⟨-, -, -, rfl⟩ := h
  exact (by decide : 2 + 1 ≤ 48)

theorem PayloadFits.resumeCapture (source : Addr) (tag : Byte) : PayloadFits.Statement (.resumeCapture source tag) := by
  intro _ _ _ _ h _
  simp only [Request.parts, Option.some.injEq, Prod.mk.injEq] at h
  obtain ⟨-, -, -, rfl⟩ := h
  decide

theorem PayloadFits.ringInIdleInFrame (bytes : List Byte) : PayloadFits.Statement (.ringInIdleInFrame bytes) := by
  intro _ _ _ _ h; cases h

end Sys2Proof.Laws
end

