-- ==== Sys2Proof/Laws/Table.lean ====
section
/-! SUPPORT. The laws of record tables: a read after a write, a map and a build, and equality record by record. -/
namespace Sys2Proof

namespace Table

variable {n : Nat} {α β : Type}

theorem ext_rows {t u : Table n α} (h : t.rows = u.rows) : t = u := by
  cases t; cases u; cases h; rfl

theorem get_eq (t : Table n α) (i : Fin n) : t.get i = t.rows[i.val]'(by rw [t.size]; exact i.isLt) := rfl

theorem ext_get {t u : Table n α} (h : ∀ i, t.get i = u.get i) : t = u := by
  apply ext_rows
  apply List.ext_getElem
  · rw [t.size, u.size]
  · intro i h1 _
    have := h ⟨i, by rw [t.size] at h1; exact h1⟩
    simpa [get_eq] using this

@[simp] theorem get_set_self (t : Table n α) (i : Fin n) (a : α) : (t.set i a).get i = a := by
  simp [get_eq, set]

theorem get_set (t : Table n α) (i j : Fin n) (a : α) : (t.set i a).get j = if i = j then a else t.get j := by
  simp [get_eq, set, List.getElem_set, Fin.ext_iff]

@[simp] theorem get_set_other (t : Table n α) {i j : Fin n} (a : α) (h : j ≠ i) : (t.set i a).get j = t.get j := by
  rw [get_set, if_neg (Ne.symm h)]

@[simp] theorem set_get (t : Table n α) (i : Fin n) : t.set i (t.get i) = t := by
  apply ext_get
  intro j
  rw [get_set]
  split
  · next h => rw [h]
  · rfl

@[simp] theorem set_set (t : Table n α) (i : Fin n) (a b : α) : (t.set i a).set i b = t.set i b := by
  apply ext_get
  intro j
  simp only [get_set]
  split <;> rfl

@[simp] theorem get_map (f : α → β) (t : Table n α) (i : Fin n) : (t.map f).get i = f (t.get i) := by
  simp [get_eq, map]

@[simp] theorem get_build (f : Fin n → α) (i : Fin n) : (build f).get i = f i := by
  simp [get_eq, build]

@[simp] theorem get_fill (a : α) (i : Fin n) : (fill n a).get i = a := by
  simp [get_eq, fill]

theorem build_get (t : Table n α) : build t.get = t := ext_get fun i => by simp

theorem any_rows (t : Table n α) (p : α → Bool) : t.rows.any p = true ↔ ∃ i, p (t.get i) = true := by
  rw [List.any_eq_true]
  constructor
  · rintro ⟨a, ha, hp⟩
    obtain ⟨i, hi, rfl⟩ := List.getElem_of_mem ha
    exact ⟨⟨i, by rw [← t.size]; exact hi⟩, hp⟩
  · rintro ⟨i, hp⟩
    exact ⟨t.get i, by rw [get_eq]; exact List.getElem_mem _, hp⟩

end Table

@[simp] theorem mem_indices {n : Nat} (i : Fin n) : i ∈ indices n := List.mem_finRange i

end Sys2Proof
end

