-- ==== Sys2Proof/Tests/Slice0.lean ====
section
/-! SUPPORT. The model's own tests, whose expected values come from the worked cases and tables of spec/, and for every statement with
hypotheses a witness: concrete states and operands that meet the hypotheses of its clauses, at the boundary values. -/
namespace Sys2Proof.Tests

open Sys2Proof.Machine

-- One theorem after another: many small ones at once, each on a thread of its own, use more memory than they are worth.
set_option Elab.async false

/-! ### Small states -/

/-- The state after reset with the bypass over and no timer started. -/
def running : State := { State.reset with power := .running }

/-- What a command leaves. -/
def after (i : Instr) (s : State) : State :=
  match exec i s with
  | .next t => t
  | .fault _ => s
  | .refused _ => s

def onRing (f : Ring → Ring) (s : State) : State := s.withRing (f s.ring)
def onRoute (i : RouteIdx) (c : RouteConfig) (s : State) : State := s.withRoutes (s.routes.set i (Route.fresh c))
def onPoint (p : PointIdx) (f : Point → Point) (s : State) : State := s.withPoints (s.points.modify p f)
def onLane (k : LaneIdx) (f : Lane → Lane) (s : State) : State := s.withLanes (s.lanes.modify k f)
def onZone (z : ZoneIdx) (f : Zone → Zone) (s : State) : State := s.withZones (s.zones.modify z f)
def onBlower (b : BlowerIdx) (f : Blower → Blower) (s : State) : State := s.withBlowers (s.blowers.modify b f)
def onReturn (r : LineIdx) (f : ReturnLine → ReturnLine) (s : State) : State := s.withReturns (s.returns.modify r f)
def onOutput (o : OutputIdx) (f : Output → Output) (s : State) : State := s.withOutputs (s.outputs.modify o f)
def onWatch (w : WatchIdx) (f : Watch → Watch) (s : State) : State := s.withWatches (s.watches.modify w f)
def onPlant (f : Plant → Plant) (s : State) : State := s.withPlant (f s.plant)

/-- A point that stands GOOD at a value. -/
def reads (p : PointIdx) (v : Int) (s : State) : State :=
  onPoint p (fun pt => { pt with state := .good { value := v, filtered := v } }) s

/-- A lane in a state. -/
def laneIn (k : LaneIdx) (st : LaneState) (s : State) : State := onLane k (fun l => { l with state := st }) s

/-- An AUTO output in use at a destination. -/
def used (o : OutputIdx) (dst : Addr) (last : Option Int) (s : State) : State :=
  onOutput o (fun out => { out with config := { out.config with destination := dst }, last := last }) s

/-- The payload of the frame on the line: a reply goes out at once on an idle line. -/
def lineBytes (s : State) : List Byte := (s.ring.line.map (·.payload)).getD []

/-- A frame of no items, as anything that may wait or be sent. -/
def someFrame : Frame := { dst := 0x0100, src := 0x0200, kind := 6, hops := 3, seq := 0, payload := [] }

/-- Frame A of section 2.9: channels 0, 1 and 5 of node 0x1102. -/
def frameA : Frame :=
  { dst := 0x0100, src := 0x1102, kind := 1, hops := 5, seq := 9
    payload := [0, 0, 0, 3, 0xE8, 1, 0, 0, 7, 0xD0, 5, 0, 0, 0, 1] }

/-- A queued COMMAND of output 12. -/
def command12 (v : Int) : Queued := { dst := 0x2004, body := .command (some 12) 0 v }

/-- A queued notice of watch 3. -/
def notice3 : Queued := { dst := 0x0100, body := .notice 3 8 980 0 }

/-- The line busy with a frame. -/
def busy (s : State) : State := onRing (fun r => { r with line := some someFrame }) s

/-! ### Well-formed commands (R3) -/

theorem test_wf_refuses_long_request : (Instr.badRequest 5 0 2 (List.replicate 47 0)).wf = false := by decide
theorem test_wf_takes_longest_request : (Instr.badRequest 5 0 2 (List.replicate 46 0)).wf = true := by decide

/-- Eleven values make 4 + 44 = 48 argument bytes, two more than R3 allows; ten fit. -/
theorem test_wf_refuses_long_writes :
    (∀ t : TableName, t ∈ [TableName.route, .point, .output, .lane, .zone, .blower, .returnLine, .watch, .plant, .allocator] →
      (t.writing 5 0 0 0 (List.replicate 11 0)).wf = false ∧ (t.writing 5 0 0 0 (List.replicate 10 0)).wf = true) := by decide

/-! ### Reset and start-up -/

theorem test_reset_assert_clears_the_line : (after .resetAssert (busy running)).ring.line = none := by decide
theorem test_reset_assert_abandons_a_commit :
    (after .resetAssert (after (.commitStore 5 7) running)).management.commit = none := by decide

/-- The straps of the examples give 0xFE03 (R1). -/
theorem test_start_up_reads_the_straps : (after (.startUp 3) State.reset).ownAddress = 0xFE03 := by decide +kernel

/-- Generations 65535 and 0: 0 is newer, because the difference is 1 modulo 65536 (section 11.5). -/
theorem test_start_up_takes_the_newer_generation :
    (after (.startUp 0) (State.reset.withManagement { State.reset.management with
      images := ((Table.fill 2 none).set 0 (some { generation := 65535, settings := Settings.default })).set 1
        (some { generation := 0, settings := Settings.default }) })).management.current = some 1 := by decide

/-- R2: the bytes go to ring-out bit for bit while the bypass lasts, through start-up too, and none once it has ended. -/
theorem test_bypass_passes_the_bytes :
    (after (.frameArrival [0x7E, 0xFF, 0x00]) (after .resetAssert running)).ring.passing = [0x7E, 0xFF, 0x00] ∧
    (after (.startUp 3) (after (.frameArrival [0x7E]) (after .resetAssert running))).ring.passing = [0x7E] ∧
    (after .bypassEnd (after (.ringInIdleInFrame [0x7E]) State.reset)).ring.passing = [] := by decide +kernel

/-- R2: the bypass does not end in the middle of a frame; it ends once the frame's last byte has passed, or the line has fallen idle. -/
theorem test_bypass_waits_for_the_frame_in_passage :
    let started := after (.frameArrival (frameA.wire.take 9)) State.reset
    (after .bypassEnd started).power = .bypass ∧
    (after .bypassEnd (after (.frameArrival (frameA.wire.drop 9)) started)).power = .running ∧
    (after .bypassEnd (after (.ringInIdleInFrame []) started)).power = .running := by decide +kernel

/-- R2: the rest of a frame that was being received as RESETn fell passes, and the bypass outlasts it. -/
theorem test_reset_leaves_the_frame_in_passage :
    (after .resetAssert (after (.frameArrival (frameA.wire.take 9)) running)).ring.inPassage = frameA.wire.take 9 := by decide +kernel

theorem test_bypass_end_starts_the_silence_timer : (after .bypassEnd State.reset).ring.silence = some 50 := by decide

/-! ### The ring (worked check of section 1.3, worked sequence of section 1.7) -/

/-- The worked check: the STATUS frame from 0x1204 to 0xFE03 carries BD F1 and is forwarded with hops 14 and BE F1. -/
theorem test_worked_check_is_forwarded :
    (after (.frameArrival [0x7E, 0xFE, 0x03, 0x12, 0x04, 0x2F, 0x05, 0x02, 0x01, 0x01, 0xBD, 0xF1]) running).ring.line.map Frame.wire =
      some [0x7E, 0xFE, 0x03, 0x12, 0x04, 0x2E, 0x05, 0x02, 0x01, 0x01, 0xBE, 0xF1] := by decide

theorem test_wrong_check_is_discarded :
    (after (.frameArrival [0x7E, 0xFE, 0x03, 0x12, 0x04, 0x2F, 0x05, 0x02, 0x01, 0x01, 0xBE, 0xF1]) running).ring.line = none := by
  decide

theorem test_idle_in_frame_returns_to_hunting :
    (after (.ringInIdleInFrame [0x7E, 0xFE, 0x03]) running).ring.received = [] := by decide

/-- Section 1.7, "F2 ends": the run count was 4, so the COMMAND goes with sequence 37 and the counter becomes 38. -/
theorem test_frame_sent_starts_the_originated_frame :
    ((after .frameSent (onRing (fun r => { r with
      line := some someFrame, forward := [someFrame, someFrame, someFrame, someFrame], transmit := [command12 630, notice3]
      runCount := 4, sequence := 37 }) running)).ring.line.map (·.seq),
     (after .frameSent (onRing (fun r => { r with
      line := some someFrame, forward := [someFrame, someFrame, someFrame, someFrame], transmit := [command12 630, notice3]
      runCount := 4, sequence := 37 }) running)).ring.sequence) = (some 37, 38) := by decide

/-- Section 1.7: an offer of 630 while 640 waits is coalesced in place. -/
theorem test_offer_is_coalesced :
    ((onRing (fun r => { r with line := some someFrame, transmit := [command12 640, notice3] }) running).sendCommand 12 630).1.ring.transmit =
      [command12 630, notice3] := by decide

theorem test_silence_expiry :
    (after .ringSilenceExpiry (onRing (fun r => { r with silence := some 0 }) running)).ring.silent = true := by decide +kernel

/-! ### Routes and points (worked example of section 2.9, worked filter steps of section 3.3) -/

/-- Entry 2 of section 2.9. -/
def analysers : RouteConfig :=
  { valid := true, matchField := .source, base := 0x1100, exponent := 4, kinds := 1, disposition := .observe, pointBase := 0
    channels := 4, supervisor := false }

/-- Points 8 and 9 are updated and channel 5 is skipped. -/
theorem test_frame_A_maps_its_items :
    ((after (.frameArrival frameA.wire) (onRoute 2 analysers running)).points.rows.map (·.state.usable)).zipIdx.filterMap
      (fun x => x.1.map fun v => (x.2, v)) = [(8, 1000), (9, 2000)] := by decide +kernel

theorem test_filter_floors_from_below :
    (({ (Point.fresh { PointConfig.default with shift := 3 }) with state := .good { value := 1000, filtered := 990 } } : Point).take 1
      (.sample 0 1000)).state = .good { value := 1000, filtered := 991 } := by decide

theorem test_filter_floors_from_above :
    (({ (Point.fresh { PointConfig.default with shift := 3 }) with state := .good { value := 1000, filtered := 1010 } } : Point).take 1
      (.sample 0 1000)).state = .good { value := 1000, filtered := 1008 } := by decide

theorem test_age_expiry_makes_stale :
    ((after (.ageExpiry 8) (onPoint 8 (fun p => { p with age := some 0 }) (reads 8 1500 running))).points.get 8).state =
      .stale { value := 1500, filtered := 1500 } := by decide

theorem test_force_point_clamps :
    (lineBytes (after (.forcePoint 5 1 127 0xFF000000) running),
     ((after (.forcePoint 5 1 127 0xFF000000) running).points.get 127).state) =
      ([7, 1, 1], .forced { value := -8388608, filtered := -8388608 }) := by decide

theorem test_release_point_of_a_forced_point :
    ((after (.releasePoint 5 1 0) (after (.forcePoint 5 1 0 12) running)).points.get 0).state = .empty := by decide

/-! ### Lanes and storm (sections 4.6 and 4.11) -/

theorem test_exit_hold_expiry_ends_the_storm :
    (((after .exitHoldExpiry (onPlant (fun p => { p with storm := true, exitHold := some 0 }) (laneIn 1 .storm running))).lanes.get 1).state,
     (after .exitHoldExpiry (onPlant (fun p => { p with storm := true, exitHold := some 0 }) running)).plant.storm) =
      (.normal, false) := by decide +kernel

/-- Section 4.11, t = 420: SET_REGIME NORMAL of an OFFLINE lane in a storm lands in STORM. -/
theorem test_set_regime_in_a_storm :
    ((after (.setRegime 5 1 4 1) (onPlant (fun p => { p with storm := true }) running)).lanes.get 4).state = .storm := by decide

/-- Section 4.11, t = 600: SET_REGIME ECONOMY in a storm is refused WRONG_REGIME (7). -/
theorem test_set_regime_economy_in_a_storm_is_refused :
    lineBytes (after (.setRegime 5 1 5 2) (onPlant (fun p => { p with storm := true }) (laneIn 5 .storm running))) = [9, 1, 7] := by
  decide

/-- Section 4.11, t = 950: the cause is FIRED, so RESTORE_LANE is refused CONDITION_PRESENT (9). -/
theorem test_restore_lane_with_its_cause_fired_is_refused :
    lineBytes (after (.restoreLane 5 1 1) (onWatch 12 (fun w => { w with state := .fired none }) (laneIn 1 (.tripped 12) running))) =
      [10, 1, 9] := by decide

/-- Section 4.11, t = 3000: with the cause cleared and no storm the lane lands in NORMAL. -/
theorem test_restore_lane : ((after (.restoreLane 5 1 0) (laneIn 0 (.tripped 12) running)).lanes.get 0).state = .normal := by decide

/-- Section 4.11, t = 300: lane 2 trips first, then lanes 0, 1 and 3 of its group. -/
theorem test_trip_spreads_in_order :
    let g := fun (l : Lane) => { l with config := { l.config with tripGroup := some 0 }, state := LaneState.storm }
    (((onLane 0 g (onLane 1 g (onLane 2 g (onLane 3 g (laneIn 5 .storm
      (onPlant (fun p => { p with config := { p.config with crossTrip := (Table.fill 4 false).set 0 true } }) running)))))).tripRequest
        2 12).history.entries.drop 1).map (·.event) =
      [.trip 2 12, .regime 2 .storm .tripped, .trip 0 12, .regime 0 .storm .tripped, .trip 1 12, .regime 1 .storm .tripped,
       .trip 3 12, .regime 3 .storm .tripped] := by decide +kernel

/-! ### Zones (worked case of section 5.7, worked cycle of section 5.9) -/

/-- Lane 2 and zone 9 of section 5.7. -/
def lane2 : State :=
  onLane 2 (fun l => { l with
      config := { l.config with ammoniaPoint := some 3, trimGain := 256, trimLow := -1000, trimHigh := 1000 }
      state := .normal, timer := some 0 })
    (onZone 9 (fun z => { z with
        config := { z.config with
          doPoint := some 8, airflowPoint := some 7, valveOutput := some 12, baseSetpoint := 1200, kp := 3200, ki := 512
          biasAir := 600, minAir := 200, maxAir := 1500, valveGain := 200, valveRate := 25 }
        mode := .doControl, integral := 25600, grant := some 985 })
      (reads 3 1800 (reads 8 1500 (reads 7 1040 (used 12 0x2004 (some 640) running)))))

/-- Section 5.7: A = 28160, demand 810, offer 630. -/
theorem test_lane_period_computes_zone_9 :
    let t := after (.lanePeriodExpiry 2) lane2
    ((t.zones.get 9).integral, (t.zones.get 9).demand, (t.outputs.get 12).last) = (28160, 810, some 630) := by decide +kernel

/-- Lane 5 and zone 21 of section 5.9. -/
def lane5 (phase : Phase) (ammonia : Int) : State :=
  onLane 5 (fun l => { l with
      config := { l.config with ammoniaPoint := some 3, onSlope := 20, cycleLength := 1200 }
      state := .economy { phase := phase, onFraction := 24, onLength := 675, offLength := 1125, timer := 0 } })
    (onZone 21 (fun z => { z with
        config := { z.config with cyclic := true, biasAir := 400, minAir := 150, maxAir := 1200 }
        mode := .doControl, integral := 51200, demand := 600 })
      (reads 3 ammonia running))

/-- Section 5.9, t = 675: AIR_OFF for 1125 s at min air 150. -/
theorem test_phase_expiry_to_air_off :
    let t := after (.phaseExpiry 5) (lane5 .airOn 600)
    ((t.lanes.get 5).state, (t.zones.get 21).demand) =
      (.economy { phase := .airOff, onFraction := 24, onLength := 675, offLength := 1125, timer := 11250 }, 150) := by decide +kernel

/-- Section 5.9, t = 1800: on-fraction 30, AIR_ON 562 s, AIR_OFF 638 s, demand 600. -/
theorem test_phase_expiry_to_a_new_cycle :
    let t := after (.phaseExpiry 5) (lane5 .airOff 900)
    ((t.lanes.get 5).state, (t.zones.get 21).demand) =
      (.economy { phase := .airOn, onFraction := 30, onLength := 562, offLength := 638, timer := 5620 }, 600) := by decide +kernel

/-! ### Allocation and blowers (worked case of section 6.4) -/

/-- Lane 0 with the demands of section 6.4, and two blowers of cmin 500 and cmax 1250 with speed outputs 20 and 21. -/
def header (first : BlowerState) : State :=
  let zone := fun (z : ZoneIdx) (d m : Nat) => onZone z fun zn => { zn with config := { zn.config with minAir := m }, demand := d }
  let blower := fun (b : BlowerIdx) (o : OutputIdx) (st : BlowerState) => onBlower b fun bl => { bl with
    config := { bl.config with inService := true, cmin := 500, cmax := 1250, speedOutput := some o }, state := st }
  zone 0 1200 300 (zone 1 900 300 (zone 2 600 200 (zone 3 300 100 (blower 0 20 first (blower 1 21 (.running false)
    (used 20 0x3000 none (used 21 0x3001 none (laneIn 0 .normal
      (running.withAllocator { running.allocator with timer := some 0 })))))))))

/-- Section 6.4: the grants 985, 757, 504 and 252, the speed 999, and the up count 1 (section 6.10). -/
theorem test_allocation_shares_the_shortage :
    let t := after .allocationExpiry (header (.running false))
    ((t.zones.rows.take 4).map (·.grant), (t.outputs.get 20).last, t.allocator.upCount, t.allocator.airShort) =
      ([some 985, some 757, some 504, some 252], some 999, 1, true) := by decide +kernel

/-- Section 6.4 with blower 0 FAULTED: the grants 449, 399, 266 and 133. -/
theorem test_allocation_on_one_blower :
    ((after .allocationExpiry (header .faulted)).zones.rows.take 4).map (·.grant) = [some 449, some 399, some 266, some 133] := by
  decide +kernel

/-- Blower 2 STARTING with a status point (section 6.10, t = 80). -/
def starting : State :=
  onBlower 2 (fun b => { b with
    config := { b.config with inService := true, statusPoint := some 100 }, state := .starting (some 0) 700 }) running

theorem test_warm_up_expiry_with_a_running_drive :
    ((after (.warmUpExpiry 2) (reads 100 1 starting)).blowers.get 2).state = .running false := by decide

theorem test_start_timeout_expiry : ((after (.startTimeoutExpiry 2) starting).blowers.get 2).state = .faulted := by decide +kernel

/-- Section 6.10, t = 695: run is offered 0 and the blower is STOPPED. -/
theorem test_rundown_expiry :
    let t := after (.rundownExpiry 2) (onBlower 2 (fun b => { b with
      config := { b.config with runOutput := some 22 }, state := .stopping 0 }) (used 22 0x3002 (some 1) running))
    ((t.blowers.get 2).state, (t.outputs.get 22).last) = (.stopped, some 0) := by decide

/-! ### Return lines (worked case of section 7.5) -/

/-- The plant of section 7.5: lanes 0 to 3 on line 0, lanes 4 to 7 on line 1, lane 5 OFFLINE. -/
def plant75 : State :=
  let lane := fun (r : LineIdx) (st : LaneState) (l : Lane) =>
    { l with config := { l.config with influentWeight := 25, returnLine := some r }, state := st }
  onReturn 0 (fun l => { l with
      config := { l.config with
        pumpOutput := some 30, flowPoint := some 41, blanketPoint := some 42, ratio := 750, blanketThreshold := 1800, boost := 150
        minFlow := 200, maxFlow := 3000, gain := 300, rate := 20 }
      timer := some 0 })
    (onPlant (fun p => { p with config := { p.config with influentPoint := some 40 } })
      (reads 40 3600 (reads 41 1700 (reads 42 1900 (used 30 0x4000 (some 520)
        (onLane 0 (lane 0 .normal) (onLane 1 (lane 0 .normal) (onLane 2 (lane 0 .normal) (onLane 3 (lane 0 .normal)
          (onLane 4 (lane 1 .normal) (onLane 5 (lane 1 .offline) (onLane 6 (lane 1 .normal) (onLane 7 (lane 1 .normal) running)))))))))))))

/-- Section 7.5, line 0: target 1851 and the offer 540. -/
theorem test_pacing_of_line_0 :
    let t := after (.pacingExpiry 0) plant75
    ((t.returns.get 0).target, (t.outputs.get 30).last) = (1851, some 540) := by decide +kernel

/-! ### Outputs and supervision (worked sequence of section 8.7) -/

/-- Output 12 of section 8.7, last commanded 200 and its resend timer due (t = 118). -/
def output12 : State :=
  onOutput 12 (fun o => { o with
    config := { o.config with destination := 0x2004, kind := .zoneValve, owner := 9, trip := 200, deadband := 5, resend := 60 }
    last := some 200, resendTimer := some 0 }) running

theorem test_resend_expiry :
    let t := after (.resendExpiry 12) output12
    (lineBytes t, (t.outputs.get 12).resendTimer) = ([0, 0, 0, 200], some 600) := by decide +kernel

/-- Section 8.7, t = 55: the trip of lane 2 gives the valve at 650 its trip value 200 as a COMMAND. -/
theorem test_trip_sends_the_trip_value :
    let tripped := (laneIn 2 .normal (onOutput 12 (fun o => { o with last := some 650 }) output12)).tripLane 2 5
    (tripped.outputs.get 12).last = some 200 ∧ lineBytes tripped = [0, 0, 0, 200] := by decide +kernel

/-- Section 8.7, t = 8: the guard takes 700 of a supervisor source under a running countdown. -/
theorem test_guard_takes_an_override :
    let t := ((output12.withSupervision { countdown := some 270, lost := false }).guardItem 0x2004 0x0100 ⟨0, 700⟩).1
    ((t.outputs.get 12).state, (t.outputs.get 12).last) = (.supervised, some 700) := by decide +kernel

/-- Section 8.7, t = 50: the countdown's expiry. -/
theorem test_countdown_expiry :
    let t := after .countdownExpiry (onOutput 12 (fun o => { o with state := .supervised })
      (output12.withSupervision { countdown := some 0, lost := false }))
    ((t.outputs.get 12).state, t.supervision) = (.auto, { countdown := none, lost := true }) := by decide +kernel

theorem test_release_output :
    ((after (.releaseOutput 5 1 12) (onOutput 12 (fun o => { o with state := .supervised }) output12)).outputs.get 12).state = .auto := by
  decide +kernel

/-- R148: a lease below 5 s is raised to 5 s and the reply is OK_CLAMPED. -/
theorem test_refresh_has_a_least_lease :
    ((after (.refresh 5 1 4) running).supervision.countdown, lineBytes (after (.refresh 5 1 4) running)) = (some 50, [13, 1, 1]) := by
  decide

/-! ### Watches (worked sequence of section 9.9) -/

/-- Watches 4 and 5 of section 9.9 at count c of watch 4 and a filtered DO. -/
def oxygenAlarm (c : Nat) (v : Int) : State :=
  onWatch 4 (fun w => { w with
      config := { w.config with
        enable := true, subject := .point 8, test := .below, low := 1000, hysteresis := 200, persistence := 3, actions := 1, armed := true
        rearm := .auto, hold := 120 }
      state := .armed, count := c, truth := true })
    (onWatch 5 (fun w => { w with
        config := { w.config with
          enable := true, subject := .point 8, test := .below, low := 500, hysteresis := 200, persistence := 2, stage := some 4
          actions := 6, armed := true, targetLane := 2, relayLine := 1 }
        state := .waiting, count := 1 })
      (onPlant (fun p => { p with config := { p.config with noticeAddress := 0x0100 } }) (reads 8 v running)))

/-- Section 9.9, t = 20: 1050 lies in the band, the true is kept and counted. -/
theorem test_band_keeps_the_truth : ((oxygenAlarm 1 1050).evaluate (.point 8)).watches.get 4 =
    { (oxygenAlarm 1 1050).watches.get 4 with count := 0 } := by decide +kernel

/-- Section 9.9, t = 30: watch 4 fires with its notice and its hold, and watch 5 is armed. -/
theorem test_watch_4_fires :
    let t := (oxygenAlarm 0 980).evaluate (.point 8)
    ((t.watches.get 4).state, (t.watches.get 5).state, (t.watches.get 5).count, lineBytes t) =
      (.fired (some 1200), .armed, 1, [4, 8, 0, 3, 0xD4, 0, 0, 0, 0]) := by decide +kernel

/-- Section 9.9, t = 150: watch 4 leaves FIRED and keeps its count. -/
theorem test_hold_expiry :
    ((after (.holdExpiry 4) (onWatch 4 (fun w => { w with state := .fired (some 0) }) (oxygenAlarm 0 900))).watches.get 4).state =
      .armed := by decide +kernel

theorem test_acknowledge :
    (((after (.acknowledge 5 1 4) (onWatch 4 (fun w => { w with state := .fired none, occurrence := true }) (oxygenAlarm 0 900))).watches.get
      4).count,
     ((after (.acknowledge 5 1 4) (onWatch 4 (fun w => { w with state := .fired none, occurrence := true }) (oxygenAlarm 0 900))).watches.get
      4).occurrence) = (2, false) := by decide +kernel

/-! ### History (sections 10.5 and 10.6) -/

/-- The entry of the invalid store in the layout of section 10.5: number 0, time 0, kind 11, subject and old state absent, cause 0,
value 0; a count of 5 is lowered to 3 (OK_CLAMPED). -/
theorem test_read_history :
    lineBytes (after (.readHistory 5 1 5) running) = [14, 1, 1, 1, 0, 0, 0, 0, 0, 0, 11, 0xFF, 0xFF, 0, 0, 0, 0] := by decide

theorem test_resume_capture :
    (after (.resumeCapture 5 1) (running.withHistory { running.history with frozen := true })).history =
      { running.history with frozen := false } := by decide

/-! ### Requests (chapter 11) -/

/-- A code of 0 is answered BAD_REQUEST (2). -/
theorem test_bad_request : lineBytes (after (.badRequest 5 9 0 []) running) = [0, 9, 2] := by decide

/-- A READ_FIELDS with three of its four argument bytes is answered BAD_REQUEST (R183 step 3). -/
theorem test_short_request : lineBytes (after (.badRequest 5 9 1 [8, 0, 9]) running) = [1, 9, 2] := by decide

/-- The ring-silence time is 5 s by default (section 4.5, field 9). -/
theorem test_read_fields : lineBytes (after (.readFields 5 1 8 0 9 1) running) = [1, 1, 0, 0, 0, 0, 5] := by decide

/-- R19: a base of 0x1234 with exponent 4 is held as 0x1230, and the reply is OK_CLAMPED. -/
theorem test_write_route_aligns :
    let t := after (.writeFieldsRoute 5 1 0 2 [0x1234, 4]) running
    ((t.routes.get 0).config.base, lineBytes t) = (0x1230, [2, 1, 1]) := by decide

theorem test_lock_route : lineBytes (after (.writeFieldsRoute 5 2 0 2 [1])
    (onRing (fun r => { r with line := none }) (after (.lockRoute 5 1 0) running))) = [2, 2, 5] := by decide

/-- R48: a DO point's range low below 0 is raised to 0. -/
theorem test_write_point :
    ((after (.writeFieldsPoint 5 1 8 0 [0, 0xFFFFFFFF, 20000, 300, 2]) running).points.get 8).config =
      { kind := .dissolvedOxygen, low := 0, high := 20000, ageLimit := 300, shift := 2 } := by decide

/-- Section 8.7, t = 25: high 650 sends 650 although the output is SUPERVISED. -/
theorem test_write_output_re_clamps :
    let t := after (.writeFieldsOutput 5 1 12 5 [650]) (onOutput 12 (fun o => { o with state := .supervised, last := some 700 }) output12)
    ((t.outputs.get 12).last, (t.outputs.get 12).state, lineBytes t) = (some 650, .supervised, [0, 0, 2, 0x8A]) := by decide +kernel

/-- R55: a write of a lane's period waits in the pending set. -/
theorem test_write_lane_is_staged :
    let l := (after (.writeFieldsLane 5 1 0 1 [30]) running).lanes.get 0
    (l.config.period, l.pending.map (·.lane.period)) = (10, some 30) := by decide

/-- Section 11.8: a write of max air waits for the lane's period. -/
theorem test_write_zone_is_staged :
    ((after (.writeFieldsZone 5 1 9 10 [1500]) running).lanes.get 2).pending.map (fun p => (p.zones.get 1).maxAir) = some 1500 := by decide

/-- R113 check 1: cmax below cmin is raised to it. -/
theorem test_write_blower :
    let t := after (.writeFieldsBlower 5 1 2 4 [500, 400]) running
    ((t.blowers.get 2).config.cmax, lineBytes t) = (500, [2, 1, 1]) := by decide

/-- R127: max flow below min flow is raised to it, and the target follows the bounds. -/
theorem test_write_return :
    let t := after (.writeFieldsReturn 5 1 0 6 [200]) running
    ((t.returns.get 0).config.maxFlow, (t.returns.get 0).target) = (200, 200) := by decide

/-- R157: an enabled watch without a stage link is ARMED with count n - 1. -/
theorem test_write_watch :
    let w := (after (.writeFieldsWatch 5 1 3 0 [1, 8, 1, 0, 1000, 200, 3]) running).watches.get 3
    (w.state, w.count) = (.armed, 2) := by decide

/-- R59: an exit level above the enter level is lowered to it. -/
theorem test_write_plant :
    let t := after (.writeFieldsPlant 5 1 0 1 [6000, 7000]) running
    (t.plant.config.exitLevel, lineBytes t) = (6000, [2, 1, 1]) := by decide

/-- R103: an allocation period of 3 is raised to 5. -/
theorem test_write_allocator :
    let t := after (.writeFieldsAllocator 5 1 0 0 [3]) running
    (t.allocator.config.period, lineBytes t) = (5, [2, 1, 1]) := by decide

/-- Section 11.4: signature A8, generation, time count, eight regimes, storm, seconds left, levels, freeze, entries held, commit. -/
theorem test_read_status :
    lineBytes (after (.readStatus 5 1) (laneIn 3 .storm (onPlant (fun p => { p with storm := true })
      (running.withSupervision { countdown := some 11, lost := false })))) =
      [3, 1, 0, 0xA8, 0, 0, 0, 0, 0, 0, 0, 0, 0, 3, 0, 0, 0, 0, 1, 2, 4, 0, 1, 0] := by decide

/-- Section 11.8: generation 41, a commit with tag 7; a second commit is BUSY. -/
def committing : State :=
  after (.commitStore 0x0100 7) (running.withManagement { running.management with generation := 41, current := some 0 })

theorem test_commit_store_is_busy :
    (committing.ring.line, lineBytes (after (.commitStore 0x0100 8) committing)) = (none, [4, 8, 6]) := by decide

/-- Section 11.8, t = 2.3: generation 42, and OK with tag 7 and data 42. -/
theorem test_commit_completion :
    (lineBytes (after (.commitCompletion true) committing), (after (.commitCompletion true) committing).management.current) =
      ([4, 7, 0, 0, 42], some 1) := by decide

/-- R189: the RESTART entry is captured and the reply is OK. -/
theorem test_restart :
    (lineBytes (after (.restart 5 10) running), ((after (.restart 5 10) running).history.entries.drop 1).map (·.event)) =
      ([5, 10, 0], [.restart]) := by decide

/-! ### Steps -/

theorem test_step_runs_the_front_command :
    step (running.withPending [.lockRoute 5 1 0, .frameSent]) = exec (.lockRoute 5 1 0) (running.withPending [.frameSent]) := rfl

theorem test_step_on_an_empty_queue_ticks :
    (match step running with | .next t => t.timeCount | .fault _ => 0 | .refused _ => 0) = 1 := by decide +kernel

/-! ### Witnesses: how the hypotheses are met -/

theorem serves_of {s : State} {src : Addr} (h : s.power = .running ∧ src ≠ s.ownAddress ∧ s.isSupervisor src = true ∧
    s.ring.silent = false ∧ s.raised = [] ∧ s.ring.transmit.length < 16) : s.Serves src :=
  ⟨h.1, h.2.1, h.2.2.1, h.2.2.2.1, h.2.2.2.2.1, h.2.2.2.2.2⟩

theorem hunts_of {s : State} (h : s.power = .running ∧ s.ring.received = [] ∧ s.raised = []) : s.Hunts := ⟨h.1, h.2.1, h.2.2⟩

theorem calm_of {s : State} (h : s.raised = [] ∧ ∀ w, (s.watches.get w).state = .off) : s.Calm := ⟨h.1, fun w => .inl (h.2 w)⟩

theorem noDependants_of {s : State} {p : PointIdx} (h : (∀ w, (s.watches.get w).state = .off) ∧
    s.plant.config.influentPoint ≠ some p ∧ ∀ k, (s.lanes.get k).config.ammoniaPoint ≠ some p) : s.NoDependants p :=
  ⟨fun w => .inl (h.1 w), h.2.1, h.2.2⟩

theorem decides_of {s : State} {i : RouteIdx} {k : Kind} {f : Frame} (h : Kind.ofCode f.kind = some k ∧
    (s.routes.get i).config.claims k f = true ∧ ∀ j, j < i → (s.routes.get j).config.claims k f = false) : s.Decides i k f :=
  ⟨h.1, h.2.1, h.2.2⟩

theorem running_serves : running.Serves 5 := serves_of (by decide +kernel)
theorem running_hunts : running.Hunts := hunts_of (by decide)
theorem running_calm : running.Calm := calm_of (by decide +kernel)

/-! ### Witnesses: steps, reset and start-up -/

theorem witness_StepRunsFrontCommand : (running.withPending [.frameSent]).pending = .frameSent :: [] := rfl

theorem witness_CommandsEndAndKeepTheQueue :
    State.reset.power ≠ .running ∧ (after .resetAssert running).power ≠ .running ∧ Instr.readStatus 5 1 ≠ .resetAssert ∧
      (∀ straps, Instr.readStatus 5 1 ≠ .startUp straps) ∧ Instr.readStatus 5 1 ≠ .bypassEnd ∧ Instr.readStatus 5 1 ≠ .frameSent ∧
      (∀ ok, Instr.readStatus 5 1 ≠ .commitCompletion ok) ∧
      ∀ bytes, Instr.readStatus 5 1 ≠ .frameArrival bytes ∧ Instr.readStatus 5 1 ≠ .ringInIdleInFrame bytes :=
  ⟨by decide, by decide, by decide, nofun, by decide, by decide, nofun, fun _ => ⟨nofun, nofun⟩⟩

theorem witness_IdleStepTakesExpiryOrTicks :
    (running.pending = [] ∧ running.dueExpiries = []) ∧
    ((onRing (fun r => { r with silence := some 0 }) running).pending = [] ∧
      (onRing (fun r => { r with silence := some 0 }) running).dueExpiries = [.ringSilenceExpiry]) ∧
    ((onRing (fun r => { r with silence := some 0 }) lane2).pending = [] ∧
      2 ≤ (onRing (fun r => { r with silence := some 0 }) lane2).dueExpiries.length) ∧
    (after .resetAssert running).power = .resetLow ∧ State.reset.power = .bypass ∧ running.power = .running := by decide +kernel

/-- A part with store images of the two generations. -/
def stored (g0 g1 : Option (BitVec 16)) : State :=
  let image := fun (g : BitVec 16) => ({ generation := g, settings := Settings.default } : Image)
  State.reset.withManagement { State.reset.management with images := ((Table.fill 2 none).set 0 (g0.map image)).set 1 (g1.map image) }

/-- Differences of 1 and 32767 load image 1, of 0 and 32768 image 0; a single valid image is loaded. -/
theorem witness_StartUpLoadsNewerImage :
    (∀ g0 g1, (stored (some g0) (some g1)).management.abandon.images.get 0 = some { generation := g0, settings := Settings.default } ∧
      (stored (some g0) (some g1)).management.abandon.images.get 1 = some { generation := g1, settings := Settings.default }) ∧
    ((1 - 0 : BitVec 16).toNat = 1 ∧ (32767 - 0 : BitVec 16).toNat = 32767 ∧ (0 - 0 : BitVec 16).toNat = 0 ∧
      (32768 - 0 : BitVec 16).toNat = 32768) ∧
    (∀ g, (stored none (some g)).management.abandon.images.get 1 = some { generation := g, settings := Settings.default } ∧
      (stored none (some g)).management.abandon.images.get 0 = none) :=
  ⟨fun _ _ => ⟨rfl, rfl⟩, by decide, fun _ => ⟨rfl, rfl⟩⟩

theorem witness_StartUpWithoutImageTakesDefaults :
    (State.reset.management.abandon.images.get 0 = none ∧ State.reset.management.abandon.images.get 1 = none) ∧
      (committing.management.abandon.images.get 0 = none ∧ committing.management.abandon.images.get 1 = none) :=
  ⟨⟨rfl, rfl⟩, ⟨by decide +kernel, by decide +kernel⟩⟩

/-- No frame in passage, and a frame of which all but the last byte has passed. -/
theorem witness_BypassEndStartsTimers :
    (State.reset.power = .bypass ∧ State.reset.ring.inPassage = []) ∧
    ((onRing (fun r => { r with inPassage := frameA.wire.take 24 }) State.reset).power = .bypass ∧
      (onRing (fun r => { r with inPassage := frameA.wire.take 24 }) State.reset).ring.inPassage ≠ []) ∧
    running.power ≠ .bypass ∧ frameA.payload.length ≤ 48 ∧ 24 + 0 < 10 + frameA.payload.length ∧ (0x7D : Byte) ≠ 0x7E := by decide +kernel

/-! ### Witnesses: the ring -/

/-- A check off by one; a SAMPLE without items; 49 payload bytes; a frame broken off before its first and its last byte; one of which the receiver
holds the first byte, or all but the last. -/
theorem witness_MalformedFramesLeaveNoTrace :
    running.power = .running ∧
    (∀ m ∈ [0, 1, 24], (onRing (fun r => { r with received := frameA.wire.take m }) running).power = .running ∧
      (onRing (fun r => { r with received := frameA.wire.take m }) running).ring.received = frameA.wire.take m ∧
      (frameA.wire.take m).length = m ∧ m + (24 - m) < 10 + frameA.payload.length ∧ m < 10 + frameA.payload.length) ∧
    (∀ m ∈ [1, 7], (onRing (fun r => { r with received := [0x7E, 0, 1, 0, 2, 0x10, 5].take m }) running).ring.received =
      [0x7E, 0, 1, 0, 2, 0x10, 5].take m) ∧
    running.ring.received = [] ∧ frameA.payload.length ≤ 48 ∧ checkOf frameA.covered + 1 ≠ checkOf frameA.covered ∧
      ({ frameA with payload := [] } : Frame).itemsFit = false ∧ 48 < (49 : Byte).toNat ∧ 0 < 10 + frameA.payload.length ∧
      24 < 10 + frameA.payload.length := by decide +kernel

/-- A ring-out that sends and holds n forwarded frames. -/
def forwarding (n : Nat) : State := onRing (fun r => { r with line := some someFrame, forward := List.replicate n someFrame }) running

theorem running_claims_nothing (s : State) (h : ∀ i, (s.routes.get i).config.valid = false) (f : Frame) : s.Unclaimed f :=
  fun _ _ i => by simp [RouteConfig.claims, h i]

theorem witness_FramesEndHereOrAreForwarded :
    running.Hunts ∧ frameA.Carried ∧ running.ring.silent = false ∧
      (∃ f : Frame, f.Carried ∧ f.src = running.ownAddress) ∧
      (∃ f : Frame, f.Carried ∧ f.dst = running.ownAddress ∧ f.kind ≠ Kind.request.code) ∧
      (∃ f : Frame, f.Carried ∧ f.dst = running.ownAddress ∧ f.payload.length < 2) ∧
      ((onRing (fun r => { r with silent := true }) running).Hunts ∧
        (onRing (fun r => { r with silent := true }) running).ring.silent = true) ∧
      (frameA.src ≠ running.ownAddress ∧ frameA.dst ≠ running.ownAddress ∧ running.Unclaimed frameA) ∧
      (∃ f : Frame, f.hops = 0 ∧ running.Unclaimed f) ∧ frameA.hops ≠ 0 ∧
      ((forwarding 3).Hunts ∧ (forwarding 3).ring.forward.length < 4 ∧ (forwarding 3).ring.line.isSome = true ∧
        (forwarding 3).Unclaimed frameA) ∧
      (running.ring.line = none ∧ running.ring.forward = [] ∧ running.ring.transmit = []) ∧
      ((forwarding 4).Hunts ∧ 4 ≤ (forwarding 4).ring.forward.length ∧ (forwarding 4).Unclaimed frameA) :=
  ⟨running_hunts, by decide +kernel, by decide, ⟨{ frameA with src := 0xFE00 }, by decide +kernel⟩,
    ⟨{ frameA with dst := 0xFE00 }, by decide +kernel⟩, ⟨{ someFrame with dst := 0xFE00, kind := 4, payload := [3] }, by decide +kernel⟩,
    ⟨hunts_of (by decide), by decide⟩,
    ⟨by decide, by decide, running_claims_nothing _ (by decide +kernel) _⟩,
    ⟨{ frameA with hops := 0 }, rfl, running_claims_nothing _ (by decide +kernel) _⟩, by decide,
    ⟨hunts_of (by decide), by decide, by decide, running_claims_nothing _ (by decide +kernel) _⟩, by decide,
    ⟨hunts_of (by decide), by decide, running_claims_nothing _ (by decide +kernel) _⟩⟩

/-- The analysers' entry, for every kind, with a disposition. -/
def routed (d : Disposition) : State := onRoute 0 { analysers with disposition := d, kinds := 63 } running

/-- A COMMAND frame of node 0x1102 for 0x2004 with items. -/
def commandFrame (items : List CommandItem) : Frame :=
  { frameA with dst := 0x2004, kind := 3, payload := items.flatMap CommandItem.bytes }

/-- One item, and eight, at the ends of the values three bytes carry. -/
def itemsOf (n : Nat) : List CommandItem := (List.replicate n ⟨0, -8388608⟩).set 0 ⟨1, 8388607⟩

theorem witness_DecidingEntryDisposesOfFrame :
    (∀ d : Disposition, (routed d).Hunts ∧ (routed d).ring.silent = false ∧ (routed d).Decides 0 .sample frameA ∧
      (routed d).Decides 0 .command (commandFrame (itemsOf 1)) ∧ (routed d).Decides 0 .command (commandFrame (itemsOf 8)) ∧
      ((routed d).routes.get 0).config.disposition = d) ∧
    frameA.Carried ∧ (commandFrame (itemsOf 1)).Carried ∧ frameA.src ≠ running.ownAddress ∧ frameA.dst ≠ running.ownAddress ∧
    (commandFrame (itemsOf 8)).dst ≠ running.ownAddress ∧
    (∀ n ∈ [1, 8], (itemsOf n).length = n ∧ (commandFrame (itemsOf n)).payload = (itemsOf n).flatMap CommandItem.bytes ∧
      ∀ item ∈ itemsOf n, -8388608 ≤ item.value ∧ item.value ≤ 8388607) := by
  refine ⟨?_, by decide +kernel, by decide +kernel, by decide, by decide, by decide, by decide +kernel⟩
  intro d
  cases d <;>
    exact ⟨hunts_of (by decide), by decide, decides_of (by decide +kernel), decides_of (by decide +kernel), decides_of (by decide +kernel),
      by decide⟩

/-- Two items in range, on channels 0 and 3. -/
def frameB : Frame := { frameA with payload := [0, 0, 0, 3, 0xE8, 3, 0, 0, 7, 0xD0] }

/-- OBSERVE and CONSUME of two items without dependants; frame A's channel 5 is skipped. -/
theorem witness_SampleAndStatusItemsReachTheirPoints :
    (∀ d ∈ [Disposition.observe, .consume], (routed d).Hunts ∧ (routed d).ring.silent = false ∧ (routed d).Decides 0 .sample frameB ∧
      (routed d).Decides 0 .sample frameA ∧ ((routed d).routes.get 0).config.disposition = d ∧
      ∀ a ∈ ((routed d).routes.get 0).config.arrivals .sample frameB, ∃ p, a.1 = some p ∧ (routed d).NoDependants p) ∧
    frameB.Carried ∧ frameB.src ≠ running.ownAddress ∧ frameB.dst ≠ running.ownAddress ∧
    (((routed .observe).routes.get 0).config.arrivals .sample frameA).map (·.1) = [some 8, some 9, none] := by
  refine ⟨?_, by decide +kernel, by decide, by decide, by decide +kernel⟩
  intro d hd
  simp only [List.mem_cons, List.not_mem_nil, or_false] at hd
  have items : ∀ d ∈ [Disposition.observe, .consume], ((routed d).routes.get 0).config.arrivals .sample frameB =
      [(some 8, .sample 0 1000), (some 11, .sample 0 2000)] := by decide +kernel
  rcases hd with rfl | rfl <;>
    refine ⟨hunts_of (by decide), by decide, decides_of (by decide +kernel), decides_of (by decide +kernel), by decide, ?_⟩ <;>
    (rw [items _ (by decide)]
     intro a ha
     simp only [List.mem_cons, List.not_mem_nil, or_false] at ha
     rcases ha with rfl | rfl
     · exact ⟨8, rfl, noDependants_of (by decide +kernel)⟩
     · exact ⟨11, rfl, noDependants_of (by decide +kernel)⟩)

theorem witness_RequestFrameIsItsCommand :
    Request.parts (.readStatus 5 1) = some (5, 1, 3, []) ∧ (Instr.readStatus 5 1).wf = true ∧
      Request.parts (.badRequest 5 1 99 (List.replicate 46 0)) = some (5, 1, 99, List.replicate 46 0) ∧
      (Instr.badRequest 5 1 99 (List.replicate 46 0)).wf = true ∧ running.ring.received = [] ∧ running.power = .running ∧
      State.reset.power ≠ .running := by decide

/-- A ring-out that sends, with waiting frames and a run count. -/
def sending (forward : List Frame) (transmit : List Queued) (run : Nat) : State :=
  onRing (fun r => { r with line := some someFrame, forward := forward, transmit := transmit, runCount := run }) running

theorem witness_FrameSentStartsTheNextFrame :
    running.ring.line = none ∧
    ((sending [] [] 0).ring.line.isSome = true ∧ (sending [] [] 0).ring.forward = [] ∧ (sending [] [] 0).ring.transmit = []) ∧
    ((sending [someFrame] [] 4).ring.forward = [someFrame] ∧ (sending [someFrame] [] 4).ring.transmit = []) ∧
    ((sending [someFrame] [notice3] 3).ring.transmit ≠ [] ∧ (sending [someFrame] [notice3] 3).ring.runCount ≠ 4) ∧
    ((sending [] [notice3] 0).ring.transmit = [notice3] ∧ (sending [] [notice3] 0).ring.forward = []) ∧
    ((sending [someFrame] [notice3] 4).ring.transmit = [notice3] ∧ (sending [someFrame] [notice3] 4).ring.runCount = 4) := by decide

theorem witness_TransmitQueueAnswersOffers :
    (∃ q ∈ (sending [] [notice3, command12 640] 0).ring.transmit, q.body.owner = some 12) ∧
    (∀ q ∈ (sending [] [notice3, command12 640] 0).ring.transmit, q.body.owner ≠ some 13) ∧
    ((sending [] (List.replicate 15 notice3) 0).ring.transmit.length < 16 ∧
      (sending [] (List.replicate 15 notice3) 0).ring.line.isSome = true) ∧
    (running.ring.transmit = [] ∧ running.ring.forward = [] ∧ running.ring.line = none) ∧
    16 ≤ (sending [] (List.replicate 16 notice3) 0).ring.transmit.length := by decide

theorem witness_SilenceExpiryMakesTheRingSilent :
    (onRing (fun r => { r with silence := some 0 }) running).power = .running ∧
    ((onRing (fun r => { r with silence := some 0 }) running).ring.silence.isSome = true ∧
      (onRing (fun r => { r with silence := some 0 }) running).ring.silent = false) ∧ running.ring.silence = none := by decide

/-! ### Witnesses: points -/

/-- R37, R40: a CALIBRATING item at a NONE point leaves it NONE and updates the last sequence. -/
theorem test_calibrating_item_at_a_none_point :
    (running.points.get 0).take 43 (.sample 2 5000) = { running.points.get 0 with lastSeq := some 43 } := by decide +kernel

/-- A point that is not FORCED; FAULT (also with CALIBRATING), CALIBRATING alone, OVERRANGE alone, no flag; codes 3 and 4. -/
theorem witness_PointTakesItems :
    (running.points.get 0).state.quality ≠ .forced ∧ (3 : Byte).getLsbD 0 = true ∧
      ((2 : Byte).getLsbD 0 = false ∧ (2 : Byte).getLsbD 1 = true) ∧ ((4 : Byte).getLsbD 0 = false ∧ (4 : Byte).getLsbD 1 = false) ∧
      ((0 : Byte).getLsbD 0 = false ∧ (0 : Byte).getLsbD 1 = false) ∧ (3 : Byte).toNat ≤ 3 ∧ 3 < (4 : Byte).toNat := by decide

/-- The last point, GOOD or BAD, with its age timer due. -/
def ageing (bad : Bool) : State :=
  onPoint 127 (fun p => { p with state := if bad then .bad none else .good { value := 5, filtered := 5 }, age := some 0 }) running

theorem witness_AgeExpiryMakesThePointStale :
    (∀ b, (ageing b).power = .running ∧ (ageing b).raised = [] ∧ ((ageing b).points.get 127).age.isSome = true) ∧
    (ageing false).NoDependants 127 ∧
    (((ageing true).points.get 127).state.quality ≠ .good ∧ ((ageing true).points.get 127).state.quality ≠ .suspect) ∧
    ((ageing false).points.get 127).state.quality = .good ∧ (running.points.get 127).age = none :=
  ⟨by decide +kernel, noDependants_of (by decide +kernel), by decide +kernel, by decide +kernel, by decide +kernel⟩

/-- The last point FORCED. -/
def forcing : State := onPoint 127 (fun p => { p with state := .forced { value := 5, filtered := 5 } }) running

theorem witness_ForceAndReleasePoint :
    forcing.Serves 5 ∧ 127 < (128 : Byte).toNat ∧ (127 : Byte).toNat = (127 : PointIdx).val ∧ forcing.NoDependants 127 ∧
      (forcing.points.get 127).state.quality = .forced ∧ (0 : Byte).toNat = (0 : PointIdx).val ∧
      (forcing.points.get 0).state.quality ≠ .forced :=
  ⟨serves_of (by decide +kernel), by decide, by decide, noDependants_of (by decide +kernel), by decide +kernel, by decide, by decide +kernel⟩

/-! ### Witnesses: storm and lanes -/

theorem witness_StormMovesTheLanes :
    (onPlant (fun p => { p with storm := true, exitHold := some 0 }) running).power = .running ∧
      (onPlant (fun p => { p with storm := true, exitHold := some 0 }) running).plant.exitHold.isSome = true ∧
      running.power = .running ∧ running.plant.exitHold = none := by decide

/-- A lane in ECONOMY, woken by ammonia on point 3 from 2000 and by influent from 5000. -/
def asleep (k : LaneIdx) (s : State) : State :=
  onLane k (fun l => { l with
    config := { l.config with ammoniaPoint := some 3, wakeMask := 3, wakeAmmonia := 2000, wakeInfluent := 5000 }
    state := .economy { phase := .airOn, onFraction := 32, onLength := 900, offLength := 900, timer := 9000 } }) s

/-- Lane 7 alone in ECONOMY. -/
def waking : State := asleep 7 running

/-- R66: the lanes are checked in index order; here lanes 0 and 7 wake, in that order, each with its REGIME entry (R54). -/
theorem test_wake_checks_go_in_index_order :
    (((asleep 0 waking).checkAmmonia 3 2000).history.entries.filterMap fun e => match e.event with
      | .regime k .economy .normal => some k
      | _ => none) = [0, 7] := by decide +kernel

/-- R97: a lane that leaves ECONOMY gives the AIR_ON demand to a following zone whose off demand is set: here bias air 300 + 25600/256. -/
theorem test_wake_ends_the_cycle :
    let off := onZone 28 (fun z => { z with
      config := { z.config with cyclic := true, biasAir := 300, maxAir := 1000 }, mode := .doControl, integral := 25600
      offDemand := true }) waking
    ((off.changeRegime 7 .normal).zones.get 28).demand = 400 := by decide +kernel

/-- Levels one below and at the wake levels, one lane that qualifies and two; a point with no dependant, with one, and with three. -/
theorem witness_InfluentAndAmmoniaUpdatesMoveTheLanes :
    waking.plant.storm = false ∧ (onPlant (fun p => { p with storm := true }) waking).plant.storm = true ∧
    (∀ k, ¬((waking.lanes.get k).config.ammoniaPoint = some 3 ∧ (waking.lanes.get k).config.wakeAmmonia ≤ (1999 : Int))) ∧
    (∀ k, ¬((waking.lanes.get k).state.regime = .economy ∧ (waking.lanes.get k).config.wakeInfluent ≤ (4999 : Int))) ∧
    (∀ k ∈ [(0 : LaneIdx), 7], ((asleep 0 waking).lanes.get k).state.regime = .economy ∧
      ((asleep 0 waking).lanes.get k).config.wakeMask.getLsbD 0 = true ∧ ((asleep 0 waking).lanes.get k).config.wakeMask.getLsbD 1 = true ∧
      ((asleep 0 waking).lanes.get k).config.ammoniaPoint = some 3 ∧ ((asleep 0 waking).lanes.get k).config.wakeAmmonia ≤ (2000 : Int) ∧
      ((asleep 0 waking).lanes.get k).config.wakeInfluent ≤ (5000 : Int)) ∧
    (∀ j, j ≠ 7 → (waking.lanes.get j).state.regime ≠ .economy) ∧ (asleep 0 waking).Calm ∧
    waking.dependants 3 = [] ∧ (reads 3 2000 waking).dependants 3 = [.ammoniaWake] ∧
    (onPlant (fun p => { p with config := { p.config with influentPoint := some 3 } }) (reads 3 2000 waking)).dependants 3 =
      [.storm, .influentWake, .ammoniaWake] := by
  refine ⟨rfl, rfl, ?_, ?_, ?_, ?_, calm_of (by decide +kernel), ?_, ?_, ?_⟩ <;> decide +kernel

/-- Lane 0 in NORMAL with economy allowed, low ammonia and some dwell. -/
def dwelling (ammonia : Int) (dwell : Nat) : State :=
  onLane 0 (fun l => { l with
    config := { l.config with autoEconomy := true, ammoniaPoint := some 3, dwellMinutes := 5 }, state := .normal, dwell := dwell })
    (reads 3 ammonia running)

/-- A pending set; none; ammonia above the enter level, and at it with the dwell one short of 300 s and at 300 s. -/
theorem witness_LanePeriodAppliesAndDwells :
    ((after (.writeFieldsLane 5 1 0 1 [30]) running).lanes.get 0).pending.isSome = true ∧ (running.lanes.get 0).pending = none ∧
    (running.lanes.get 0).state.regime ≠ .normal ∧
    (((dwelling 501 0).lanes.get 0).state = .normal ∧ (dwelling 501 0).usable (some 3) = some 501 ∧
      ¬((501 : Int) ≤ ((dwelling 501 0).lanes.get 0).config.enterLevel)) ∧
    (∀ d ∈ [239, 240], ((dwelling 500 d).lanes.get 0).state = .normal ∧ ((dwelling 500 d).lanes.get 0).config.autoEconomy = true ∧
      (dwelling 500 d).plant.storm = false ∧ (dwelling 500 d).usable ((dwelling 500 d).lanes.get 0).config.ammoniaPoint = some 500 ∧
      (500 : Int) ≤ ((dwelling 500 d).lanes.get 0).config.enterLevel) ∧
    ((dwelling 500 239).lanes.get 0).dwell + 60 < ((dwelling 500 239).lanes.get 0).config.dwellMinutes * 60 ∧
    ((dwelling 500 240).lanes.get 0).config.dwellMinutes * 60 ≤ ((dwelling 500 240).lanes.get 0).dwell + 60 := by decide +kernel

theorem witness_LanePeriodComputesTheZones :
    running.power = .running ∧ (running.lanes.get 0).timer = none ∧ lane2.power = .running ∧ (lane2.lanes.get 2).timer.isSome = true ∧
      lane2.Calm ∧ lane2.isIdle 0 = true ∧ lane2.isIdle 9 = false ∧
      ((lane2.laneOfZone 9).state.regime ≠ .tripped ∧ lane2.modeDecided 9 ≠ .held ∧ (lane2.zones.get 9).config.valveOutput = some 12) ∧
      (lane2.isIdle 8 = false ∧ (lane2.zones.get 8).config.valveOutput = none) ∧
      ((laneIn 2 (.tripped 3) lane2).isIdle 9 = false ∧ ((laneIn 2 (.tripped 3) lane2).laneOfZone 9).state.regime = .tripped) :=
  ⟨by decide, by decide +kernel, by decide, by decide +kernel, calm_of (by decide +kernel), by decide +kernel, by decide +kernel,
    ⟨by decide +kernel, by decide +kernel, by decide +kernel⟩, by decide +kernel, by decide +kernel⟩

theorem witness_PhaseExpiryTurnsTheCycle :
    (lane5 .airOn 600).power = .running ∧ ((lane5 .airOn 600).lanes.get 0).state.regime ≠ .economy ∧ (lane5 .airOn 600).raised = [] ∧
      ((lane5 .airOn 600).lanes.get 5).state =
        .economy { phase := .airOn, onFraction := 24, onLength := 675, offLength := 1125, timer := 0 } ∧
      ((lane5 .airOn 600).lanes.get 5).config.minimumOn ≤ 64 := by decide +kernel

/-! ### Witnesses: air -/

theorem witness_AllocationGrantsTheAir :
    running.allocator.timer = none ∧ (header .faulted).power = .running ∧ (header .faulted).allocator.timer.isSome = true ∧
      (header .faulted).Calm :=
  ⟨rfl, by decide, by decide, calm_of (by decide +kernel)⟩

/-- The zones of lane 0 take part, 900 of floors against a capacity of 900; a span of 1 and speeds 0 and 999. -/
theorem witness_GrantsFitAndSpeedDelivers :
    (header .faulted).isIdle 0 = false ∧ (header .faulted).totalFloor ≤ 900 ∧ (0 : Int) < 1 ∧
      ((0 : Int) ≤ 0 ∧ (0 : Int) < 1000) ∧ ((0 : Int) ≤ 999 ∧ (999 : Int) < 1000) := by decide +kernel

/-- A blower of each status that a fault moves, and one that a reading leaves as it is. -/
theorem witness_ReviewFollowsTheTable :
    (BlowerState.starting none 0).status = .starting ∧ (BlowerState.running true).status = .running ∧
      (BlowerState.stopping 0).status = .stopping ∧ (BlowerState.running false).reviewRaises .running = [] ∧
      (BlowerState.starting (some 0) 0).reviewRaises .handControl = [] := by decide

/-- Blower 5 in a state and in service, the allocator with its counts. -/
def staging (st : BlowerState) (up down : Nat) : State :=
  (onBlower 5 (fun b => { b with config := { b.config with inService := true, cmax := 1000 }, state := st }) running).withAllocator
    { running.allocator with upCount := up, downCount := down }

theorem witness_StagingMovesOneBlower :
    (∃ b, ((staging (.stopping 0) 0 0).blowers.get b).state.inTransition = true) ∧
    ((∀ b, ((staging (.running true) 0 0).blowers.get b).state.inTransition = false) ∧
      (staging (.running true) 0 0).HighestRank (fun x => x.state = .running true) 5) ∧
    ((∀ b, ((staging .stopped 0 0).blowers.get b).state.inTransition = false) ∧
      (∀ b, ((staging .stopped 0 0).blowers.get b).state ≠ .running true) ∧ (staging .stopped 0 0).LowestRank Blower.Ready 5 ∧
      (0 : Nat) < 1 ∧ 3 ≤ min (2 + 1) (staging .stopped 2 0).allocator.config.upDelay) ∧
    ((∀ b, ¬(running.blowers.get b).Ready) ∧ ((indices 6).filter fun b => (running.blowers.get b).state.isRunning) = []) ∧
    ((staging (.running false) 0 4).HighestRank (fun x => x.state.isRunning = true) 5 ∧
      ((indices 6).filter fun b => ((staging (.running false) 0 4).blowers.get b).state.isRunning).length = 1 ∧
      (∀ b, ¬((staging (.running false) 0 4).blowers.get b).Ready) ∧
      4 + 1 < (staging (.running false) 0 4).allocator.config.downDelay ∧
      (staging (.running false) 0 5).allocator.config.downDelay ≤ 5 + 1) := by
  refine ⟨by decide +kernel, ⟨by decide +kernel, by decide +kernel, ?_⟩,
    ⟨by decide +kernel, by decide +kernel, ⟨by decide +kernel, ?_⟩, by decide, by decide +kernel⟩, by decide +kernel,
    ⟨⟨by decide +kernel, ?_⟩, by decide +kernel, by decide +kernel, by decide +kernel, by decide +kernel⟩⟩
  all_goals intro c; revert c; decide +kernel

theorem witness_BlowerTimersExpire :
    ((staging (.starting none 700) 0 0).blowers.get 5).state = .starting none 700 ∧
    starting.power = .running ∧ (starting.blowers.get 2).state = .starting (some 0) 700 ∧ starting.raised = [] ∧
      starting.driveReading (some 100) = none ∧ (reads 100 0 starting).driveReading (some 100) = some .stopped ∧
      (reads 100 1 starting).driveReading (some 100) = some .running ∧ (reads 100 2 starting).driveReading (some 100) = some .fault ∧
      (reads 100 3 starting).driveReading (some 100) = some .handControl ∧
      ((staging (.stopping 0) 0 0).blowers.get 5).state = .stopping 0 ∧ (running.blowers.get 0).state.status ≠ .starting ∧
      (running.blowers.get 0).state.status ≠ .stopping := by decide +kernel

/-! ### Witnesses: return lines -/

/-- Manual: the pump SUPERVISED; still: no lane counts; storm: lane 0 in STORM; stale: no influent; the plant of section 7.5 otherwise. -/
theorem witness_PacingSetsTheTarget :
    plant75.power = .running ∧ (running.returns.get 0).timer = none ∧ (plant75.returns.get 0).timer.isSome = true ∧
      ((plant75.returns.get 0).config.pumpOutput = some 30 ∧ (plant75.outputs.get 30).state ≠ .supervised ∧
        ((onOutput 30 (fun o => { o with state := .supervised }) plant75).outputs.get 30).state = .supervised) ∧
      (∀ k, (running.lanes.get k).state.regime = .offline) ∧
      ((plant75.lanes.get 0).config.returnLine = some 0 ∧ ((laneIn 0 .storm plant75).lanes.get 0).state.regime = .storm ∧
        (∀ k, (plant75.lanes.get k).state.regime ≠ .storm)) ∧
      ((plant75.lanes.get 0).state.regime ≠ .offline ∧ (plant75.lanes.get 0).config.influentWeight = 25) ∧
      (onPoint 40 (fun p => { p with state := .empty }) plant75).usable plant75.plant.config.influentPoint = none ∧
      plant75.usable plant75.plant.config.influentPoint = some 3600 := by decide +kernel

/-! ### Witnesses: outputs and supervision -/

/-- Output 12 with last commanded 200 and deadband 5: offers of 204 and 205, no value yet, unsent, SUPERVISED, and output 63 unused. -/
theorem witness_OffersAndResendsSend :
    (output12.outputs.get 63).config.destination = 0 ∧
      ((onOutput 12 (fun o => { o with state := .supervised }) output12).outputs.get 12).state = .supervised ∧
      ((output12.outputs.get 12).config.destination ≠ 0 ∧ (output12.outputs.get 12).state = .auto) ∧
      ((onOutput 12 (fun o => { o with last := none }) output12).outputs.get 12).last = none ∧
      ((onOutput 12 (fun o => { o with unsent := true }) output12).outputs.get 12).unsent = true ∧
      ((output12.outputs.get 12).last = some 200 ∧ (output12.outputs.get 12).config.deadband ≤ ((205 : Int) - 200).natAbs ∧
        ¬((output12.outputs.get 12).config.deadband ≤ ((204 : Int) - 200).natAbs) ∧ (output12.outputs.get 12).unsent = false) ∧
      output12.power = .running ∧ (output12.outputs.get 63).resendTimer = none ∧ (output12.outputs.get 12).resendTimer.isSome = true ∧
      output12.raised = [] ∧ (output12.outputs.get 12).config.resend ≠ 0 := by decide +kernel

/-- Node 5 the only supervisor source. -/
def permitted5 (s : State) : State :=
  onRoute 0 { RouteConfig.default with valid := true, base := 5, supervisor := true } s

theorem witness_GuardTreatsItems :
    ((output12.outputs.get 12).state = .auto ∧
      ((onOutput 12 (fun o => { o with state := .supervised }) output12).outputs.get 12).state = .supervised) ∧
    (∀ o, ¬((output12.outputs.get o).config.destination ≠ 0 ∧ (output12.outputs.get o).config.destination = 0x2004 ∧
      (output12.outputs.get o).config.channel = 1)) ∧
    ((output12.outputs.get 12).config.destination ≠ 0 ∧ (output12.outputs.get 12).config.destination = 0x2004 ∧
      (output12.outputs.get 12).config.channel = 0 ∧ ∀ p, p < 12 → (output12.outputs.get p).config.destination = 0) ∧
    ((output12.outputs.get 12).config.kind = .zoneValve ∧
      ((laneIn 2 (.tripped 3) output12).lanes.get (laneOf (output12.outputs.get 12).config.owner)).state.regime = .tripped ∧
      (output12.lanes.get (laneOf (output12.outputs.get 12).config.owner)).state.regime ≠ .tripped) ∧
    ((permitted5 output12).isSupervisor 6 = false ∧ (permitted5 output12).isSupervisor 5 = true) ∧
    (output12.supervision.countdown = none ∧
      (output12.withSupervision { countdown := some 0, lost := false }).supervision.countdown.isSome = true) := by decide +kernel

theorem witness_RefreshAndCountdownExpiry :
    (running.Serves 5 ∧ running.supervision.lost = false) ∧
    ((running.withSupervision { countdown := none, lost := true }).Serves 5 ∧
      (running.withSupervision { countdown := none, lost := true }).Calm) ∧
    (running.power = .running ∧ running.supervision.countdown = none) ∧
    ((running.withSupervision { countdown := some 0, lost := false }).supervision.countdown.isSome = true ∧
      (running.withSupervision { countdown := some 0, lost := false }).supervision.lost = false) :=
  ⟨⟨running_serves, rfl⟩, ⟨serves_of (by decide +kernel), calm_of (by decide +kernel)⟩, ⟨rfl, rfl⟩, ⟨rfl, rfl⟩⟩

theorem witness_ReleaseOutputReturnsToAuto :
    (onOutput 63 (fun o => { o with state := .supervised }) running).Serves 5 ∧ 63 < (64 : Byte).toNat ∧
      (63 : Byte).toNat = (63 : OutputIdx).val ∧ (running.outputs.get 63).state = .auto ∧
      ((onOutput 63 (fun o => { o with state := .supervised }) running).outputs.get 63).state = .supervised :=
  ⟨serves_of (by decide +kernel), by decide, by decide, by decide +kernel, by decide +kernel⟩

/-! ### Witnesses: watches -/

/-- A watch in a state and with a test on a subject. -/
def watching (st : WatchState) (subject : Subject) (test : Test) (c : Nat) : State :=
  onWatch 31 (fun w => { w with
    config := { w.config with enable := true, subject := subject, test := test, persistence := 2 }, state := st, count := c })
    (reads 8 980 running)

theorem witness_EvaluationFormsAndCountsTheTruth :
    ((running.watches.get 31).state = .off ∧ ((watching .armed (.point 8) .above 1).watches.get 31).config.subject ≠ .point 9) ∧
    (∀ st ∈ [WatchState.armed, .waiting], ((watching st (.point 8) .above 1).watches.get 31).state ≠ .off ∧
      ((watching st (.point 8) .above 1).watches.get 31).config.subject = Change.subject (.point 8)) ∧
    (∀ test ∈ [Test.above, .below, .outside, .unusable], ((watching .armed (.point 8) test 1).watches.get 31).config.test = test) ∧
    ((watching .armed (.point 8) .above 1).points.get 8).state.usable = some 980 ∧
    ((watching .armed (.point 9) .above 1).points.get 9).state.usable = none ∧
    ((watching .armed (.level .airShort) .active 0).watches.get 31).config.subject = Change.subject (.level .airShort true) ∧
    ((watching .armed (.event .storeFault) .active 1).watches.get 31).config.subject = Change.subject (.event .storeFault) := by
  decide +kernel

/-- Watch 31 with actions, on a lane 7 that is in ECONOMY. -/
def firing (actions : BitVec 5) (armed : Bool) : State :=
  onWatch 31 (fun w => { w with config := { w.config with actions := actions, armed := armed, targetLane := 7 } }) waking

theorem witness_FiringTakesItsSteps :
    ((firing 0 false).watches.get 31).config.armed = false ∧
    (((firing 16 true).watches.get 31).config.armed = true ∧ ((firing 16 true).watches.get 31).config.actions.getLsbD 3 = false) ∧
    (∀ a ∈ [(8 : BitVec 5), 24], ((firing a true).watches.get 31).config.armed = true ∧
      ((firing a true).watches.get 31).config.actions.getLsbD 3 = true ∧
      ((firing a true).lanes.get ((firing a true).watches.get 31).config.targetLane).state.regime = .economy) ∧
    ((firing 8 true).watches.get 31).config.actions.getLsbD 4 = false ∧
    ((firing 24 true).watches.get 31).config.actions.getLsbD 4 = true ∧
    ((firing 2 true).power = .running ∧ ((firing 2 true).watches.get 31).config.armed = true ∧
      ((firing 2 true).watches.get 31).config.actions.getLsbD 1 = true) := by decide +kernel

theorem witness_WatchUnitTakesEveryArrival :
    ((running.raise (.event .storeFault)).raise (.event .routeRange)).raised = .event .storeFault :: [.event .routeRange] ∧
    running.raised = [] ∧ (running.raise (.event .storeFault)).raised = [.event .storeFault] ∧
      ((indices 32).foldl (fun u w => u.evaluateWatch (.event .storeFault) w)
        ((running.raise (.event .storeFault)).withRaised [])).raised = [] ∧
      (∀ ch ∈ (running.raise (.event .storeFault)).raised, ∀ w,
        ((running.raise (.event .storeFault)).watches.get w).state = .off ∨
          ((running.raise (.event .storeFault)).watches.get w).config.subject ≠ ch.subject) := by decide +kernel

theorem witness_HoldExpiryAndAcknowledge :
    ((watching (.fired (some 0)) (.point 8) .above 0).Serves 5 ∧
      ((watching (.fired (some 0)) (.point 8) .above 0).watches.get 31).state.hold?.isSome = true ∧
      ((watching (.fired (some 0)) (.point 8) .above 0).watches.get 31).state.isFired = true) ∧
    (running.Serves 5 ∧ (running.watches.get 31).state.hold? = none ∧ (running.watches.get 31).state.isFired = false) ∧
    31 < (32 : Byte).toNat ∧ (31 : Byte).toNat = (31 : WatchIdx).val :=
  ⟨⟨serves_of (by decide +kernel), by decide +kernel, by decide +kernel⟩, ⟨running_serves, by decide +kernel, by decide +kernel⟩,
    by decide, by decide⟩

/-- The named lane trips; lanes of other groups, and OFFLINE lanes of the group, do not. -/
theorem witness_TripRequestSpreads :
    ((laneIn 7 .storm running).lanes.get 7).state.regime ≠ .offline ∧ ((laneIn 7 .storm running).lanes.get 7).state.regime ≠ .tripped ∧
      (laneIn 7 .storm running).isIdle (zoneAt 7 3) = false ∧ (running.lanes.get 6).state.regime = .offline := by decide +kernel

/-! ### Witnesses: requests -/

/-- A transmit queue with n frames behind a busy line. -/
def queued (n : Nat) : State := sending [] (List.replicate n notice3) 0

theorem witness_RequestsAreCheckedFirst :
    Request.parts (.badRequest 6 1 16 []) = some (6, 1, 16, []) ∧
    ((permitted5 running).power = .running ∧ (6 : Addr) ≠ (permitted5 running).ownAddress ∧ (permitted5 running).isSupervisor 6 = false ∧
      (permitted5 running).ring.silent = false ∧ (permitted5 running).raised = [] ∧ (permitted5 running).ring.transmit.length < 16) ∧
    ((queued 15).Serves 6 ∧ Request.needs 16 [] = none ∧ Request.needs 0 [] = none) ∧
    (Request.needs 1 [8, 0, 9] = some 4 ∧ [(8 : Byte), 0, 9].length < 4) ∧
    ((queued 16).power = .running ∧ (queued 16).ring.silent = false ∧ (queued 16).Calm ∧ 16 ≤ (queued 16).ring.transmit.length) ∧
    ((onRing (fun r => { r with silent := true }) running).power = .running ∧
      (onRing (fun r => { r with silent := true }) running).ring.silent = true) ∧
    (running.power = .running ∧ running.ring.silent = false ∧ running.raised = [] ∧ (0xFE00 : Addr) = running.ownAddress) ∧
    ((Instr.readStatus 5 1).wf = true ∧ ∀ a b d e, Instr.readStatus 5 1 ≠ .badRequest a b d e) :=
  ⟨rfl, by decide +kernel, ⟨serves_of (by decide +kernel), rfl, rfl⟩, by decide, ⟨by decide, by decide, calm_of (by decide +kernel), by decide⟩,
    by decide, by decide, ⟨rfl, nofun⟩⟩

/-- Table 10, counts 0 and 9; the route table's 64 entries and 11 fields; the hit field alone, and a run that ends before it. -/
theorem witness_ReadFieldsReturnsTheRun :
    running.Serves 5 ∧ 9 < (10 : Byte).toNat ∧ 8 < (9 : Byte).toNat ∧ TableName.ofCode 0 = some .route ∧
      TableName.route.records ≤ (64 : Byte).toNat ∧ (63 : Byte).toNat < TableName.route.records ∧
      TableName.route.fields < (10 : Byte).toNat + (2 : Byte).toNat ∧ (10 : Byte).toNat + (1 : Byte).toNat ≤ TableName.route.fields ∧
      (2 : Byte).toNat + (8 : Byte).toNat ≤ 10 ∧ (63 : Byte).toNat = (63 : RouteIdx).val ∧ (10 : Byte).toNat ≤ 10 ∧
      10 < (10 : Byte).toNat + (1 : Byte).toNat := by
  refine ⟨running_serves, ?_⟩
  decide

/-- Table 10 with eight values, and a count of 9; no value and nine; entry 64; a locked entry; a FIRED watch; a run that reaches the locked field of a route entry. -/
theorem witness_WriteFieldsRefusesInOrder :
    running.Serves 5 ∧ ([] : List Word32).length = 0 ∧ 8 < (List.replicate 9 (0 : Word32)).length ∧
      TableName.route.records ≤ (64 : Byte).toNat ∧
      ((after (.lockRoute 5 1 63) running).Serves 5 ∧ ((after (.lockRoute 5 1 63) running).routes.get 63).locked = true) ∧
      ((watching (.fired none) (.point 8) .above 0).Serves 5 ∧
        ((watching (.fired none) (.point 8) .above 0).watches.get 31).state.isFired = true) ∧
      ((63 : Byte).toNat < TableName.route.records ∧ (∀ i : RouteIdx, (running.routes.get i).locked = false) ∧
        TableName.route.writable < (8 : Byte).toNat + [(0 : Word32), 0].length) ∧
      (9 < (10 : Byte).toNat ∧ 4 * (8 : Byte).toNat ≤ (List.replicate 32 (0 : Byte)).length ∧ 8 < (9 : Byte).toNat) :=
  ⟨running_serves, rfl, by decide, by decide, ⟨serves_of (by decide +kernel), by decide +kernel⟩,
    ⟨serves_of (by decide +kernel), by decide +kernel⟩, by decide +kernel, by decide⟩

/-- A numeric field and an enumeration; a valve output that the zone's owner accepts and one that it does not; a clamped value. -/
theorem witness_WrittenFieldsReadBack :
    (TableName.plant.fieldClasses fun _ => false)[3]? = some (.numeric 10 7200) ∧
      (TableName.route.fieldClasses fun _ => false)[7]? = some (.enumeration [1, 2, 4, 8]) ∧ (8 : Int) ∈ [(1 : Int), 2, 4, 8] ∧
      (3 : Int) ∉ [(1 : Int), 2, 4, 8] ∧
      (TableName.zone.fieldClasses fun o => o == 12)[2]? = some (.enumeration [-1, 12]) ∧
      PlantConfig.write PlantConfig.default 3 9 = some ({ PlantConfig.default with stormHold := 10 }, true) ∧ (10 : Nat) ≤ 10 := by
  decide +kernel

/-- One value and eight, the last record of each table, runs that are taken and runs that are refused. -/
theorem witness_WritesTakeEffectAtOnce :
    running.Serves 5 ∧ 1 ≤ [(4 : Word32)].length ∧ (List.replicate 8 (0 : Word32)).length ≤ 8 ∧
      (63 : Byte).toNat = (63 : RouteIdx).val ∧ (running.routes.get 63).locked = false ∧ (3 : Byte).toNat = (3 : LineIdx).val ∧
      (writeRun RouteConfig.write 3 (carried [4]) (running.routes.get 63).config).isSome = true ∧
      writeRun RouteConfig.write 9 (carried [4]) (running.routes.get 63).config = none ∧
      (writeRun ReturnConfig.write 6 (carried [4]) (running.returns.get 3).config).isSome = true ∧
      (writeRun PlantConfig.write 9 (carried [4]) running.plant.config).isSome = true ∧
      (writeRun AllocatorConfig.write 4 (carried [4]) running.allocator.config).isSome = true ∧
      (63 : Byte).toNat = (63 : OutputIdx).val ∧
      writeRun OutputConfig.write 7 (carried [9]) (running.outputs.get 63).config =
        some ({ (running.outputs.get 63).config with deadband := 9 }, false) ∧
      (∀ z, (running.zones.get z).config.valveOutput = none) ∧ (∀ k, (running.lanes.get k).pending = none) ∧
      (running.outputs.get 63).last = none ∧ 63 < (64 : Byte).toNat := by
  refine ⟨running_serves, ?_⟩
  decide +kernel

theorem witness_WritePointStartsItAnew :
    forcing.Serves 5 ∧ forcing.NoDependants 127 ∧ (127 : Byte).toNat = (127 : PointIdx).val ∧
      (writeRun PointConfig.write 3 (carried [300]) (forcing.points.get 127).config).isSome = true ∧
      writeRun PointConfig.write 5 (carried [300]) (forcing.points.get 127).config = none ∧
      (running.points.get 127).state.quality = .none :=
  ⟨serves_of (by decide +kernel), noDependants_of (by decide +kernel), by decide, by decide +kernel, by decide +kernel, by decide +kernel⟩

/-- Output 12 named by zone 9, which suits its kind and owner; a kind of GENERAL would not. -/
def named12 : State := onZone 9 (fun z => { z with config := { z.config with valveOutput := some 12 } }) output12

theorem witness_WriteOutputActsOnItsState :
    named12.Serves 5 ∧ (12 : Byte).toNat = (12 : OutputIdx).val ∧
      (writeRun OutputConfig.write 5 (carried [650]) (named12.outputs.get 12).config).isSome = true ∧
      writeRun OutputConfig.write 9 (carried [650]) (named12.outputs.get 12).config = none ∧
      ((named12.zones.get 9).config.valveOutput = some 12 ∧ (named12.outputs.get 12).config.kind = .zoneValve ∧
        (named12.outputs.get 12).config.owner = 9) ∧
      ((writeRun OutputConfig.write 2 (carried [4]) (named12.outputs.get 12).config).map (·.1.kind)) = some .general ∧
      ((named12.outputs.get 12).last = some 200 ∧ ¬((0 : Int) ≤ 200 ∧ (200 : Int) ≤ 199) ∧ ((200 : Int) ≤ 200 ∧ (200 : Int) ≤ 200)) ∧
      ((named12.outputs.get 12).config.channel ≠ 1 ∧
        ((onOutput 12 (fun o => { o with state := .supervised }) named12).outputs.get 12).state = .supervised) ∧
      (named12.outputs.get 12).Sound := by
  refine ⟨serves_of (by decide +kernel), by decide, by decide +kernel, by decide +kernel, by decide +kernel, by decide +kernel,
    by decide +kernel, by decide +kernel, ?_, ?_, ?_⟩
  · intro v h
    have : (named12.outputs.get 12).last = some 200 := by decide +kernel
    rw [this] at h
    cases h
    decide +kernel
  · decide +kernel
  · decide +kernel

theorem witness_LaneAndZoneWritesAreStaged :
    running.Serves 5 ∧ (7 : Byte).toNat = (7 : LaneIdx).val ∧ (31 : Byte).toNat = (31 : ZoneIdx).val ∧
      (writeRun LaneConfig.write 20 (carried [30]) (running.lanes.get 7).config).isSome = true ∧
      writeRun LaneConfig.write 21 (carried [30]) (running.lanes.get 7).config = none ∧
      (writeRun (ZoneConfig.write fun _ => false) 10 (carried [1500]) (running.zones.get 31).config).isSome = true ∧
      writeRun (ZoneConfig.write fun _ => false) 2 (carried [12]) (running.zones.get 31).config = none := by
  refine ⟨running_serves, ?_⟩
  decide +kernel

/-- Blower 5 against blower 4 of the same rank in service; a FAULTED blower that reads STOPPED; a watch that links to itself. -/
theorem witness_BlowerAndWatchWrites :
    (staging .faulted 0 0).Serves 5 ∧ (5 : Byte).toNat = (5 : BlowerIdx).val ∧ (31 : Byte).toNat = (31 : WatchIdx).val ∧
      (writeRun BlowerConfig.write 6 (carried [5]) ((staging .faulted 0 0).blowers.get 4).config).isSome = true ∧
      ((staging .faulted 0 0).blowers.get 5).config.inService = true ∧ ((staging .faulted 0 0).blowers.get 5).config.rank = 5 ∧
      ((staging .faulted 0 0).blowers.get 5).state = .faulted ∧
      (reads 0 0 (staging .faulted 0 0)).driveReading (some 0) = some .stopped ∧
      ((running.watches.get 31).state.isFired = false ∧
        (writeRun WatchConfig.write 1 (carried [128, 4]) (running.watches.get 31).config).isSome = true ∧
        writeRun WatchConfig.write 14 (carried [0]) (running.watches.get 31).config = none ∧
        (writeRun WatchConfig.write 7 (carried [30]) (running.watches.get 31).config).map (·.1.stage) = some (some 30)) :=
  ⟨serves_of (by decide +kernel), by decide +kernel⟩

theorem witness_ReadStatusReportsTheState :
    running.Serves 5 ∧ running.supervision.countdown ≠ some 0 ∧
      (running.withSupervision { countdown := some 1, lost := false }).Serves 5 ∧
      (running.withSupervision { countdown := some 1, lost := false }).supervision.countdown ≠ some 0 :=
  ⟨running_serves, by decide, serves_of (by decide +kernel), by decide⟩

theorem witness_CommitKeepsAndWritesASnapshot :
    (committing.Serves 5 ∧ committing.management.commit.isSome = true) ∧
      (running.Serves 5 ∧ running.management.commit = none ∧ running.raised = []) :=
  ⟨⟨serves_of (by decide +kernel), by decide +kernel⟩, ⟨running_serves, rfl, rfl⟩⟩

theorem witness_RestartTakesTheWarmState :
    (committing.Serves 5 ∧ committing.management.commit.isSome = true) ∧ (lane2.Serves 5 ∧ lane2.management.commit = none) :=
  ⟨⟨serves_of (by decide +kernel), by decide +kernel⟩, ⟨serves_of (by decide +kernel), by decide +kernel⟩⟩

/-- Lane 8; regimes 2 and 3; a lane of each regime, with and without a storm, and a TRIPPED lane whose cause is FIRED or not. -/
theorem witness_RegimeRequestsFollowTheTable :
    7 < (8 : Byte).toNat ∧ (7 : Byte).toNat = (7 : LaneIdx).val ∧ 2 < (3 : Byte).toNat ∧ (2 : Byte).toNat ≤ 2 ∧
      (∀ st ∈ [LaneState.offline, .normal, .storm, .tripped 12], (laneIn 7 st running).Serves 5 ∧ (laneIn 7 st running).Calm ∧
        ((laneIn 7 st running).lanes.get 7).state = st) ∧
      (waking.Serves 5 ∧ waking.Calm ∧ (waking.lanes.get 7).state.regime = .economy) ∧
      (running.plant.storm = false ∧ (onPlant (fun p => { p with storm := true }) running).plant.storm = true ∧
        (onPlant (fun p => { p with storm := true }) running).Serves 5) ∧
      ((running.watches.get 12).state.isFired = false ∧
        ((onWatch 12 (fun w => { w with state := .fired none }) running).watches.get 12).state.isFired = true) := by
  refine ⟨by decide, by decide, by decide, by decide, ?_, ⟨serves_of (by decide +kernel), calm_of (by decide +kernel), by decide +kernel⟩,
    ⟨rfl, rfl, serves_of (by decide +kernel)⟩, by decide +kernel⟩
  intro st hst
  simp only [List.mem_cons, List.not_mem_nil, or_false] at hst
  rcases hst with rfl | rfl | rfl | rfl <;>
    exact ⟨serves_of (by decide +kernel), calm_of (by decide +kernel), by decide +kernel⟩

/-- A history of n entries. -/
def historyOf (n : Nat) (frozen : Bool) : History :=
  { entries := List.replicate n { number := 0, time := 0, event := .restart }, next := 0, frozen := frozen }

theorem witness_HistoryIsCapturedAndRead :
    ((historyOf 0 true).frozen = true ∧ (historyOf 0 false).frozen = false) ∧ (historyOf 63 false).entries.length < 64 ∧
      ((historyOf 64 false).entries.head?.isSome = true ∧ (historyOf 64 false).entries.length = 64) ∧ running.Serves 5 ∧
      ((queued 16).Calm ∧ (queued 16).power = .running ∧ (5 : Addr) ≠ (queued 16).ownAddress ∧ (queued 16).isSupervisor 5 = true ∧
        (queued 16).ring.silent = false ∧ 16 ≤ (queued 16).ring.transmit.length) :=
  ⟨by decide, by decide, by decide, running_serves, calm_of (by decide +kernel), by decide +kernel⟩

theorem witness_ResumeCaptureEndsTheFreeze :
    (running.withHistory { running.history with frozen := true }).Serves 5 ∧ running.Serves 5 ∧ running.history.frozen = false :=
  ⟨serves_of (by decide +kernel), running_serves, rfl⟩

/-! ### Witnesses: the invariants meet a step -/

/-- The part as the bypass is about to end: a state with a next state that meets every invariant. -/
def beginning : State := State.reset.withPending [.bypassEnd]

theorem witness_StepsKeepRingAndHistorySound : (∃ t, step beginning = .next t) ∧ beginning.RingSound ∧ beginning.HistorySound := by
  refine ⟨⟨_, rfl⟩, ⟨by decide, by decide, by decide, by decide, fun _ => ⟨rfl, rfl⟩, fun _ => ⟨rfl, rfl⟩, fun _ => rfl⟩, ⟨by decide, fun i h => ?_⟩⟩
  obtain rfl : i = 0 := Nat.lt_one_iff.mp h
  rfl

theorem beginning_settings : beginning.SettingsSound := by
  refine ⟨⟨?_, ?_, ?_, ?_, ?_, ?_, ?_, ?_, ?_, ?_, ?_, ?_⟩, fun k p h => ?_, fun c h => ?_, fun i image h => ?_⟩
  · decide +kernel
  · decide +kernel
  · decide +kernel
  · decide +kernel
  · decide +kernel
  · intro z o; revert z o; decide +kernel
  · decide +kernel
  · intro b c; revert b c; decide +kernel
  · decide +kernel
  · have all : ∀ i, beginning.settings.watches.get i = WatchConfig.default := by decide +kernel
    intro i
    rw [all i]
    exact ⟨rfl, rfl, by decide, by decide, by decide, by decide, by decide, by decide⟩
  · decide +kernel
  · decide +kernel
  · have none : ∀ k, (beginning.lanes.get k).pending = none := by decide +kernel
    rw [none k] at h; cases h
  · cases h
  · have none : ∀ i, (beginning.management.images.get i).isNone = true := by decide +kernel
    have := none i
    rw [h] at this; cases this

theorem witness_StepsKeepSettingsAndValuesSound :
    (∃ t, step beginning = .next t) ∧ beginning.SettingsSound ∧ beginning.ValuesSound := by
  refine ⟨⟨_, rfl⟩, beginning_settings, beginning_settings, fun o => ?_, ?_, fun z => ⟨?_, ?_, ?_, fun g h => ?_⟩, ?_⟩
  · have fresh : ∀ o, beginning.outputs.get o = Output.fresh OutputConfig.default := by decide +kernel
    rw [fresh o]
    exact ⟨fun _ h => (by cases h), by decide, by decide⟩
  · have fresh : ∀ r, beginning.returns.get r = ReturnLine.fresh ReturnConfig.default := by decide +kernel
    intro r
    rw [fresh r]
    exact ⟨Nat.le_refl _, Nat.le_refl _⟩
  · revert z; decide +kernel
  · revert z; decide +kernel
  · revert z; decide +kernel
  · have none : ∀ z, (beginning.zones.get z).grant = none := by decide +kernel
    rw [none z] at h; cases h
  · decide +kernel

theorem witness_StepsKeepStormAndOverridesSound :
    (∃ t, step beginning = .next t) ∧ beginning.StormSound ∧ beginning.OverridesSound :=
  ⟨⟨_, rfl⟩, ⟨by decide +kernel, by decide +kernel, by decide +kernel, by decide, by decide +kernel⟩,
    ⟨by decide +kernel, by decide +kernel, by decide⟩⟩

theorem witness_StepsKeepBlowersAndWatchesSound :
    (∃ t, step beginning = .next t) ∧ beginning.BlowersSound ∧ beginning.WatchesSound := by
  refine ⟨⟨_, rfl⟩, ⟨by decide +kernel, by decide +kernel⟩, ⟨?_, rfl⟩⟩
  have fresh : ∀ w, beginning.watches.get w = Watch.fresh WatchConfig.default := by decide +kernel
  intro w
  rw [fresh w]
  exact ⟨by decide, fun h => (by cases h), fun h => (by cases h), by decide, fun h => (by cases h)⟩

theorem witness_StepsKeepTimersSound : (∃ t, step beginning = .next t) ∧ beginning.TimersSound :=
  ⟨⟨_, rfl⟩, ⟨fun h => (by cases h), fun h => (by cases h), fun h => (by cases h), fun h => (by cases h), by decide, fun h => (by cases h)⟩⟩

end Sys2Proof.Tests
end

section
/-! The supervisor test (R29): when one entry marks an address, when a table holds no supervisor entry, and the two clauses together. -/
namespace Sys2Proof.Machine

theorem RouteConfig.covers_iff (c : RouteConfig) (a : Addr) : c.covers a = true ↔ (a >>> c.exponent) <<< c.exponent = c.base := by
  rw [covers, beq_iff_eq, clearLow]

theorem RouteConfig.marks_iff (c : RouteConfig) (a : Addr) :
    c.marks a = true ↔ c.valid = true ∧ c.matchField = .source ∧ c.supervisor = true ∧ (a >>> c.exponent) <<< c.exponent = c.base := by
  simp only [marks, Bool.and_eq_true, beq_iff_eq, covers_iff]
  constructor
  · rintro ⟨⟨⟨valid, flag⟩, source⟩, block⟩
    exact ⟨valid, source, flag, block⟩
  · rintro ⟨valid, source, flag, block⟩
    exact ⟨⟨⟨valid, flag⟩, source⟩, block⟩

/-- The match field plays no part here: a valid DESTINATION entry with the flag also makes the supervisors a named few. -/
theorem State.no_supervisor_entry_iff (s : State) :
    (!(s.routes.rows.any fun r => r.config.valid && r.config.supervisor)) = true ↔
      ∀ i, ¬((s.routes.get i).config.valid = true ∧ (s.routes.get i).config.supervisor = true) := by
  rw [Bool.not_eq_true', ← Bool.not_eq_true, Table.any_rows, not_exists]
  simp only [Bool.and_eq_true]

theorem State.isSupervisor_iff (s : State) (a : Addr) :
    s.isSupervisor a = true ↔ (∃ i, (s.routes.get i).config.marks a = true) ∨
      ∀ i, ¬((s.routes.get i).config.valid = true ∧ (s.routes.get i).config.supervisor = true) := by
  rw [isSupervisor, Bool.or_eq_true, Table.any_rows, no_supervisor_entry_iff]

/-- Settles O17: the supervisor test is its two clauses over the table, and the first is `RouteConfig.marks_iff` at some entry. -/
theorem supervisorSourcesAreThoseMarked : Obligations.SupervisorSourcesAreThoseMarked := by
  intro s a
  rw [State.isSupervisor_iff]
  simp only [RouteConfig.marks_iff]

end Sys2Proof.Machine
end

section
/-! Staging (R116, R118, R120 to R122): the blower a rank picks, what staging up and down decide, and what a start and a stop are. -/
namespace Sys2Proof.Machine

/-! ### The pick by rank (R112) -/

/-- The blower of a list with the least key, the later one among equals giving way: the recursion both picks by rank share. -/
def leastBy (key : BlowerIdx → Int) : List BlowerIdx → Option BlowerIdx
  | [] => none
  | b :: rest => (leastBy key rest).elim (some b) fun c => if key b ≤ key c then some b else some c

theorem leastBy_spec (key : BlowerIdx → Int) :
    ∀ l, l ≠ [] → ∃ m ∈ l, leastBy key l = some m ∧ ∀ c ∈ l, key m ≤ key c
  | [], h => absurd rfl h
  | [b], _ => ⟨b, by simp, rfl, by simp⟩
  | b :: d :: rest, _ => by
    obtain ⟨m, mem, pick, least⟩ := leastBy_spec key (d :: rest) (by simp)
    rw [leastBy, pick]
    by_cases le : key b ≤ key m
    · refine ⟨b, by simp, by simp [le], fun c hc => ?_⟩
      obtain rfl | hc := List.mem_cons.1 hc
      · exact le_rfl
      · exact le.trans (least c hc)
    · refine ⟨m, List.mem_cons_of_mem b mem, by simp [le], fun c hc => ?_⟩
      obtain rfl | hc := List.mem_cons.1 hc
      · exact (not_le.1 le).le
      · exact least c hc

theorem leastBy_eq_some {key : BlowerIdx → Int} {l : List BlowerIdx} {b : BlowerIdx} (mem : b ∈ l)
    (least : ∀ c ∈ l, c ≠ b → key b < key c) : leastBy key l = some b := by
  obtain ⟨m, hm, pick, le⟩ := leastBy_spec key l (List.ne_nil_of_mem mem)
  by_cases same : m = b
  · rw [pick, same]
  · exact absurd (le b mem) (not_le.2 (least m hm same))

namespace State

theorem lowestRank_eq_leastBy (s : State) : ∀ l, s.lowestRank l = leastBy (fun b => s.rankKey b) l
  | [] => rfl
  | b :: rest => by
    rw [lowestRank, leastBy, ← lowestRank_eq_leastBy s rest]
    cases s.lowestRank rest <;> simp

theorem highestRank_eq_leastBy (s : State) : ∀ l, s.highestRank l = leastBy (fun b => -s.rankKey b) l
  | [] => rfl
  | b :: rest => by
    rw [highestRank, leastBy, ← highestRank_eq_leastBy s rest]
    cases s.highestRank rest <;> simp

/-- The key orders by lead rank, and by index among equals. -/
theorem rankKey_lt_iff (s : State) (b c : BlowerIdx) : s.rankKey b < s.rankKey c ↔
    (s.blowers.get b).config.rank < (s.blowers.get c).config.rank ∨
      ((s.blowers.get b).config.rank = (s.blowers.get c).config.rank ∧ b < c) := by
  simp only [rankKey, Fin.lt_def, Fin.ext_iff]
  omega

section
variable {s : State} {kind : Blower → Prop} {p : BlowerIdx → Bool} (isKind : ∀ c, p c = true ↔ kind (s.blowers.get c))
include isKind

theorem filter_indices_eq_nil (no : ∀ b, ¬kind (s.blowers.get b)) : (indices 6).filter p = [] :=
  List.filter_eq_nil_iff.2 fun b _ hb => no b ((isKind b).1 hb)

theorem lowestRank_of_kind {b : BlowerIdx} (h : s.LowestRank kind b) : s.lowestRank ((indices 6).filter p) = some b := by
  obtain ⟨isB, lowest⟩ := h
  rw [lowestRank_eq_leastBy]
  refine leastBy_eq_some (by simpa using (isKind b).2 isB) fun c hc ne => Int.ofNat_lt.2 ((rankKey_lt_iff s b c).2 ?_)
  exact lowest c ((isKind c).1 (List.mem_filter.1 hc).2) ne

theorem highestRank_of_kind {b : BlowerIdx} (h : s.HighestRank kind b) : s.highestRank ((indices 6).filter p) = some b := by
  obtain ⟨isB, highest⟩ := h
  rw [highestRank_eq_leastBy]
  refine leastBy_eq_some (by simpa using (isKind b).2 isB) fun c hc ne =>
    Int.neg_lt_neg (Int.ofNat_lt.2 ((rankKey_lt_iff s c b).2 ?_))
  exact highest c ((isKind c).1 (List.mem_filter.1 hc).2) ne

end

/-! ### Staging up (R121) -/

theorem candidate_isReady (s : State) (c : BlowerIdx) :
    ((s.blowers.get c).config.inService && (s.blowers.get c).state == .stopped) = true ↔ (s.blowers.get c).Ready := by
  rw [Bool.and_eq_true, beq_iff_eq]

theorem candidate_of_lowestRank {s : State} {b : BlowerIdx} (h : s.LowestRank Blower.Ready b) : s.candidate = some b :=
  lowestRank_of_kind s.candidate_isReady h

theorem candidate_eq_none {s : State} (h : ∀ b, ¬(s.blowers.get b).Ready) : s.candidate = none := by
  rw [candidate, filter_indices_eq_nil s.candidate_isReady h, lowestRank]

/-- The demand is above the share of the capacity at which staging up counts (R121). -/
abbrev DemandHigh (s : State) (D C : Nat) : Prop := C * s.allocator.config.upThreshold < D * 1000

/-- The count of allocations with a high demand, as this one leaves it (R121). -/
abbrev nextUpCount (s : State) (D C : Nat) : Nat :=
  if (C = 0 ∧ 0 < D) ∨ ¬s.DemandHigh D C then 0 else min (s.allocator.upCount + 1) s.allocator.config.upDelay

/-- Staging up wants a start: there is no capacity for a demand, or the demand has been high for the delay (R121). -/
abbrev WantsStart (s : State) (D C : Nat) : Prop :=
  (C = 0 ∧ 0 < D) ∨ (s.DemandHigh D C ∧ s.allocator.config.upDelay ≤ s.nextUpCount D C)

theorem stageUp_eq (s : State) (D C : Nat) :
    s.stageUp D C = (s.nextUpCount D C, if s.WantsStart D C then s.candidate else none) := by
  unfold stageUp WantsStart nextUpCount
  by_cases without : C = 0 ∧ 0 < D
  · simp [without]
  · by_cases high : s.DemandHigh D C
    · simp [without, high]
    · simp [without, high]

theorem stageUp_of_start {s : State} {D C : Nat} {b : BlowerIdx} (wants : s.WantsStart D C) (h : s.LowestRank Blower.Ready b) :
    s.stageUp D C = (s.nextUpCount D C, some b) := by
  rw [stageUp_eq, if_pos wants, candidate_of_lowestRank h]

theorem stageUp_of_noStart {s : State} {D C : Nat} (h : ¬s.WantsStart D C ∨ ∀ b, ¬(s.blowers.get b).Ready) :
    s.stageUp D C = (s.nextUpCount D C, none) := by
  rw [stageUp_eq]
  obtain h | h := h
  · rw [if_neg h]
  · rw [candidate_eq_none h, ite_self]

/-! ### Staging down (R122) -/

/-- The RUNNING blower l can be spared: the demand fits the capacity without it, or it is the last one and no demand is left (R122). -/
abbrev CanSpare (s : State) (D C : Nat) (l : BlowerIdx) : Prop :=
  (2 ≤ s.runningBlowers.length ∧ D * 1000 < (C - (s.blowers.get l).config.cmax) * s.allocator.config.downThreshold) ∨
    (s.runningBlowers.length = 1 ∧ D = 0)

theorem surplus_of_highestRank {s : State} {l : BlowerIdx} (D C : Nat) (h : s.HighestRank (·.state.isRunning = true) l) :
    s.surplus D C = if s.CanSpare D C l then some l else none := by
  have highest : s.highestRank s.runningBlowers = some l := highestRank_of_kind (fun _ => Iff.rfl) h
  unfold surplus CanSpare
  match eq : s.runningBlowers with
  | [] => rw [eq] at highest; cases highest
  | [b] =>
    obtain rfl : b = l := by rw [eq] at highest; exact Option.some.inj highest
    simp
  | b :: c :: rest =>
    rw [eq] at highest
    simp [highest]

theorem stageDown_of_noneRunning {s : State} (D C up : Nat) (h : s.runningBlowers = []) : s.stageDown D C up = s.setCounts up 0 := by
  rw [stageDown, surplus, h]

section
variable {s : State} {D C : Nat} {l : BlowerIdx} (up : Nat) (highest : s.HighestRank (·.state.isRunning = true) l)
include highest

theorem stageDown_of_not_canSpare (h : ¬s.CanSpare D C l) : s.stageDown D C up = s.setCounts up 0 := by
  rw [stageDown, surplus_of_highestRank D C highest, if_neg h]

theorem stageDown_of_canSpare (h : s.CanSpare D C l) : s.stageDown D C up =
    if s.allocator.config.downDelay ≤ s.allocator.downCount + 1 then s.stopBlower l
    else s.setCounts up (s.allocator.downCount + 1) := by
  rw [stageDown, surplus_of_highestRank D C highest, if_pos h]

end

/-! ### One staging (R120 to R122) -/

theorem stage_of_inTransition {s : State} (D C : Nat) (h : ∃ b, (s.blowers.get b).state.inTransition = true) : s.stage D C = s :=
  if_pos ((Table.any_rows _ _).2 h)

theorem stopPending_iff (s : State) (c : BlowerIdx) :
    ((s.blowers.get c).state == .running true) = true ↔ (s.blowers.get c).state = .running true := beq_iff_eq

theorem highestRank_of_noStopPending {s : State} (h : ∀ b, (s.blowers.get b).state ≠ .running true) :
    s.highestRank ((indices 6).filter fun b => (s.blowers.get b).state == .running true) = none := by
  rw [filter_indices_eq_nil (kind := fun x => x.state = .running true) s.stopPending_iff h, highestRank]

section
variable {s : State} {D C : Nat} (settled : ∀ b, (s.blowers.get b).state.inTransition = false)
include settled

theorem not_any_inTransition : ¬(s.blowers.rows.any (·.state.inTransition)) = true := by
  rw [Table.any_rows]
  rintro ⟨b, moving⟩
  exact absurd moving (by simp [settled b])

theorem stage_of_stopPending {b : BlowerIdx} (h : s.HighestRank (fun x => x.state = .running true) b) :
    s.stage D C = s.stopBlower b := by
  rw [stage, if_neg (not_any_inTransition settled), highestRank_of_kind s.stopPending_iff h]

variable (noPending : ∀ b, (s.blowers.get b).state ≠ .running true)
include noPending

theorem stage_of_start {b : BlowerIdx} (wants : s.WantsStart D C) (h : s.LowestRank Blower.Ready b) :
    s.stage D C = s.startBlower b := by
  rw [stage, if_neg (not_any_inTransition settled), highestRank_of_noStopPending noPending,
    stageUp_of_start wants h]

theorem stage_of_noStart (h : ¬s.WantsStart D C ∨ ∀ b, ¬(s.blowers.get b).Ready) :
    s.stage D C = s.stageDown D C (s.nextUpCount D C) := by
  rw [stage, if_neg (not_any_inTransition settled), highestRank_of_noStopPending noPending,
    stageUp_of_noStart h]

end

/-! ### A start and a stop (R116, R118) -/

@[simp] theorem offerTo_blowers (s : State) (o : Option OutputIdx) (v : Int) : (s.offerTo o v).blowers = s.blowers :=
  offerTo_but o v s .blowers (by decide)

@[simp] theorem offerTo_allocator (s : State) (o : Option OutputIdx) (v : Int) : (s.offerTo o v).allocator = s.allocator :=
  offerTo_but o v s .allocator (by decide)

@[simp] theorem changeBlower_allocator (b : BlowerIdx) (new : BlowerState) (s : State) :
    (s.changeBlower b new).allocator = s.allocator := rfl

theorem changeBlower_blowers (b : BlowerIdx) (new : BlowerState) (s : State) :
    (s.changeBlower b new).blowers = s.blowers.set b { s.blowers.get b with state := new } := rfl

@[simp] theorem changeBlower_config (b : BlowerIdx) (new : BlowerState) (s : State) :
    ((s.changeBlower b new).blowers.get b).config = (s.blowers.get b).config := by
  rw [changeBlower_blowers, Table.get_set_self]

theorem startBlower_eq (b : BlowerIdx) (s : State) : s.startBlower b =
    (((s.changeBlower b (.starting (some ((s.blowers.get b).config.warmUp * 10)) ((s.blowers.get b).config.timeout * 10))).offerTo
      (s.blowers.get b).config.speedOutput 0).offerTo (s.blowers.get b).config.runOutput 1).withAllocator
        { s.allocator with upCount := 0, downCount := 0 } := by
  simp only [startBlower, offerSpeed, offerRun, setCounts, tenths, offerTo_blowers, offerTo_allocator, changeBlower_config,
    changeBlower_allocator]

theorem stopBlower_eq (b : BlowerIdx) (s : State) : s.stopBlower b =
    ((s.changeBlower b (.stopping ((s.blowers.get b).config.rundown * 10))).offerTo (s.blowers.get b).config.speedOutput 0).withAllocator
      { s.allocator with upCount := 0, downCount := 0 } := by
  simp only [stopBlower, offerSpeed, setCounts, tenths, offerTo_allocator, changeBlower_config, changeBlower_allocator]

theorem startBlower_blowers (b : BlowerIdx) (s : State) : (s.startBlower b).blowers = s.blowers.set b { s.blowers.get b with
    state := .starting (some ((s.blowers.get b).config.warmUp * 10)) ((s.blowers.get b).config.timeout * 10) } := by
  rw [startBlower_eq, withAllocator_blowers, offerTo_blowers, offerTo_blowers, changeBlower_blowers]

theorem stopBlower_blowers (b : BlowerIdx) (s : State) : (s.stopBlower b).blowers = s.blowers.set b { s.blowers.get b with
    state := .stopping ((s.blowers.get b).config.rundown * 10) } := by
  rw [stopBlower_eq, withAllocator_blowers, offerTo_blowers, changeBlower_blowers]

@[simp] theorem startBlower_allocator (b : BlowerIdx) (s : State) :
    (s.startBlower b).allocator = { s.allocator with upCount := 0, downCount := 0 } := by
  rw [startBlower_eq, withAllocator_allocator]

@[simp] theorem stopBlower_allocator (b : BlowerIdx) (s : State) :
    (s.stopBlower b).allocator = { s.allocator with upCount := 0, downCount := 0 } := by
  rw [stopBlower_eq, withAllocator_allocator]

end State

/-- Settles O29: staging takes its branches in the order of R120 to R122, a start or a stop is offered as R116 and R118 say, and the
rank key picks the blower the ranks name. -/
theorem stagingMovesOneBlower : Obligations.StagingMovesOneBlower := by
  intro s D C
  refine ⟨State.stage_of_inTransition D C, fun settled => ⟨fun b => State.stage_of_stopPending settled, fun noPending => ⟨fun b =>
    State.stage_of_start settled noPending, fun noStart => ?_⟩⟩, fun b => ?_⟩
  · rw [State.stage_of_noStart settled noPending noStart]
    refine ⟨State.stageDown_of_noneRunning D C _, fun l highest => ⟨State.stageDown_of_not_canSpare _ highest, ?_, ?_⟩⟩
    · intro spare early
      rw [State.stageDown_of_canSpare _ highest spare, if_neg (Nat.not_le.2 early)]
      rfl
    · intro spare due
      rw [State.stageDown_of_canSpare _ highest spare, if_pos due]
  · exact ⟨s.startBlower_allocator b, s.stopBlower_allocator b, s.startBlower_blowers b, s.stopBlower_blowers b,
      s.startBlower_eq b, s.stopBlower_eq b⟩

end Sys2Proof.Machine
end

section
/-! A request that is served (R182, R183): the frame that brings it restarts the ring-silence timer, and its reply joins the transmit queue
last. -/
namespace Sys2Proof.Machine.State

variable {s : State} {src : Addr}

theorem heard_of_quiet (silent : s.ring.silent = false) (raised : s.raised = []) : s.heard = s.hearing := by
  have quiet : s.hearing.setLevel .ringSilent false = s.hearing := if_pos silent
  have started : s.startSilence = s.hearing := rfl
  rw [heard, started, quiet]
  exact drain_of_raised_nil raised

theorem requestArrives_of_serves (serves : s.Serves src) (code tag : Byte) (r : Request) :
    s.requestArrives src code tag (some r) = reply src code tag (s.hearing.perform src tag r) := by
  have permitted : s.hearing.isSupervisor src = true := serves.permitted
  have other : src ≠ s.hearing.ownAddress := serves.other
  simp only [requestArrives, serves.power, heard_of_quiet serves.heard serves.raised, if_neg other, agent, check, permitted,
    Bool.true_eq_false, if_false]

theorem send_of_room (room : s.ring.transmit.length < 16) (dst : Addr) (b : Body) :
    s.send dst b = s.withRing (s.ring.join s.ownAddress { dst := dst, body := b }) := by
  rw [send, enqueue, if_pos room]

theorem reply_of_room (raised : s.raised = []) (room : s.ring.transmit.length < 16) (code tag : Byte) (result : Result)
    (data : List Byte) : reply src code tag (s, some (result, data)) =
      s.withRing (s.ring.join s.ownAddress { dst := src, body := .reply code tag result data }) := by
  have joined := send_of_room room src (.reply code tag result data)
  simp only [reply, drain_of_raised_nil raised, joined]
  exact drain_of_raised_nil raised

/-- A request that changes nothing is answered and no more. -/
theorem reply_hearing (serves : s.Serves src) (code tag : Byte) (result : Result) (data : List Byte) :
    reply src code tag (s.hearing, some (result, data)) = s.replied src code tag result data :=
  reply_of_room (s := s.hearing) serves.raised serves.room code tag result data

theorem atIndex_of_le {n : Nat} {i : Byte} (h : n ≤ i.toNat) (f : Fin n → Outcome) : s.atIndex n i f = (s, .badIndex) :=
  dif_neg (Nat.not_lt.2 h)

theorem atIndex_of_eq {n : Nat} {i : Byte} {k : Fin n} (h : i.toNat = k.val) (f : Fin n → Outcome) : s.atIndex n i f = f k := by
  have lt : i.toNat < n := h ▸ k.isLt
  have same : (⟨i.toNat, lt⟩ : Fin n) = k := Fin.ext h
  rw [atIndex, dif_pos lt, same]

end Sys2Proof.Machine.State
end

section
/-! A change of an output's state (R141): the zones that name the output and are not idle decide their modes in index order (R83, R84), which
is one rewriting of the zone table and one run of ZONE_MODE entries behind the OVERRIDE entry. -/
namespace Sys2Proof.Machine

/-- A zone that takes a mode it did not have: a change into DO_CONTROL sets re-seed pending (R84). -/
def Zone.withMode (zn : Zone) (m : Mode) : Zone := { zn with mode := m, reseed := zn.reseed || m == .doControl }

namespace State

/-- The mode of a zone whose valve output is in the state (R83). -/
def modeUnder (s : State) (new : OutputState) (z : ZoneIdx) : Mode :=
  if new = .supervised then .held
  else if (s.usable (s.zones.get z).config.doPoint).isSome then .doControl else .fixedAir

/-- The zone names the output, is not idle, and has another mode than the given one: a report of the output moves it (R84). -/
abbrev MovesZone (s : State) (o : OutputIdx) (mode : ZoneIdx → Mode) (z : ZoneIdx) : Prop :=
  (s.zones.get z).config.valveOutput = some o ∧ s.isIdle z = false ∧ (s.zones.get z).mode ≠ mode z

/-- The state once the zones of a list have taken new modes, each with its ZONE_MODE entry in the order of the list. -/
def withModes (s : State) (mode : ZoneIdx → Mode) (moved : List ZoneIdx) : State :=
  (s.withZones (Table.build fun z =>
    let zn := s.zones.get z
    if z ∈ moved then zn.withMode (mode z) else zn)).withHistory
    (moved.foldl (fun h z => h.capture s.timeCount (.zoneMode z (s.zones.get z).mode (mode z))) s.history)

section
variable {s : State} {o : OutputIdx} {mode : ZoneIdx → Mode} {moved : List ZoneIdx} {z : ZoneIdx}

theorem withModes_nil : s.withModes mode [] = s := by
  have zones : (Table.build fun z => s.zones.get z) = s.zones := Table.build_get s.zones
  simp only [withModes, List.not_mem_nil, if_false, List.foldl_nil, zones, withZones_self]
  exact withHistory_self s

theorem withModes_zone_of_notMem (new : z ∉ moved) : (s.withModes mode moved).zones.get z = s.zones.get z := by
  simp [withModes, new]

/-- A mode is decided from the points and the outputs, which new modes of zones leave as they are. -/
theorem withModes_modeOf (c : ZoneConfig) : (s.withModes mode moved).modeOf c = s.modeOf c := rfl

theorem withModes_isIdle : (s.withModes mode moved).isIdle z = s.isIdle z := rfl

theorem withModes_snoc : s.withModes mode (moved ++ [z]) =
    ((s.withModes mode moved).setZone z ((s.zones.get z).withMode (mode z))).capture
      (.zoneMode z (s.zones.get z).mode (mode z)) := by
  have zones : (s.withModes mode (moved ++ [z])).zones = (s.withModes mode moved).zones.set z
      ((s.zones.get z).withMode (mode z)) := by
    apply Table.ext_get
    intro y
    by_cases same : y = z
    · subst same
      simp [withModes]
    · simp [withModes, same]
  have history : (s.withModes mode (moved ++ [z])).history =
      (s.withModes mode moved).history.capture s.timeCount (.zoneMode z (s.zones.get z).mode (mode z)) := by
    simp [withModes]
  calc s.withModes mode (moved ++ [z])
      = (s.withZones (s.withModes mode (moved ++ [z])).zones).withHistory (s.withModes mode (moved ++ [z])).history := rfl
    _ = _ := by rw [zones, history]; rfl

/-- One zone's part in the report, after other zones have taken theirs: it decides as it would have at the start. -/
theorem decideMode_withModes (new : z ∉ moved) (decides : s.modeOf (s.zones.get z).config = mode z) :
    (s.withModes mode moved).decideMode z =
      if (s.zones.get z).mode ≠ mode z then s.withModes mode (moved ++ [z]) else s.withModes mode moved := by
  rw [decideMode, withModes_zone_of_notMem new, withModes_modeOf, decides, ite_not, withModes_snoc]
  rfl

theorem filter_movesZone_snoc (l : List ZoneIdx) :
    (l ++ [z]).filter (fun y => decide (s.MovesZone o mode y)) =
      if s.MovesZone o mode z then l.filter (fun y => decide (s.MovesZone o mode y)) ++ [z]
      else l.filter (fun y => decide (s.MovesZone o mode y)) := by
  rw [List.filter_append, List.filter_singleton]
  by_cases moves : s.MovesZone o mode z
  · rw [if_pos moves, decide_eq_true moves]; rfl
  · rw [if_neg moves, decide_eq_false moves]; exact List.append_nil _

theorem each_snoc {α : Type} (s : State) (l : List α) (a : α) (f : α → State → State) :
    s.each (l ++ [a]) f = f a (s.each l f) := List.foldl_append

/-- The report over any list of distinct zones, by induction from its end; what a zone decides does not depend on the zones before it. -/
theorem report_zones_eq (decides : ∀ z, (s.zones.get z).config.valveOutput = some o → s.modeOf (s.zones.get z).config = mode z)
    (l : List ZoneIdx) (distinct : l.Nodup) :
    s.each l (fun z s => if (s.zones.get z).config.valveOutput = some o ∧ s.isIdle z = false then s.decideMode z else s) =
      s.withModes mode (l.filter fun z => decide (s.MovesZone o mode z)) := by
  induction l using List.reverseRecOn with
  | nil => exact withModes_nil.symm
  | append_singleton l z ih =>
    obtain ⟨distinct, -, apart⟩ := List.nodup_append.1 distinct
    have new : z ∉ l.filter fun z => decide (s.MovesZone o mode z) := fun mem =>
      apart z (List.mem_of_mem_filter mem) z (List.mem_singleton_self z) rfl
    rw [each_snoc, ih distinct, withModes_zone_of_notMem new, withModes_isIdle, filter_movesZone_snoc]
    by_cases named : (s.zones.get z).config.valveOutput = some o ∧ s.isIdle z = false
    · obtain ⟨names, busy⟩ := named
      simp only [decideMode_withModes new (decides z names), MovesZone, names, busy, and_self, true_and, if_true]
      split <;> rfl
    · have stays : ¬s.MovesZone o mode z := fun ⟨names, busy, _⟩ => named ⟨names, busy⟩
      rw [if_neg named, if_neg stays]

theorem reportOutput_eq (decides : ∀ z, (s.zones.get z).config.valveOutput = some o → s.modeOf (s.zones.get z).config = mode z) :
    s.reportOutput o = s.withModes mode ((indices 32).filter fun z => decide (s.MovesZone o mode z)) :=
  report_zones_eq decides (indices 32) (List.nodup_finRange 32)

/-- A zone that names an output in the state decides the mode of that state. -/
theorem modeOf_of_output {new : OutputState} (names : (s.zones.get z).config.valveOutput = some o)
    (state : (s.outputs.get o).state = new) : s.modeOf (s.zones.get z).config = s.modeUnder new z := by
  simp only [modeOf, modeUnder, isSupervised, names, state, beq_iff_eq]
  cases s.usable (s.zones.get z).config.doPoint <;> rfl

theorem changeOutput_of_eq {new : OutputState} (h : (s.outputs.get o).state = new) : s.changeOutput o new = s := if_pos h

@[simp] theorem changeOutput_raised (s : State) (o : OutputIdx) (new : OutputState) : (s.changeOutput o new).raised = s.raised :=
  changeOutput_but o new s .raised (by decide)

@[simp] theorem changeOutput_transmit (s : State) (o : OutputIdx) (new : OutputState) :
    (s.changeOutput o new).ring.transmit = s.ring.transmit := by
  obtain ⟨-, transmit, -⟩ := changeOutput_but o new s .traffic (by decide)
  exact transmit

theorem changeOutput_of_ne {new : OutputState} (h : (s.outputs.get o).state ≠ new) : s.changeOutput o new =
    ((s.withOutputs (s.outputs.set o { s.outputs.get o with state := new })).capture
      (.override o (s.outputs.get o).state new)).withModes (s.modeUnder new)
        ((indices 32).filter fun z => decide (s.MovesZone o (s.modeUnder new) z)) := by
  let changed := (s.setOutput o { s.outputs.get o with state := new }).capture (.override o (s.outputs.get o).state new)
  have state : (changed.outputs.get o).state = new := congrArg Output.state (Table.get_set_self s.outputs o _)
  have unfolded : s.changeOutput o new = changed.reportOutput o := if_neg h
  rw [unfolded, reportOutput_eq fun z names => modeOf_of_output names state]
  rfl

end

theorem releaseOutput_of_badIndex (s : State) {output : Byte} (h : 63 < output.toNat) : s.releaseOutput output = (s, .badIndex) :=
  atIndex_of_le h _

theorem releaseOutput_of_index (s : State) {output : Byte} {o : OutputIdx} (h : output.toNat = o.val) :
    s.releaseOutput output = (s.changeOutput o .auto, .ok) := atIndex_of_eq h _

/-- RELEASE_OUTPUT, served, is its effects on the hearing state and then its reply. -/
theorem exec_releaseOutput {s : State} {src : Addr} (serves : s.Serves src) (tag output : Byte) {t : State} {r : Result}
    (effects : s.hearing.releaseOutput output = (t, r)) :
    exec (.releaseOutput src tag output) s = .next (reply src 12 tag (t, some (r, []))) := by
  have arrives := requestArrives_of_serves serves 12 tag (.releaseOutput output)
  have performs : s.hearing.perform src tag (.releaseOutput output) = (t, some (r, [])) := congrArg Outcome.answered effects
  rw [performs] at arrives
  exact congrArg Host.Outcome.next arrives

end State

/-- Settles O35: RELEASE_OUTPUT is `State.changeOutput` to AUTO on the hearing state, whose effects `State.changeOutput_of_ne` gives, and
the reply joins the queue last. -/
theorem releaseOutputReturnsToAuto : Obligations.ReleaseOutputReturnsToAuto := by
  intro s src tag output serves
  refine ⟨fun outside => ?_, fun o index => ⟨fun auto => ?_, fun supervised => ?_⟩⟩
  · rw [State.exec_releaseOutput serves tag output (State.releaseOutput_of_badIndex _ outside), State.reply_hearing serves]
  · have same : s.hearing.changeOutput o .auto = s.hearing := State.changeOutput_of_eq auto
    rw [State.exec_releaseOutput serves tag output (State.releaseOutput_of_index _ index), same, State.reply_hearing serves]
  · have differs : (s.hearing.outputs.get o).state ≠ .auto := ne_of_eq_of_ne supervised (by decide)
    have released := State.changeOutput_of_ne differs
    rw [show (s.hearing.outputs.get o).state = .supervised from supervised] at released
    have raised : (s.hearing.changeOutput o .auto).raised = [] := (State.changeOutput_raised _ o _).trans serves.raised
    have room : (s.hearing.changeOutput o .auto).ring.transmit.length < 16 := by
      rw [State.changeOutput_transmit]
      exact serves.room
    rw [State.exec_releaseOutput serves tag output (State.releaseOutput_of_index _ index), State.reply_of_room raised room, released]
    simp only [and_assoc]
    rfl

end Sys2Proof.Machine
end

section
/-! The evaluation of a watch (R160 to R163): the truth a test forms from a filtered value, the answers of the tests to the arrivals, and
the truth counted in ARMED. -/
namespace Sys2Proof.Machine

namespace WatchConfig

/-- A value at which a value test is true: a threshold of the test is reached (R161). -/
abbrev ReadsTrue (c : WatchConfig) (v : Int) : Prop :=
  (c.test = .above ∧ c.high ≤ v) ∨ (c.test = .below ∧ v ≤ c.low) ∨ (c.test = .outside ∧ (c.high ≤ v ∨ v ≤ c.low))

/-- A value at which a value test is false: it is clear of the thresholds of the test by the hysteresis (R161). -/
abbrev ReadsFalse (c : WatchConfig) (v : Int) : Prop :=
  (c.test = .above ∧ v ≤ c.high - c.hysteresis) ∨ (c.test = .below ∧ c.low + c.hysteresis ≤ v) ∨
    (c.test = .outside ∧ c.low + c.hysteresis ≤ v ∧ v ≤ c.high - c.hysteresis)

/-- A true clause goes before a false one (with hysteresis 0 both can hold); between the thresholds the last truth stays. -/
theorem valueTruth_eq (c : WatchConfig) (v : Int) (last : Bool) :
    c.valueTruth v last = if c.ReadsTrue v then true else if c.ReadsFalse v then false else last := by
  unfold valueTruth ReadsTrue ReadsFalse
  cases c.test <;> simp

end WatchConfig

namespace State

section
variable {s : State} {x : Watch} {p : PointIdx}

theorem answer_point_of_unusable (test : x.config.test = .unusable) :
    s.answer x (.point p) = some ((s.points.get p).state.usable.isNone, ((s.points.get p).state.quality.code : Int)) := by
  simp only [answer, test]

theorem answer_point_of_value (test : x.config.test = .above ∨ x.config.test = .below ∨ x.config.test = .outside) :
    s.answer x (.point p) = (s.points.get p).state.usable.map fun v => (x.config.valueTruth v x.truth, v) := by
  obtain test | test | test := test <;> simp only [answer, test]

theorem answer_level_of_active (test : x.config.test = .active) (l : Level) (b : Bool) :
    s.answer x (.level l b) = some (b, 1) := if_pos test

theorem answer_event_of_active (test : x.config.test = .active) (e : EventCondition) :
    s.answer x (.event e) = some (true, 1) := if_pos test

end

section
variable {s : State} {w : WatchIdx} {x : Watch} {value : Int}

theorem count_setWatch_of_false : (s.setWatch w x).count w false value = s.setWatch w { x with count := x.config.persistence - 1 } := by
  simp [count, setWatch]

theorem count_setWatch_of_ne_zero (left : x.count ≠ 0) :
    (s.setWatch w x).count w true value = s.setWatch w { x with count := x.count - 1 } := by
  simp [count, setWatch, left]

theorem count_setWatch_of_zero (out : x.count = 0) : (s.setWatch w x).count w true value = (s.setWatch w x).fire w value := by
  simp [count, setWatch, out]

end

section
variable {s : State} {ch : Change} {w : WatchIdx}

theorem evaluateWatch_of_passed_over (passed : (s.watches.get w).state = .off ∨ (s.watches.get w).config.subject ≠ ch.subject) :
    s.evaluateWatch ch w = s := if_pos passed

theorem evaluateWatch_of_no_answer (silent : s.answer (s.watches.get w) ch = none) : s.evaluateWatch ch w = s := by
  simp only [evaluateWatch, silent, ite_self]

theorem evaluateWatch_of_answer {truth : Bool} {value : Int} (on : (s.watches.get w).state ≠ .off)
    (subject : (s.watches.get w).config.subject = ch.subject) (answer : s.answer (s.watches.get w) ch = some (truth, value)) :
    s.evaluateWatch ch w =
      if (s.watches.get w).state = .armed then (s.setWatch w { s.watches.get w with truth := truth }).count w truth value
      else s.setWatch w { s.watches.get w with truth := truth } := by
  have taken : ¬((s.watches.get w).state = .off ∨ (s.watches.get w).config.subject ≠ ch.subject) :=
    not_or.2 ⟨on, not_not.2 subject⟩
  simp only [evaluateWatch, if_neg taken, answer]

end

end State

/-- Settles O36: an evaluated watch forms the truth of its answer and in ARMED counts it (`State.evaluateWatch_of_answer`), and
the answer of each test is that of R161 and R162. -/
theorem evaluationFormsAndCountsTheTruth : Obligations.EvaluationFormsAndCountsTheTruth := by
  intro s ch w x c passes isTrue isFalse
  have forms : x.state ≠ .off → c.subject = ch.subject → ∀ {truth value}, s.answer x ch = some (truth, value) →
      passes (s.evaluateWatch ch w) truth value := by
    intro on subject truth value answer
    rw [State.evaluateWatch_of_answer on subject answer]
    refine ⟨fun unarmed => if_neg unarmed, fun armed clear => ?_, fun armed holds left => ?_, fun armed holds out => ?_⟩
    · subst clear
      exact (if_pos armed).trans State.count_setWatch_of_false
    · subst holds
      exact (if_pos armed).trans (State.count_setWatch_of_ne_zero left)
    · subst holds
      exact (if_pos armed).trans (State.count_setWatch_of_zero out)
  refine ⟨State.evaluateWatch_of_passed_over, fun on subject => ⟨fun p point => ⟨fun test => ?_, fun test => ⟨fun unusable => ?_,
    fun v usable => ?_⟩⟩, fun test => ⟨fun l b level => ?_, fun e event => ?_⟩⟩⟩
  · exact forms on subject (point ▸ State.answer_point_of_unusable test)
  · subst point
    apply State.evaluateWatch_of_no_answer
    rw [State.answer_point_of_value test, unusable, Option.map_none]
  · subst point
    apply forms on subject
    rw [State.answer_point_of_value test, usable, Option.map_some, WatchConfig.valueTruth_eq]
  · exact forms on subject (level ▸ State.answer_level_of_active test l b)
  · exact forms on subject (event ▸ State.answer_event_of_active test e)

end Sys2Proof.Machine
end

section
/-! A served request whose only effect is on the event history: RESUME_CAPTURE (R178). -/
namespace Sys2Proof.Machine

namespace State

variable {s : State} {src : Addr}

/-- A request that changes the history alone is answered, and the reply captures nothing. -/
theorem reply_hearing_withHistory (serves : s.Serves src) (h : History) (code tag : Byte) (result : Result) (data : List Byte) :
    reply src code tag (s.hearing.withHistory h, some (result, data)) = (s.replied src code tag result data).withHistory h :=
  reply_of_room (s := s.hearing.withHistory h) serves.raised serves.room code tag result data

theorem resumeCapture_of_capturing (capturing : s.history.frozen = false) : s.resumeCapture = (s, .ok) := by
  have same : { s.history with frozen := false } = s.history := by rw [← capturing]
  rw [resumeCapture, same, withHistory_self]

theorem exec_resumeCapture (serves : s.Serves src) (tag : Byte) :
    exec (.resumeCapture src tag) s = .next (reply src 15 tag s.hearing.resumeCapture.answered) :=
  congrArg Host.Outcome.next (requestArrives_of_serves serves 15 tag .resumeCapture)

end State

/-- Settles O55: RESUME_CAPTURE rewrites the freeze state of the hearing state and its reply leaves the history as it is
(`State.reply_hearing_withHistory`); in CAPTURING already it changes nothing (`State.resumeCapture_of_capturing`). -/
theorem resumeCaptureEndsTheFreeze : Obligations.ResumeCaptureEndsTheFreeze := by
  intro s src tag serves
  refine ⟨?_, fun capturing => ?_⟩
  · have replies := State.reply_hearing_withHistory serves { s.history with frozen := false } 15 tag .ok []
    exact (State.exec_resumeCapture serves tag).trans (congrArg Host.Outcome.next replies)
  · have unchanged : s.hearing.resumeCapture = (s.hearing, .ok) := State.resumeCapture_of_capturing capturing
    rw [State.exec_resumeCapture serves, unchanged, Outcome.answered, State.reply_hearing serves]

end Sys2Proof.Machine
end

section
/-! The status reply (R186, section 11.4): its 21 bytes read from the state as the section lays them out. -/
namespace Sys2Proof

theorem Table.map_indices_get {n : Nat} {α β : Type} (t : Table n α) (f : α → β) :
    (indices n).map (fun i => f (t.get i)) = t.rows.map f := by
  apply List.ext_getElem
  · simp [indices, t.size]
  · intro i _ _
    simp [indices, Table.get_eq]

namespace Machine

theorem flagByte_eq_ofNat (b : Bool) : flagByte b = BitVec.ofNat 8 (if b then 1 else 0) := by
  cases b <;> rfl

namespace Supervision

theorem secondsLeft_of_disabled {c : Supervision} (disabled : c.countdown = none) : c.secondsLeft = 0 := by
  simp only [secondsLeft, disabled]

/-- The model lets a due countdown count its last tenth; one that is not due shows its own tenths, rounded up. -/
theorem secondsLeft_of_running {c : Supervision} {t : Nat} (running : c.countdown = some t) (left : t ≠ 0) :
    c.secondsLeft = (t + 9) / 10 := by
  simp only [secondsLeft, running, Nat.max_eq_left (Nat.one_le_iff_ne_zero.2 left)]

end Supervision

namespace State

variable {s : State} {src : Addr}

/-- The level bits side by side are the sum of their weights. -/
theorem levelBits_eq_sum (s : State) : s.levelBits = BitVec.ofNat 8
    ((if s.allocator.airShort then 1 else 0) + (if s.allocator.floorShort then 2 else 0) + (if s.plant.storm then 4 else 0) +
      (if s.supervision.lost then 8 else 0) + (if s.ring.silent then 16 else 0)) := by
  have weigh : ∀ silent lost storm floor air : Bool,
      BitVec.ofBool false ++ BitVec.ofBool false ++ BitVec.ofBool false ++ BitVec.ofBool silent ++ BitVec.ofBool lost ++
        BitVec.ofBool storm ++ BitVec.ofBool floor ++ BitVec.ofBool air = BitVec.ofNat 8
      ((if air then 1 else 0) + (if floor then 2 else 0) + (if storm then 4 else 0) + (if lost then 8 else 0) +
        (if silent then 16 else 0)) := by decide
  exact weigh s.ring.silent s.supervision.lost s.plant.storm s.allocator.floorShort s.allocator.airShort

/-- The layout of section 11.4, from the countdown's seconds and the byte of each lane's regime. -/
theorem statusBytes_eq {seconds : Nat} {regimeByte : LaneIdx → Byte} (countdown : s.supervision.secondsLeft = seconds)
    (regimes : ∀ k, BitVec.ofNat 8 (s.lanes.get k).state.regime.code = regimeByte k) :
    s.statusBytes = [0xA8] ++ bytes16 s.management.generation ++ bytes32 s.timeCount ++ (indices 8).map regimeByte ++
      [BitVec.ofNat 8 (if s.plant.storm then 1 else 0), BitVec.ofNat 8 seconds,
       BitVec.ofNat 8 ((if s.allocator.airShort then 1 else 0) + (if s.allocator.floorShort then 2 else 0) +
         (if s.plant.storm then 4 else 0) + (if s.supervision.lost then 8 else 0) + (if s.ring.silent then 16 else 0)),
       BitVec.ofNat 8 (if s.history.frozen then 1 else 0), BitVec.ofNat 8 s.history.entries.length,
       BitVec.ofNat 8 (if s.management.commit.isSome then 1 else 0)] := by
  have rows : s.lanes.rows.map (fun l => BitVec.ofNat 8 l.state.regime.code) = (indices 8).map regimeByte :=
    (s.lanes.map_indices_get _).symm.trans (List.map_congr_left fun k _ => regimes k)
  simp only [statusBytes, rows, countdown, flagByte_eq_ofNat, levelBits_eq_sum]

theorem statusBytes_length (s : State) : s.statusBytes.length = 21 := by
  simp [statusBytes, bytes16, bytes32, s.lanes.size]

theorem exec_readStatus (serves : s.Serves src) (tag : Byte) :
    exec (.readStatus src tag) s = .next (s.replied src 3 tag .ok s.statusBytes) :=
  congrArg Host.Outcome.next
    ((requestArrives_of_serves serves 3 tag .readStatus).trans (reply_hearing serves 3 tag .ok s.hearing.statusBytes))

end State

/-- Settles O50: the reply carries the state's status bytes (`State.exec_readStatus`), and they stand in the layout of section 11.4
(`State.statusBytes_eq`); a countdown that is not due has its seconds rounded up (`Supervision.secondsLeft_of_running`). -/
theorem readStatusReportsTheState : Obligations.ReadStatusReportsTheState := by
  intro s src tag serves notDue on seconds data
  have countdown : s.supervision.secondsLeft = seconds := by
    cases h : s.supervision.countdown with
    | none => simp only [seconds, h, Supervision.secondsLeft_of_disabled h]
    | some t =>
      have left : t ≠ 0 := fun zero => notDue (h.trans (congrArg some zero))
      simp only [seconds, h, Supervision.secondsLeft_of_running h left]
  have bytes : s.statusBytes = data := by
    refine State.statusBytes_eq countdown fun k => ?_
    cases (s.lanes.get k).state <;> rfl
  exact bytes ▸ ⟨State.exec_readStatus serves tag, s.statusBytes_length⟩

end Machine

end Sys2Proof
end

section
/-! What an event can do to the part, said once. Every event is a chain of moves, and a move names the parts of the state it touches and
what it respects. An invariant that every move keeps is kept by every event. A few operations pass through states in which two blocks do not
agree yet (a lane is TRIPPED before its valve outputs are released); their moves are marked with a gap, and an invariant that the gap
concerns is shown of the whole operation instead. -/
namespace Sys2Proof.Machine

/-- What the moves inside an operation can leave to be made good before the operation ends: nothing; the outputs of a lane that trips; the
watches linked to one that fires; the lanes at a change of the storm. -/
inductive Gap where
  | closed | tripping | firing | storming
deriving DecidableEq

/-- A lane's regime and dwell agree with the storm (R53, R60, R64). -/
structure Lane.Agrees (l : Lane) (storm : Bool) : Prop where
  inStorm : l.state.regime = .storm → storm = true
  inNormal : l.state.regime = .normal → storm = false
  inEconomy : l.state.regime = .economy → storm = false
  dwell : l.state.regime ≠ .normal → l.dwell = 0

/-- A lane record may follow another inside an event: configuration, pending set and timer as they were, OFFLINE neither entered nor left. -/
structure Lane.Follows (l old : Lane) : Prop where
  config : l.config = old.config
  pending : l.pending = old.pending
  timer : l.timer = old.timer
  offline : l.state.regime = .offline ↔ old.state.regime = .offline

/-- A zone record may follow another in a state: configuration as it was, values within their bounds, and no air for an idle zone that asks for
none. -/
structure State.ZoneFollows (s : State) (z : ZoneIdx) (zn : Zone) : Prop where
  config : zn.config = (s.zones.get z).config
  sound : (s.zones.get z).config.Sound → (s.zones.get z).Sound → zn.Sound
  idle : s.isIdle z = true → (s.zones.get z).demand = 0 → zn.demand = 0

/-- A blower may take a state: it is STARTING or STOPPING only where it was already or no blower is, and RUNNING with the stop-pending mark of its
configuration (R114, R119, R120). -/
structure State.BlowerFollows (s : State) (b : BlowerIdx) (new : BlowerState) : Prop where
  one : new.inTransition = true →
    (s.blowers.get b).state.inTransition = true ∨ ∀ c, (s.blowers.get c).state.inTransition = false
  pending : ∀ p, new = .running p → p = !(s.blowers.get b).config.inService

/-- One move of an event: the gap it belongs to, and the parts it touches. -/
inductive Move : Gap → List Part → State → State → Prop where
  | capture {s} (e : HistoryEvent) : Move .closed [.history] s (s.capture e)
  | frozen {s} (b : Bool) : Move .closed [.history] s (s.withHistory { s.history with frozen := b })
  | raised {s} (l : List Change) : Move .closed [.raised] s (s.withRaised l)
  | freeIndex {s} (n : Nat) : Move .closed [.freeIndex] s (s.withFreeIndex n)
  | send {s} (dst : Addr) (b : Body) (ownerless : b.owner = none) : Move .closed [.traffic, .raised] s (s.send dst b)
  | forward {s} (f : Frame) : Move .closed [.traffic, .raised] s (s.forwardFrame f)
  | offered {s} (o : OutputIdx) (v : Int) (used : (s.outputs.get o).config.unused = false) :
      Move .closed [.outputs, .traffic, .raised] s (s.sendValue o ((s.outputs.get o).config.limit v))
  | released {s} (o : OutputIdx) : Move .closed [.outputs] s (s.setOutput o { s.outputs.get o with state := .auto })
  | route {s} (i : RouteIdx) (r : Route) (config : r.config = (s.routes.get i).config) : Move .closed [.routes] s (s.setRoute i r)
  | point {s} (p : PointIdx) (pt : Point) (config : pt.config = (s.points.get p).config) : Move .closed [.points] s (s.setPoint p pt)
  | zone {s} (z : ZoneIdx) (zn : Zone) (follows : s.ZoneFollows z zn) : Move .closed [.zones] s (s.setZone z zn)
  | blower {s} (b : BlowerIdx) (new : BlowerState) (follows : s.BlowerFollows b new) :
      Move .closed [.blowers] s (s.setBlower b { s.blowers.get b with state := new })
  | allocator {s} (a : Allocator) (config : a.config = s.allocator.config)
      (timer : s.allocator.timer.isSome = true → a.timer.isSome = true) : Move .closed [.allocator] s (s.withAllocator a)
  | lane {s} (g : Gap) (k : LaneIdx) (l : Lane) (follows : l.Follows (s.lanes.get k))
      (trips : g ≠ .tripping → l.state.regime = .tripped → (s.lanes.get k).state.regime = .tripped)
      (agrees : g ≠ .storming → (s.lanes.get k).Agrees s.plant.storm → l.Agrees s.plant.storm) :
      Move g [.lanes] s (s.setLane k l)
  | plant {s} (g : Gap) (p : Plant) (config : p.config = s.plant.config)
      (agrees : g ≠ .storming → p.storm = s.plant.storm ∧ (p.exitHold.isSome = true → s.plant.exitHold.isSome = true ∨ p.storm = true)) :
      Move g [.plant] s (s.withPlant p)
  | counted {s} (w : WatchIdx) (x : Watch) (config : x.config = (s.watches.get w).config)
      (state : x.state = (s.watches.get w).state)
      (count : x.count ≤ (s.watches.get w).count ∨ x.count ≤ x.config.persistence - 1) : Move .closed [.watches] s (s.setWatch w x)
  | fired {s} (ws : Table 32 Watch) (config : ∀ w, (ws.get w).config = (s.watches.get w).config) :
      Move .firing [.watches] s (s.withWatches ws)

namespace Move

variable {g : Gap} {c : List Part} {s t : State}

/-- A move changes no part but those it names. -/
theorem but (m : Move g c s t) : s.SameBut c t := by
  cases m with
  | capture e => exact s.capture_but e
  | frozen b => exact s.withHistory_but _
  | raised l => exact s.withRaised_but l
  | freeIndex n => exact s.withFreeIndex_but n
  | send dst b _ => exact s.send_but dst b
  | forward f => exact s.forwardFrame_but f
  | offered o v _ => exact State.sendValue_but o _ s
  | released o => exact s.setOutput_but o _
  | route i r _ => exact s.withRouteTable_but _
  | point p pt _ => exact s.withPointTable_but _
  | zone z zn _ => exact s.setZone_but z zn
  | blower b new _ => exact s.setBlower_but b _
  | allocator a _ _ => exact s.withAllocator_but a
  | lane _ k l _ _ _ => exact s.setLane_but k l
  | plant _ p _ _ => exact s.withPlant_but p
  | counted w x _ _ _ => exact s.setWatch_but w x
  | fired ws _ => exact s.withWatches_but ws

end Move

/-- A predicate every event keeps: each move keeps it but those of its gaps, and each operation with one of its gaps keeps it as a whole. -/
structure Kept (gaps : List Gap) (P : State → Prop) : Prop where
  closed : .closed ∉ gaps
  move : ∀ {g c s t}, g ∉ gaps → Move g c s t → P s → P t
  tripLane : .tripping ∈ gaps → ∀ s k cause, (s.lanes.get k).state.isWorking = true → P s → P (s.tripLane k cause)
  fire : .firing ∈ gaps → ∀ s w value, (s.watches.get w).state = .armed → P s → P (s.fire w value)
  changeStorm : .storming ∈ gaps → ∀ s active, (active = false → s.plant.exitHold = none) → P s → P (s.changeStorm active)

/-! ### What each operation keeps, from its moves -/

namespace State

theorem each_induction {α : Type} {P : State → Prop} {f : α → State → State} (l : List α) (step : ∀ a ∈ l, ∀ s, P s → P (f a s)) {s : State}
    (h : P s) : P (s.each l f) := by
  induction l generalizing s with
  | nil => exact h
  | cons a l ih => exact ih (fun b hb => step b (List.mem_cons_of_mem a hb)) (step a (List.mem_cons_self ..) s h)

theorem isWorking_iff (l : LaneState) : l.isWorking = true ↔ l.regime ≠ .offline ∧ l.regime ≠ .tripped := by
  cases l <;> simp [LaneState.isWorking, LaneState.regime]

theorem isEconomy_iff (l : LaneState) : l.isEconomy = true ↔ l.regime = .economy := by
  cases l <;> simp [LaneState.isEconomy, LaneState.regime]

/-- What a working lane's zone is not: idle within the zone count. -/
theorem isIdle_of_lane {s t : State} (h : t.lanes = s.lanes) (z : ZoneIdx) : t.isIdle z = s.isIdle z := by
  simp only [isIdle, laneOfZone, h]

end State

theorem clampInt_bounds {lo hi : Int} (v : Int) (h : lo ≤ hi) : lo ≤ clampInt lo hi v ∧ clampInt lo hi v ≤ hi := by
  unfold clampInt
  split
  · omega
  · split <;> omega

theorem clampNat_bounds {lo hi : Nat} (v : Nat) (h : lo ≤ hi) : lo ≤ clampNat lo hi v ∧ clampNat lo hi v ≤ hi := by
  unfold clampNat
  split
  · omega
  · split <;> omega

theorem ZoneConfig.limit_le {c : ZoneConfig} (sound : c.Sound) (u : Int) : c.limit u ≤ 65535 := by
  obtain ⟨-, -, -, -, -, inOrder, top, -⟩ := sound
  have bounds := clampInt_bounds u (Int.ofNat_le.2 inOrder)
  unfold ZoneConfig.limit
  omega

/-- A grant does not exceed the demand (R108). -/
theorem grantOf_le {D C F d fl : Nat} (h : fl ≤ d) : grantOf D C F d fl ≤ d := by
  unfold grantOf
  split
  · exact le_rfl
  · split
    · next short covers =>
      have share : (C - F) * 65536 / (D - F) ≤ 65536 := Nat.div_le_of_le_mul (Nat.mul_le_mul_right 65536 (by omega))
      have part : (d - fl) * ((C - F) * 65536 / (D - F)) / 65536 ≤ d - fl :=
        Nat.div_le_of_le_mul (by rw [Nat.mul_comm 65536]; exact Nat.mul_le_mul_left _ share)
      dsimp only
      omega
    · next lacks =>
      have part : fl * C / F ≤ fl := Nat.div_le_of_le_mul (by rw [Nat.mul_comm F]; exact Nat.mul_le_mul_left fl (by omega))
      omega

end Sys2Proof.Machine
end

section
/-! What the shared operations keep: each is a chain of moves, so a predicate every move keeps is kept by it. -/
namespace Sys2Proof.Machine

/-! ### Zone records that follow another -/

namespace State.ZoneFollows

variable {s : State} {z : ZoneIdx} {zn : Zone}

/-- A zone that keeps setpoint, demand and grant. -/
theorem of_values (config : zn.config = (s.zones.get z).config) (setpoint : zn.setpoint = (s.zones.get z).setpoint)
    (demand : zn.demand = (s.zones.get z).demand) (grant : zn.grant = (s.zones.get z).grant) : s.ZoneFollows z zn where
  config := config
  sound _ sound := by simpa only [Zone.Sound, setpoint, demand, grant] using sound
  idle _ none := demand.trans none

/-- A zone that is not idle, with a new demand within the bounds. -/
theorem of_demand (working : s.isIdle z = false) (config : zn.config = (s.zones.get z).config)
    (setpoint : zn.setpoint = (s.zones.get z).setpoint) (grant : zn.grant = (s.zones.get z).grant)
    (demand : (s.zones.get z).config.Sound → (s.zones.get z).Sound → zn.demand ≤ 65535) : s.ZoneFollows z zn where
  config := config
  sound checked sound := by
    have bound := demand checked sound
    obtain ⟨low, high, -, grants⟩ := sound
    exact ⟨setpoint ▸ low, setpoint ▸ high, bound, grant ▸ grants⟩
  idle idle := by simp [working] at idle

theorem airOn (working : s.isIdle z = false) : s.ZoneFollows z (s.zones.get z).airOn :=
  of_demand working rfl rfl rfl fun checked _ => ZoneConfig.limit_le checked _

theorem airOff (working : s.isIdle z = false) : s.ZoneFollows z (s.zones.get z).airOff :=
  of_demand working rfl rfl rfl fun checked _ => by
    obtain ⟨-, -, -, -, -, inOrder, top, -⟩ := checked
    exact inOrder.trans top

theorem tripAir (working : s.isIdle z = false) : s.ZoneFollows z ((s.zones.get z).withDemand (s.zones.get z).config.tripAir) :=
  of_demand working rfl rfl rfl fun checked _ => by
    obtain ⟨-, -, -, -, -, -, -, -, trip, -⟩ := checked
    exact trip

theorem fixedAir (working : s.isIdle z = false) : s.ZoneFollows z ((s.zones.get z).withDemand
    (clampNat (s.zones.get z).config.minAir (s.zones.get z).config.maxAir (s.zones.get z).config.fixedAir)) :=
  of_demand working rfl rfl rfl fun checked _ => by
    obtain ⟨-, -, -, -, -, inOrder, top, -⟩ := checked
    exact (clampNat_bounds _ inOrder).2.trans top

theorem heldAir (working : s.isIdle z = false) :
    s.ZoneFollows z ((s.zones.get z).withDemand (s.heldDemand (s.zones.get z))) :=
  of_demand working rfl rfl rfl fun _ sound => by
    obtain ⟨-, -, demand, -⟩ := sound
    show s.heldDemand (s.zones.get z) ≤ 65535
    unfold heldDemand
    split
    · next flow _ =>
      have bounds := clampInt_bounds (lo := 0) (hi := 65535) flow (by omega)
      omega
    · exact demand

theorem computePi (working : s.isIdle z = false) (regime : Regime) (trim filtered : Int) (period : Nat) :
    s.ZoneFollows z ((s.zones.get z).computePi (composeSetpoint regime (s.zones.get z).config trim) filtered period) where
  config := rfl
  sound checked sound := by
    obtain ⟨-, -, -, grants⟩ := sound
    have bounds := fun v => clampInt_bounds (lo := 200) (hi := 4000) v (by omega)
    exact ⟨(bounds _).1, (bounds _).2, ZoneConfig.limit_le checked _, grants⟩
  idle idle := by simp [working] at idle

theorem granted (D C F : Nat) : s.ZoneFollows z ((s.zones.get z).granted D C F) where
  config := rfl
  sound _ sound := by
    obtain ⟨low, high, demand, -⟩ := sound
    refine ⟨low, high, demand, fun g grant => ?_⟩
    cases grant
    exact (grantOf_le (Nat.min_le_right _ _)).trans demand
  idle _ none := none

end State.ZoneFollows

/-! ### Blower states that follow another -/

namespace State.BlowerFollows

variable {s : State} {b : BlowerIdx}

theorem entersRunning : s.BlowerFollows b (s.blowers.get b).config.entersRunning where
  one moving := by simp [BlowerConfig.entersRunning, BlowerState.inTransition] at moving
  pending p new := by cases new; rfl

theorem stopped : s.BlowerFollows b .stopped := ⟨nofun, nofun⟩
theorem faulted : s.BlowerFollows b .faulted := ⟨nofun, nofun⟩
theorem handControl : s.BlowerFollows b .handControl := ⟨nofun, nofun⟩

end State.BlowerFollows

namespace Kept

variable {gaps : List Gap} {P : State → Prop} {s : State}

theorem keep (K : Kept gaps P) {c : List Part} {t : State} (h : P s) (m : Move .closed c s t) : P t := K.move K.closed m h

theorem capture (K : Kept gaps P) (h : P s) (e : HistoryEvent) : P (s.capture e) := K.keep h (.capture e)

theorem raise (K : Kept gaps P) (h : P s) (c : Change) : P (s.raise c) := K.keep h (.raised _)

theorem choose (K : Kept gaps P) (h : P s) (n : Nat) : P (s.choose n).2 := by
  unfold State.choose
  split
  · exact h
  · exact K.keep h (.freeIndex _)

/-! ### Outputs and zones -/

theorem decideMode (K : Kept gaps P) (h : P s) (z : ZoneIdx) : P (s.decideMode z) := by
  unfold State.decideMode
  dsimp only
  split
  · exact h
  · refine K.capture (K.keep h (.zone z _ ?_)) _
    exact .of_values rfl rfl rfl rfl

theorem reportOutput (K : Kept gaps P) (h : P s) (o : OutputIdx) : P (s.reportOutput o) := by
  unfold State.reportOutput
  refine State.each_induction _ (fun z _ s h => ?_) h
  split
  · exact K.decideMode h z
  · exact h

theorem releaseOutput (K : Kept gaps P) (h : P s) (o : OutputIdx) : P (s.changeOutput o .auto) := by
  unfold State.changeOutput
  dsimp only
  split
  · exact h
  · exact K.reportOutput (K.capture (K.keep h (.released o)) _) o

theorem offer (K : Kept gaps P) (h : P s) (o : OutputIdx) (v : Int) : P (s.offer o v) := by
  unfold State.offer
  dsimp only
  split
  · exact h
  · next used =>
    split
    · exact h
    · split
      · exact K.keep h (.offered o v (by simpa using used))
      · exact h

theorem offerTo (K : Kept gaps P) (h : P s) (o : Option OutputIdx) (v : Int) : P (s.offerTo o v) := by
  cases o with
  | none => exact h
  | some o => exact K.offer h o v

theorem forcedOffer (K : Kept gaps P) (h : P s) (o : OutputIdx) (v : Int) : P (s.forcedOffer o v) := by
  unfold State.forcedOffer
  dsimp only
  split
  · exact h
  · next used =>
    split
    · exact h
    · split
      · exact K.keep h (.offered o v (by simpa using used))
      · exact h

theorem trimValve (K : Kept gaps P) (h : P s) (z : ZoneIdx) : P (s.trimValve z) := by
  unfold State.trimValve
  dsimp only
  split
  · exact h
  · exact K.offer h _ _

theorem computeBranch (K : Kept gaps P) (h : P s) {z : ZoneIdx} (working : s.isIdle z = false) (period : Nat) :
    P (s.computeBranch z period) := by
  unfold State.computeBranch
  dsimp only
  split
  · exact K.keep h (.zone z _ (.tripAir working))
  · split
    · exact K.keep h (.zone z _ (.heldAir working))
    · exact K.trimValve (K.keep h (.zone z _ (.fixedAir working))) z
    · split
      · exact K.trimValve (K.keep h (.zone z _ (.airOff working))) z
      · exact K.trimValve (K.keep h (.zone z _ (.computePi working _ _ _ _))) z

theorem computeZone (K : Kept gaps P) (h : P s) (period : Nat) (z : ZoneIdx) : P (s.computeZone period z) := by
  unfold State.computeZone
  split
  · exact h
  · next working =>
    refine K.computeBranch (K.decideMode h z) ?_ period
    have lanes : (s.decideMode z).lanes = s.lanes := State.decideMode_but z s .lanes (by decide)
    rw [State.isIdle_of_lane lanes]
    simpa using working

theorem computeZones (K : Kept gaps P) (h : P s) (k : LaneIdx) (period : Nat) : P (s.computeZones k period) := by
  unfold State.computeZones
  refine State.each_induction _ (fun z _ _ h => ?_) h
  exact K.computeZone h period z

theorem phaseChange (K : Kept gaps P) (h : P s) (k : LaneIdx) (p : Phase) : P (s.phaseChange k p) := by
  unfold State.phaseChange
  refine State.each_induction _ (fun z _ s h => ?_) h
  split
  · next follows =>
    have working : s.isIdle z = false := by simp [State.follows] at follows; exact follows.1.1
    cases p with
    | airOn => exact K.keep h (.zone z _ (.airOn working))
    | airOff => exact K.keep h (.zone z _ (.airOff working))
  · exact h

theorem endCycle (K : Kept gaps P) (h : P s) (k : LaneIdx) : P (s.endCycle k) := by
  unfold State.endCycle
  refine State.each_induction _ (fun z _ s h => ?_) h
  split
  · next follows =>
    have working : s.isIdle z = false := by simp [State.follows] at follows; exact follows.1.1.1
    exact K.keep h (.zone z _ (.airOn working))
  · exact h

theorem tripZones (K : Kept gaps P) (h : P s) (k : LaneIdx) : P (s.tripZones k) := by
  unfold State.tripZones State.eachWorking
  refine State.each_induction _ (fun z _ s h => ?_) h
  split
  · exact h
  · next working => exact K.keep h (.zone z _ (.tripAir (by simpa using working)))

theorem restoreZones (K : Kept gaps P) (h : P s) (k : LaneIdx) : P (s.restoreZones k) := by
  unfold State.restoreZones State.eachWorking
  refine State.each_induction _ (fun z _ s h => ?_) h
  split
  · exact h
  · exact K.keep h (.zone z _ (.of_values rfl rfl rfl rfl))

theorem tripOutputs (K : Kept gaps P) (h : P s) (k : LaneIdx) : P (s.tripOutputs k) := by
  unfold State.tripOutputs
  refine State.each_induction _ (fun o _ _ h => ?_) h
  exact K.forcedOffer (K.releaseOutput h o) o _

theorem offlineOutputs (K : Kept gaps P) (h : P s) (k : LaneIdx) : P (s.offlineOutputs k) := by
  unfold State.offlineOutputs
  refine State.each_induction _ (fun o _ _ h => ?_) h
  exact K.forcedOffer h o _

/-! ### Blowers and the allocation -/

theorem changeBlower (K : Kept gaps P) (h : P s) {b : BlowerIdx} {new : BlowerState} (follows : s.BlowerFollows b new) :
    P (s.changeBlower b new) := K.capture (K.keep h (.blower b new follows)) _

theorem adopt (K : Kept gaps P) (h : P s) (b : BlowerIdx) (r : DriveReading) : P (s.adopt b r) := by
  cases r with
  | stopped => exact K.changeBlower h .stopped
  | running => exact K.changeBlower h .entersRunning
  | fault => exact K.changeBlower h .faulted
  | handControl => exact K.changeBlower h .handControl

theorem failStart (K : Kept gaps P) (h : P s) (b : BlowerIdx) : P (s.failStart b) :=
  K.raise (K.offerTo (K.changeBlower h .faulted) _ 0) _

theorem tripRunning (K : Kept gaps P) (h : P s) (b : BlowerIdx) : P (s.tripRunning b) :=
  K.raise (K.offerTo (K.offerTo (K.changeBlower h .faulted) _ 0) _ 0) _

theorem tripStopping (K : Kept gaps P) (h : P s) (b : BlowerIdx) : P (s.tripStopping b) :=
  K.raise (K.offerTo (K.changeBlower h .faulted) _ 0) _

theorem review (K : Kept gaps P) (h : P s) (b : BlowerIdx) (r : DriveReading) : P (s.review b r) := by
  unfold State.review
  split
  · exact K.adopt h b _
  · exact h
  · exact K.adopt h b _
  · exact h
  · exact K.changeBlower h .entersRunning
  · exact h
  · exact K.failStart h b
  · exact K.changeBlower h .handControl
  · exact K.tripRunning h b
  · exact h
  · exact K.tripRunning h b
  · exact K.changeBlower h .handControl
  · exact h
  · exact h
  · exact K.tripStopping h b
  · exact K.changeBlower h .handControl
  · exact h
  · exact h
  · exact K.adopt h b _

theorem reviewBlower (K : Kept gaps P) (h : P s) (b : BlowerIdx) : P (s.reviewBlower b) := by
  unfold State.reviewBlower
  split
  · exact h
  · exact K.review h b _

theorem writeGrants (K : Kept gaps P) (h : P s) (D C F : Nat) : P (s.writeGrants D C F) := by
  unfold State.writeGrants
  refine State.each_induction _ (fun z _ _ h => ?_) h
  exact K.keep h (.zone z _ (.granted D C F))

theorem writeSums (K : Kept gaps P) (h : P s) (D C G : Nat) : P (s.writeSums D C G) := K.keep h (.allocator _ rfl id)

theorem setCounts (K : Kept gaps P) (h : P s) (up down : Nat) : P (s.setCounts up down) := K.keep h (.allocator _ rfl id)

theorem restartAllocation (K : Kept gaps P) (h : P s) : P s.restartAllocation := K.keep h (.allocator _ rfl fun _ => rfl)

theorem setAirShort (K : Kept gaps P) (h : P s) (b : Bool) : P (s.setLevel .airShort b) := by
  unfold State.setLevel
  split
  · exact h
  · exact K.raise (K.capture (K.keep h (.allocator { s.allocator with airShort := b } rfl id)) _) _

theorem setFloorShort (K : Kept gaps P) (h : P s) (b : Bool) : P (s.setLevel .floorShort b) := by
  unfold State.setLevel
  split
  · exact h
  · exact K.raise (K.capture (K.keep h (.allocator { s.allocator with floorShort := b } rfl id)) _) _

theorem startBlower (K : Kept gaps P) (h : P s) (b : BlowerIdx) (still : ∀ c, (s.blowers.get c).state.inTransition = false) :
    P (s.startBlower b) := by
  unfold State.startBlower
  exact K.setCounts (K.offerTo (K.offerTo (K.changeBlower h ⟨fun _ => .inr still, by simp⟩) _ 0) _ 1) 0 0

theorem stopBlower (K : Kept gaps P) (h : P s) (b : BlowerIdx) (still : ∀ c, (s.blowers.get c).state.inTransition = false) :
    P (s.stopBlower b) := by
  unfold State.stopBlower
  exact K.setCounts (K.offerTo (K.changeBlower h ⟨fun _ => .inr still, by simp⟩) _ 0) 0 0

theorem stageDown (K : Kept gaps P) (h : P s) (D C up : Nat) (still : ∀ c, (s.blowers.get c).state.inTransition = false) :
    P (s.stageDown D C up) := by
  unfold State.stageDown
  split
  · exact K.setCounts h _ _
  · dsimp only
    split
    · exact K.stopBlower h _ still
    · exact K.setCounts h _ _

theorem stage (K : Kept gaps P) (h : P s) (D C : Nat) : P (s.stage D C) := by
  unfold State.stage
  split
  · exact h
  · next settled =>
    have still : ∀ c, (s.blowers.get c).state.inTransition = false := fun c =>
      Bool.not_eq_true _ ▸ fun moving => settled ((Table.any_rows s.blowers (·.state.inTransition)).2 ⟨c, moving⟩)
    split
    · exact K.stopBlower h _ still
    · split
      · exact K.startBlower h _ still
      · exact K.stageDown h D C _ still

theorem offerCommonSpeed (K : Kept gaps P) (h : P s) (G : Nat) : P (s.offerCommonSpeed G) := by
  unfold State.offerCommonSpeed
  refine State.each_induction _ (fun _ _ _ h => ?_) h
  exact K.offerTo h _ _

theorem allocate (K : Kept gaps P) (h : P s) : P s.allocate := by
  unfold State.allocate
  extract_lets reviewed D C F G summed levelled
  have hr : P reviewed := by
    refine State.each_induction _ (fun b _ _ h => ?_) (K.restartAllocation h)
    exact K.reviewBlower h b
  have hs : P summed := K.writeSums (K.writeGrants hr D C F) D C G
  have hl : P levelled := K.setFloorShort (K.setAirShort hs _) _
  exact K.stage (K.offerCommonSpeed hl G) D C

/-! ### Lanes -/

theorem changeRegime (K : Kept gaps P) {g : Gap} (kept : g ∉ gaps) (h : P s) {k : LaneIdx} {new : LaneState}
    (offline : new.regime = .offline ↔ (s.lanes.get k).state.regime = .offline)
    (trips : g ≠ .tripping → new.regime = .tripped → (s.lanes.get k).state.regime = .tripped)
    (agrees : g ≠ .storming → (s.lanes.get k).Agrees s.plant.storm →
      Lane.Agrees { s.lanes.get k with state := new, dwell := 0 } s.plant.storm) : P (s.changeRegime k new) := by
  unfold State.changeRegime
  dsimp only
  refine K.capture (K.move kept (.lane g k _ ?_ ?_ ?_) ?_) _
  · split
    · rw [State.endCycle_but k s .lanes (by decide)]; exact ⟨rfl, rfl, rfl, offline⟩
    · exact ⟨rfl, rfl, rfl, offline⟩
  · split
    · rw [State.endCycle_but k s .lanes (by decide)]; exact trips
    · exact trips
  · split
    · rw [State.endCycle_but k s .lanes (by decide), State.endCycle_but k s .plant (by decide)]; exact agrees
    · exact agrees
  · split
    · exact K.endCycle h k
    · exact h

theorem wake (K : Kept gaps P) (h : P s) {k : LaneIdx} (economy : (s.lanes.get k).state.isEconomy = true) :
    P (s.changeRegime k .normal) := by
  have regime := (State.isEconomy_iff _).1 economy
  refine K.changeRegime (g := .closed) K.closed h (by rw [regime]; exact ⟨nofun, nofun⟩) (fun _ => nofun) fun _ old => ?_
  exact ⟨nofun, fun _ => old.inEconomy regime, nofun, fun _ => rfl⟩

theorem tripIfWorking (K : Kept gaps P) (h : P s) (k : LaneIdx) (cause : WatchIdx) : P (s.tripIfWorking k cause) := by
  unfold State.tripIfWorking
  split
  · next working =>
    by_cases gap : .tripping ∈ gaps
    · exact K.tripLane gap s k cause working h
    · obtain ⟨online, -⟩ := (State.isWorking_iff _).1 working
      refine K.tripOutputs (K.tripZones (K.changeRegime gap (K.capture h _) ?_ (fun no => absurd rfl no) fun _ _ => ?_) k) k
      · exact ⟨nofun, fun offline => absurd offline online⟩
      · exact ⟨nofun, nofun, nofun, fun _ => rfl⟩
  · exact h

theorem tripRequest (K : Kept gaps P) (h : P s) (k : LaneIdx) (cause : WatchIdx) : P (s.tripRequest k cause) := by
  unfold State.tripRequest
  dsimp only
  split
  · refine State.each_induction _ (fun j _ s h => ?_) (K.tripIfWorking h k cause)
    split
    · exact K.tripIfWorking h j cause
    · exact h
  · exact K.tripIfWorking h k cause

/-- A lane that a change of the storm moves, with what it becomes (R63). -/
theorem afterStorm_some {active : Bool} {l new : LaneState} (h : l.afterStorm active = some new) :
    new = (if active then .storm else .normal) ∧ l.regime ≠ .offline ∧ l.regime ≠ .tripped := by
  cases l <;> cases active <;> simp_all [LaneState.afterStorm, LaneState.regime]

theorem stormChanges (K : Kept gaps P) (h : P s) (active : Bool) (hold : active = false → s.plant.exitHold = none) :
    P (s.changeStorm active) := by
  by_cases gap : .storming ∈ gaps
  · exact K.changeStorm gap s active hold h
  · refine K.raise (State.each_induction _ (fun k _ s h => ?_)
      (K.capture (K.move gap (.plant .storming { s.plant with storm := active } rfl fun no => absurd rfl no) h) _)) _
    split
    · next new moves =>
      obtain ⟨rfl, online, untripped⟩ := afterStorm_some moves
      refine K.changeRegime gap h ?_ (fun _ => ?_) fun no => absurd rfl no
      · exact ⟨fun offline => (by cases active <;> cases offline), fun offline => absurd offline online⟩
      · cases active <;> nofun
    · exact h

/-! ### Watches -/

theorem sendNotice (K : Kept gaps P) (h : P s) (w : WatchIdx) (value : Int) : P (s.sendNotice w value) := by
  unfold State.sendNotice
  dsimp only
  split
  · exact h
  · exact K.keep h (.send _ _ rfl)

theorem actFreeze (K : Kept gaps P) (h : P s) (c : WatchConfig) : P (s.actFreeze c) := by
  unfold State.actFreeze
  split
  · exact K.keep h (.frozen true)
  · exact h

theorem armLinked (K : Kept gaps P) (gap : .firing ∉ gaps) (h : P s) (w : WatchIdx) : P (s.armLinked w) := by
  refine K.move gap (.fired _ fun v => ?_) h
  rw [Table.get_map]
  unfold Watch.armBy
  split <;> rfl

theorem actWakeAndFreeze (K : Kept gaps P) (gap : .firing ∉ gaps) (h : P s) (w : WatchIdx) (c : WatchConfig) :
    P (s.actWakeAndFreeze w c) := by
  unfold State.actWakeAndFreeze
  split
  · next wakes =>
    have economy : (s.lanes.get c.targetLane).state.isEconomy = true := by
      simp [State.wakesLane] at wakes
      exact wakes.2
    have woken := K.wake h economy
    extract_lets _ pick
    have picked : P pick.2 := by
      by_cases freezes : c.doesFreeze = true
      · simp only [pick, if_pos freezes]
        exact K.choose woken 2
      · simp only [pick, if_neg freezes]
        exact woken
    split
    · exact K.actFreeze (K.armLinked gap (K.allocate picked) w) c
    · exact K.allocate (K.actFreeze (K.armLinked gap picked w) c)
  · exact K.actFreeze (K.armLinked gap h w) c

theorem fires (K : Kept gaps P) (h : P s) {w : WatchIdx} (armed : (s.watches.get w).state = .armed) (value : Int) : P (s.fire w value) := by
  by_cases gap : .firing ∈ gaps
  · exact K.fire gap s w value armed h
  · have marked : P (s.setWatch w { s.watches.get w with state := .fired (s.watches.get w).config.holdTimer, occurrence := true }) := by
      refine K.move gap (.fired _ fun v => ?_) h
      rw [Table.get_set]
      split
      · next same => rw [same]
      · rfl
    have noticed := K.capture marked (.watchFired w value)
    refine K.actWakeAndFreeze gap ?_ w _
    have notice : P (((s.setWatch w { s.watches.get w with state := .fired (s.watches.get w).config.holdTimer, occurrence := true }).capture
        (.watchFired w value)).actNotice w (s.watches.get w).config value) := by
      unfold State.actNotice
      split
      · exact K.sendNotice noticed w value
      · exact noticed
    unfold State.actTrip
    split
    · exact K.tripRequest notice _ w
    · exact notice

theorem count (K : Kept gaps P) (h : P s) {w : WatchIdx} (armed : (s.watches.get w).state = .armed) (truth : Bool) (value : Int) :
    P (s.count w truth value) := by
  unfold State.count
  dsimp only
  split
  · split
    · exact K.fires h armed value
    · exact K.keep h (.counted w _ rfl rfl (.inl (Nat.sub_le _ 1)))
  · exact K.keep h (.counted w _ rfl rfl (.inr le_rfl))

theorem evaluateWatch (K : Kept gaps P) (h : P s) (ch : Change) (w : WatchIdx) : P (s.evaluateWatch ch w) := by
  unfold State.evaluateWatch
  dsimp only
  split
  · exact h
  · split
    · exact h
    · next truth _ _ =>
      have formed : P (s.setWatch w { s.watches.get w with truth := truth }) := K.keep h (.counted w _ rfl rfl (.inl le_rfl))
      split
      · next armed => exact K.count formed ((congrArg Watch.state (Table.get_set_self _ w _)).trans armed) _ _
      · exact formed

theorem evaluate (K : Kept gaps P) (h : P s) (ch : Change) : P (s.evaluate ch) := by
  unfold State.evaluate
  refine State.each_induction _ (fun w _ _ h => ?_) h
  exact K.evaluateWatch h ch w

theorem drainRounds (K : Kept gaps P) (h : P s) (n : Nat) : P (s.drainRounds n) := by
  induction n generalizing s with
  | zero => exact h
  | succ n ih =>
    unfold State.drainRounds
    split
    · exact h
    · refine ih (State.each_induction _ (fun ch _ _ h => ?_) (K.keep h (.raised [])))
      exact K.evaluate h ch

/-- What every move keeps the watch unit keeps. -/
theorem drain (K : Kept gaps P) (h : P s) : P s.drain := K.drainRounds h 33

/-! ### Update events -/

theorem wakeLane (K : Kept gaps P) (h : P s) {k : LaneIdx} (economy : (s.lanes.get k).state.isEconomy = true) : P (s.wakeLane k) :=
  K.drain (K.allocate (K.wake h economy))

theorem detectStorm (K : Kept gaps P) (h : P s) (v : Int) : P (s.detectStorm v) := by
  unfold State.detectStorm
  dsimp only
  split
  · next active =>
    split
    · split
      · exact K.keep h (.plant .closed _ rfl fun _ => ⟨rfl, fun _ => .inr active⟩)
      · exact h
    · exact K.keep h (.plant .closed _ rfl fun _ => ⟨rfl, nofun⟩)
  · split
    · exact K.drain (K.stormChanges h true nofun)
    · exact h

theorem checkAmmonia (K : Kept gaps P) (h : P s) (p : PointIdx) (v : Int) : P (s.checkAmmonia p v) := by
  unfold State.checkAmmonia
  refine State.each_induction _ (fun k _ s h => ?_) h
  dsimp only
  split
  · next wakes =>
    simp [Lane.wakesByAmmonia] at wakes
    exact K.wakeLane h wakes.1.1.1
  · exact h

theorem checkInfluent (K : Kept gaps P) (h : P s) (v : Int) : P (s.checkInfluent v) := by
  unfold State.checkInfluent
  refine State.each_induction _ (fun k _ s h => ?_) h
  dsimp only
  split
  · next wakes =>
    simp [Lane.wakesByInfluent] at wakes
    exact K.wakeLane h wakes.1.1
  · exact h

theorem takeUpdate (K : Kept gaps P) (h : P s) (p : PointIdx) (d : Dependant) : P (s.takeUpdate p d) := by
  unfold State.takeUpdate
  dsimp only
  split
  · exact K.drain (K.evaluate h _)
  · exact K.detectStorm h _
  · exact K.checkInfluent h _
  · exact K.checkAmmonia h p _
  all_goals exact h

theorem takeUpdates (K : Kept gaps P) (h : P s) (p : PointIdx) (n : Nat) (ds : List Dependant) : P (s.takeUpdates p n ds) := by
  induction n generalizing s ds with
  | zero => exact h
  | succ n ih =>
    unfold State.takeUpdates
    dsimp only
    split
    · exact h
    · exact ih (K.takeUpdate (K.choose h _) p _) _

/-- What every move keeps an update event and its dependants keep (R45). -/
theorem updateEvent (K : Kept gaps P) (h : P s) (p : PointIdx) : P (s.updateEvent p) := K.takeUpdates h p _ _

theorem arriveAtPoint (K : Kept gaps P) (h : P s) (p : PointIdx) (seq : Byte) (i : ItemValue)
    (config : ((s.points.get p).take seq i).config = (s.points.get p).config) : P (s.arriveAtPoint p seq i) := by
  unfold State.arriveAtPoint
  dsimp only
  split
  · exact K.updateEvent (K.keep h (.point p _ config)) p
  · exact h

end Kept

end Sys2Proof.Machine
end

section
/-! What a command does to the part beyond the moves of its events: the changes a request, an expiry or a frame makes in one piece, each
with the parts it touches. -/
namespace Sys2Proof.Machine

/-- The values of a configuration are checked wherever those of the one it follows are. -/
abbrev Checks (Sound : α → Prop) (old new : α) : Prop := Sound old → Sound new

/-- One piece of a command that is no move: what it touches, and what it respects. -/
inductive Event : List Part → State → State → Prop where
  /-- A valid frame restarts the ring-silence timer and clears RING_SILENT (R15). -/
  | heard {s} : Event [.silence, .silent, .history, .raised] s (s.startSilence.setLevel .ringSilent false)
  | silence {s} (running : s.power = .running) : Event [.silence, .silent, .history, .raised] s s.silenceExpires
  | frameSent {s} : Event [.traffic] s s.finishFrame
  /-- The guard notes a value for a used output (R146). -/
  | noted {s} (o : OutputIdx) (v : Int) (used : (s.outputs.get o).config.unused = false)
      (within : (s.outputs.get o).config.Sound → (s.outputs.get o).config.low ≤ v ∧ v ≤ (s.outputs.get o).config.high) :
      Event [.outputs, .traffic] s (s.noteValue o v)
  /-- An output of no TRIPPED lane becomes SUPERVISED under a lease (R141). -/
  | supervised {s} (o : OutputIdx) (leased : s.supervision.countdown.isSome = true)
      (untripped : s.servesTripped (s.outputs.get o).config = false) :
      Event [.outputs] s (s.setOutput o { s.outputs.get o with state := .supervised })
  | applied {s} (k : LaneIdx) : Event [.lanes, .zones] s (s.applyPending k)
  | period {s} (k : LaneIdx) (online : (s.lanes.get k).timer.isSome = true) : Event [.lanes] s (s.startPeriod k)
  /-- A working lane enters OFFLINE, its zones with it (R74). -/
  | offline {s} (k : LaneIdx) (working : (s.lanes.get k).state.isWorking = true) :
      Event [.lanes, .zones, .history] s
        (((s.changeRegime k .offline).setLane k { (s.changeRegime k .offline).lanes.get k with timer := none }).offlineZones k)
  /-- A lane leaves OFFLINE for a regime that agrees with the storm (R75). -/
  | online {s} (k : LaneIdx) (new : LaneState) (old : (s.lanes.get k).state.regime = .offline) (working : new.isWorking = true)
      (agrees : Lane.Agrees { s.lanes.get k with state := new, dwell := 0 } s.plant.storm) :
      Event [.lanes, .zones, .history] s (((s.changeRegime k new).initialZones k).startPeriod k)
  | staged {s} (k : LaneIdx) (p : Pending) (sound : s.SettingsSound → p.Sound k s.settings.outputs) :
      Event [.lanes] s (s.setLane k { s.lanes.get k with pending := some p })
  | paced {s} (r : LineIdx) (l : ReturnLine) (config : l.config = (s.returns.get r).config) (timer : l.timer.isSome = true)
      (sound : (s.returns.get r).config.Sound → (s.returns.get r).Sound → l.Sound) : Event [.returns] s (s.setReturn r l)
  | resent {s} (o : OutputIdx) (running : (s.outputs.get o).resendTimer.isSome = true) : Event [.outputs, .traffic, .raised] s (s.resend o)
  | leased {s} (t : Nat) : Event [.supervision, .history, .raised] s
      ((s.withSupervision { s.supervision with countdown := some t }).setLevel .supervisionLost false)
  | unleased {s} (released : ∀ o, (s.outputs.get o).state = .auto) : Event [.supervision, .history, .raised] s
      ((s.withSupervision { s.supervision with countdown := none }).setLevel .supervisionLost true)
  /-- A FIRED watch is rearmed (R169, R170). -/
  | rearmed {s} (w : WatchIdx) (x : Watch) (fired : (s.watches.get w).state.isFired = true) (config : x.config = (s.watches.get w).config)
      (count : x.count ≤ (s.watches.get w).count ∨ x.count ≤ x.config.persistence - 1) : Event [.watches] s (s.rearm w x)
  /-- The commit state and the images move on: a snapshot is taken while the part runs, and written where a commit was in flight (R187, R188). -/
  | managed {s} (m : Management)
      (commit : ∀ c, m.commit = some c → s.management.commit = some c ∨ (s.power = .running ∧ c.settings = s.settings))
      (images : ∀ i image, m.images.get i = some image → s.management.images.get i = some image ∨
        ∃ c, s.management.commit = some c ∧ image.settings = c.settings) : Event [.management] s (s.withManagement m)
  | historyRead {s} (n : Nat) : Event [.history] s (s.withHistory { s.history with entries := s.history.entries.drop n })
  | routeWritten {s} (i : RouteIdx) (c : RouteConfig) (sound : Checks RouteConfig.Sound (s.routes.get i).config c) :
      Event [.routes] s (s.setRoute i { s.routes.get i with config := c })
  | pointWritten {s} (p : PointIdx) (c : PointConfig) (sound : Checks PointConfig.Sound (s.points.get p).config c) :
      Event [.points] s (s.setPoint p (Point.fresh c))
  | outputWritten {s} (o : OutputIdx) (c : OutputConfig) (sound : Checks OutputConfig.Sound (s.outputs.get o).config c)
      (suits : s.outputSuits o c = true) : Event [.outputs, .traffic, .zones, .history, .raised] s (s.writeOutput o c)
  | blowerWritten {s} (b : BlowerIdx) (c : BlowerConfig) (sound : Checks BlowerConfig.Sound (s.blowers.get b).config c)
      (suits : s.rankSuits b c = true) : Event [.blowers] s (s.setBlower b { config := c, state := (s.blowers.get b).state.marked c })
  | returnWritten {s} (r : LineIdx) (c : ReturnConfig) (sound : Checks ReturnConfig.Sound (s.returns.get r).config c) :
      Event [.returns] s (s.setReturn r ((s.returns.get r).rewrite c))
  | watchWritten {s} (w : WatchIdx) (c : WatchConfig) (sound : Checks (·.Sound w) (s.watches.get w).config c)
      (unfired : (s.watches.get w).state.isFired = false) :
      Event [.watches] s (s.setWatch w ((s.watches.get w).rewritten c (s.stageFired c)))
  | plantWritten {s} (c : PlantConfig) (sound : Checks PlantConfig.Sound s.plant.config c) :
      Event [.plant] s (s.withPlant { s.plant with config := c })
  | allocatorWritten {s} (c : AllocatorConfig) (sound : Checks AllocatorConfig.Sound s.allocator.config c) :
      Event [.allocator] s (s.withAllocator { s.allocator with config := c })
  | restarted {s} : Event [.traffic, .routes, .points, .plant, .lanes, .zones, .allocator, .returns, .outputs, .supervision, .watches] s
      s.restartRingAndOutputs.restartBlocks

/-! ### The parts an event touches -/

namespace State

theorem setReturn_but (s : State) (r : LineIdx) (l : ReturnLine) : s.SameBut [.returns] (s.setReturn r l) := s.withReturns_but _

theorem withSilence_but (s : State) (t : Option Nat) (b : Bool) :
    s.SameBut [.silence, .silent] (s.withRing { s.ring with silence := t, silent := b }) := by
  intro p h
  cases p <;> first | rfl | exact absurd (by decide) h | exact ⟨rfl, rfl⟩ | exact ⟨rfl, rfl, rfl, rfl, rfl⟩

theorem setSilent_but (s : State) (b : Bool) : s.SameBut [.silence, .silent, .history, .raised] (s.setLevel .ringSilent b) := by
  unfold setLevel
  split
  · exact .refl _ s
  · exact (((s.withSilence_but s.ring.silence b).mono (by simp +contextual)).trans ((capture_but _ _).mono (by simp))).trans
      ((raise_but _ _).mono (by simp))

theorem setLost_but (s : State) (b : Bool) : s.SameBut [.supervision, .history, .raised] (s.setLevel .supervisionLost b) := by
  unfold setLevel
  split
  · exact .refl _ s
  · exact (((s.withSupervision_but _).mono (by simp)).trans ((capture_but _ _).mono (by simp))).trans ((raise_but _ _).mono (by simp))

theorem withTraffic_but (s : State) (forward : List Frame) (transmit : List Queued) (line : Option Frame) (run : Nat) (sequence : Byte) :
    s.SameBut [.traffic] (s.withRing { s.ring with
      forward := forward, transmit := transmit, line := line, runCount := run, sequence := sequence }) := by
  intro p h
  cases p <;> first | rfl | exact absurd (by decide) h | exact ⟨rfl, rfl⟩

theorem finishFrame_but (s : State) : s.SameBut [.traffic] s.finishFrame := by
  unfold finishFrame
  split
  · obtain ⟨received, passing, silence, silent⟩ := startNext_keeps s.ring s.ownAddress
    exact s.withRing_traffic _ received passing silence silent
  · exact .refl _ s

theorem applyPending_but (k : LaneIdx) (s : State) : s.SameBut [.lanes, .zones] (s.applyPending k) := by
  unfold applyPending
  dsimp only
  split
  · exact .refl _ s
  · refine ((s.setLane_but k _).mono (by simp)).trans (.each _ (fun i u => ?_) _ _)
    exact (u.setZone_but _ _).mono (by simp)

theorem startPeriod_but (k : LaneIdx) (s : State) : s.SameBut [.lanes] (s.startPeriod k) := s.setLane_but k _

theorem rearm_but (w : WatchIdx) (x : Watch) (s : State) : s.SameBut [.watches] (s.rearm w x) :=
  (s.setWatch_but w _).trans (withWatches_but _ _)

theorem reassignOutput_but (o : OutputIdx) (s : State) : s.SameBut [.outputs, .traffic, .zones, .history] (s.reassignOutput o) := by
  unfold reassignOutput
  extract_lets _ cleared
  have detached : cleared.SameBut [.traffic] (cleared.withRing (cleared.ring.detach o)) := cleared.withTraffic_but _ _ _ _ _
  refine SameBut.trans (SameBut.trans ((s.setOutput_but o _).mono (by simp)) (detached.mono (by simp))) ?_
  exact (changeOutput_but o .auto _).mono (by simp +contextual)

theorem reclampOutput_but (o : OutputIdx) (s : State) : s.SameBut offerParts (s.reclampOutput o) := by
  unfold reclampOutput
  dsimp only
  split
  · exact .refl _ s
  · split
    · exact .refl _ s
    · exact sendValue_but o _ s

theorem writeOutput_but (o : OutputIdx) (c : OutputConfig) (s : State) :
    s.SameBut [.outputs, .traffic, .zones, .history, .raised] (s.writeOutput o c) := by
  unfold writeOutput
  extract_lets old _ s1 s2 s3 s4
  have h1 : s.SameBut [.outputs, .traffic, .zones, .history, .raised] s1 := (s.setOutput_but o _).mono (by simp)
  have h2 : s1.SameBut [.outputs, .traffic, .zones, .history, .raised] s2 := by
    simp only [s2]
    split
    · exact (s1.reassignOutput_but o).mono (by simp +contextual)
    · exact .refl _ s1
  have h3 : s2.SameBut [.outputs, .traffic, .zones, .history, .raised] s3 := by
    simp only [s3]
    split
    · exact (changeOutput_but o .auto s2).mono (by simp +contextual)
    · exact .refl _ s2
  have h4 : s3.SameBut [.outputs, .traffic, .zones, .history, .raised] s4 := by
    simp only [s4]
    split
    · exact (s3.reclampOutput_but o).mono (by simp +contextual)
    · exact .refl _ s3
  refine ((h1.trans h2).trans h3).trans (h4.trans ?_)
  split
  · exact (s4.setOutput_but o _).mono (by simp)
  · exact .refl _ s4

theorem restartRingAndOutputs_but (s : State) : s.SameBut [.traffic, .outputs] s.restartRingAndOutputs :=
  ((s.withOutputs_but _).mono (by simp)).trans ((withTraffic_but _ _ _ _ _ _).mono (by simp))

theorem restartBlocks_but (s : State) : s.SameBut [.routes, .points, .plant, .lanes, .zones, .allocator, .returns, .supervision, .watches]
    s.restartBlocks := by
  unfold restartBlocks
  extract_lets lanes s1 s2 s3 s4 s5 s6
  have h1 := (s.withRouteTable_but (s.routes.map fun r => { r with hit := false })).mono
    (d := [.routes, .points, .plant, .lanes, .zones, .allocator, .returns, .supervision, .watches]) (by simp)
  have h2 := h1.trans ((s1.withPointTable_but (s1.points.map fun p => Point.fresh p.config)).mono (by simp))
  have h3 := (h2.trans ((s2.withLanes_but lanes).mono (by simp))).trans ((withPlant_but _ (Plant.fresh s2.plant.config)).mono (by simp))
  have h4 := h3.trans ((s3.withZones_but (Table.build fun z =>
    Zone.fresh (lanes.get (laneOf z)) (placeOf z) (s3.zones.get z).config)).mono (by simp))
  have h5 := h4.trans ((s4.withAllocator_but s4.allocator.restart).mono (by simp))
  have h6 := h5.trans ((s5.withReturns_but (s5.returns.map fun r => (ReturnLine.fresh r.config).startTimer)).mono (by simp))
  exact (h6.trans ((s6.withSupervision_but _).mono (by simp))).trans ((withWatches_but _ _).mono (by simp))

theorem restarted_but (s : State) : s.SameBut [.traffic, .routes, .points, .plant, .lanes, .zones, .allocator, .returns, .outputs,
    .supervision, .watches] s.restartRingAndOutputs.restartBlocks :=
  (s.restartRingAndOutputs_but.mono (by simp +contextual)).trans ((restartBlocks_but _).mono (by simp +contextual))

end State

/-- An event changes no part but those it names. -/
theorem Event.but {c : List Part} {s t : State} (e : Event c s t) : s.SameBut c t := by
  cases e with
  | heard => exact ((s.withSilence_but _ s.ring.silent).mono (by simp +contextual)).trans (State.setSilent_but _ false)
  | silence _ => exact ((s.withSilence_but none s.ring.silent).mono (by simp +contextual)).trans (State.setSilent_but _ true)
  | frameSent => exact s.finishFrame_but
  | noted o v _ _ => exact State.noteValue_but o v s
  | supervised o _ _ => exact s.setOutput_but o _
  | applied k => exact State.applyPending_but k s
  | period k _ => exact State.startPeriod_but k s
  | offline k _ =>
    refine ((State.changeRegime_but k .offline s).mono (by simp +contextual)).trans ?_
    generalize s.changeRegime k .offline = u
    exact ((u.setLane_but k _).mono (by simp)).trans ((State.offlineZones_but k _).mono (by simp))
  | online k new _ _ _ =>
    refine ((State.changeRegime_but k new s).mono (by simp +contextual)).trans ?_
    generalize s.changeRegime k new = u
    exact ((State.eachWorking_but k _ u).mono (by simp)).trans ((State.startPeriod_but k _).mono (by simp))
  | staged k p _ => exact s.setLane_but k _
  | paced r l _ _ _ => exact s.setReturn_but r l
  | resent o _ => exact State.resend_but o s
  | leased t => exact ((s.withSupervision_but _).mono (by simp)).trans (State.setLost_but _ false)
  | unleased _ => exact ((s.withSupervision_but _).mono (by simp)).trans (State.setLost_but _ true)
  | rearmed w x _ _ _ => exact State.rearm_but w x s
  | managed m _ _ => exact s.withManagement_but m
  | historyRead n => exact s.withHistory_but _
  | routeWritten i c _ => exact s.withRouteTable_but _
  | pointWritten p c _ => exact s.withPointTable_but _
  | outputWritten o c _ _ => exact State.writeOutput_but o c s
  | blowerWritten b c _ _ => exact s.setBlower_but b _
  | returnWritten r c _ => exact s.setReturn_but r _
  | watchWritten w c _ _ => exact s.setWatch_but w _
  | plantWritten c _ => exact s.withPlant_but _
  | allocatorWritten c _ => exact s.withAllocator_but _
  | restarted => exact s.restarted_but

/-- A predicate that the events of a running part keep: every move and every event. -/
structure KeptByEvents (gaps : List Gap) (P : State → Prop) : Prop extends Kept gaps P where
  event : ∀ {c s t}, Event c s t → P s → P t

/-- A predicate that every command keeps: besides moves and events, the bytes at ring-in and the resets. -/
structure KeptByCommands (gaps : List Gap) (P : State → Prop) : Prop extends KeptByEvents gaps P where
  received : ∀ s bytes, s.power = .running → P s → P (s.withReceived bytes)
  carried : ∀ s passing inPassage, s.power ≠ .running → P s → P (s.withRing { s.ring with passing := passing, inPassage := inPassage })
  resetAssert : ∀ s, P s → P s.assertReset
  startFrom : ∀ s i image straps, s.management.commit = none → s.management.images.get i = some image → P s → P (s.startFrom i image straps)
  startDefault : ∀ s straps, s.management.commit = none → P s → P ((s.fullReset straps Settings.default).withManagement
    { s.management with commit := none, generation := 0, current := none })
  bypassEnd : ∀ s, s.power = .bypass → s.ring.inPassage = [] → P s → P s.startReceiving

/-- A predicate that every step keeps: besides commands, the passing of time and the queue of commands. -/
structure KeptByAll (gaps : List Gap) (P : State → Prop) : Prop extends KeptByCommands gaps P where
  tick : ∀ s, P s → P s.tick
  pending : ∀ s commands, P s → P (s.withPending commands)

end Sys2Proof.Machine
end

section
/-! Written fields: what each kind of field can put into a record, and that a run of writes with the checks of its table keeps a checked
configuration checked (R185 steps 4 and 5). -/
namespace Sys2Proof.Machine

section
variable {α : Type} {r : α × Bool} {v : Int} {Q : α → Prop}

theorem numeric_put {lo hi : Int} {put : Int → α} (h : numeric lo hi v put = some r) (order : lo ≤ hi)
    (each : ∀ w, lo ≤ w → w ≤ hi → Q (put w)) : Q r.1 := by
  obtain ⟨low, high⟩ := clampInt_bounds v order
  cases h
  exact each _ low high

theorem yesNo_put {put : Bool → α} (h : yesNo v put = some r) (each : ∀ x, Q (put x)) : Q r.1 := by
  unfold yesNo at h
  split at h
  · cases h; exact each _
  · split at h
    · cases h; exact each _
    · cases h

theorem index_put {n : Nat} {put : Fin n → α} (h : index n v put = some r) (each : ∀ x, Q (put x)) : Q r.1 := by
  unfold index at h
  split at h
  · cases h; exact each _
  · cases h

theorem link_put {n : Nat} {put : Option (Fin n) → α} (h : link n v put = some r) (each : ∀ x, Q (put x)) : Q r.1 := by
  unfold link at h
  split at h
  · cases h; exact each _
  · exact index_put h fun x => each (some x)

theorem choice_put {β : Type} {values : List β} {put : β → α} (h : choice values v put = some r) (each : ∀ x, Q (put x)) : Q r.1 := by
  unfold choice at h
  split at h
  · cases h
  · obtain ⟨x, -, rfl⟩ := Option.map_eq_some_iff.1 h
    exact each x

theorem bitSet_put {n : Nat} {put : BitVec n → α} (h : bitSet n v put = some r) (each : ∀ x, Q (put x)) : Q r.1 := by
  unfold bitSet at h
  split at h
  · cases h; exact each _
  · cases h

theorem writeSubject_put {put : Subject → α} (h : writeSubject v put = some r) (each : ∀ x, Q (put x)) : Q r.1 := by
  unfold writeSubject at h
  split at h
  · exact index_put h fun p => each (.point p)
  · exact choice_put h each

/-- A run of writes keeps what each write keeps. -/
theorem writeRun_keeps {write : α → Nat → Int → Written α} (keeps : ∀ c id v r, write c id v = some r → Q c → Q r.1) {i : Nat} {vs : List Int}
    {c : α} (h : writeRun write i vs c = some r) (hc : Q c) : Q r.1 := by
  induction vs generalizing i c r with
  | nil => cases h; exact hc
  | cons v vs ih =>
    unfold writeRun at h
    split at h
    · cases h
    · next c' b written =>
      obtain ⟨r', rest, rfl⟩ := Option.map_eq_some_iff.1 h
      have hc' : Q c' := keeps c i v _ written hc
      exact ih (r := r') rest hc'

/-- A record whose fields lie in their ranges is checked once its table's checks have brought it into order. -/
theorem examine_sound {write : α → Nat → Int → Written α} {settle : α → α × Bool} {Sound : α → Prop}
    (keeps : ∀ c id v r, write c id v = some r → Q c → Q r.1) (settles : ∀ c, Q c → Sound (settle c).1) (ranges : ∀ c, Sound c → Q c)
    {first : Byte} {vs : List Int} {c : α} (h : examine write settle first vs c = some r) : Checks Sound c r.1 := by
  intro sound
  obtain ⟨r', run, rfl⟩ := Option.map_eq_some_iff.1 h
  exact settles _ (writeRun_keeps keeps run (ranges c sound))

end

/-! ### The ranges of the fields, table by table -/

def RouteConfig.InRange (c : RouteConfig) : Prop :=
  c.exponent ≤ 15 ∧ c.pointBase ≤ 127 ∧ (c.channels = 1 ∨ c.channels = 2 ∨ c.channels = 4 ∨ c.channels = 8)

def PointConfig.InRange (c : PointConfig) : Prop :=
  (-8388608 ≤ c.low ∧ c.low ≤ 8388607) ∧ (-8388608 ≤ c.high ∧ c.high ≤ 8388607) ∧ c.ageLimit ≤ 65535 ∧ c.shift ≤ 7

def OutputConfig.InRange (c : OutputConfig) : Prop :=
  (-8388608 ≤ c.low ∧ c.low ≤ 8388607) ∧ c.high ≤ 8388607 ∧ 0 ≤ c.deadband ∧ c.resend ≤ 3600

def LaneConfig.InRange (c : LaneConfig) : Prop :=
  1 ≤ c.period ∧ c.period ≤ 60 ∧ 1 ≤ c.zoneCount ∧ c.zoneCount ≤ 4 ∧ 1 ≤ c.dwellMinutes ∧ c.dwellMinutes ≤ 240 ∧
    60 ≤ c.cycleLength ∧ c.cycleLength ≤ 3600 ∧ 0 ≤ c.minimumOn ∧ c.minimumOn ≤ 64

def ZoneConfig.InRange (c : ZoneConfig) : Prop :=
  200 ≤ c.baseSetpoint ∧ c.baseSetpoint ≤ 4000 ∧ 200 ≤ c.stormSetpoint ∧ c.stormSetpoint ≤ 4000 ∧ c.biasAir ≤ 65535 ∧
    c.minAir ≤ 65535 ∧ c.maxAir ≤ 65535 ∧ c.fixedAir ≤ 65535 ∧ c.tripAir ≤ 65535 ∧ 1 ≤ c.valveRate ∧ c.valveRate ≤ 1000

def BlowerConfig.InRange (c : BlowerConfig) : Prop :=
  c.cmin ≤ 65535 ∧ c.cmax ≤ 65535 ∧ 10 ≤ c.warmUp ∧ c.warmUp ≤ 900 ∧ c.timeout ≤ 900 ∧ 5 ≤ c.rundown ∧ c.rundown ≤ 300

def ReturnConfig.InRange (c : ReturnConfig) : Prop :=
  c.minFlow ≤ 8388607 ∧ c.maxFlow ≤ 8388607 ∧ 10 ≤ c.period ∧ c.period ≤ 600 ∧ c.ratio ≤ 2000

def WatchConfig.InRange (c : WatchConfig) : Prop := 1 ≤ c.persistence ∧ c.persistence ≤ 256 ∧ 1 ≤ c.hold ∧ c.hold ≤ 3600

def PlantConfig.InRange (c : PlantConfig) : Prop :=
  10 ≤ c.stormHold ∧ c.stormHold ≤ 7200 ∧ 1 ≤ c.silenceTime ∧ c.silenceTime ≤ 60

section
variable {id : Nat} {v : Int}

theorem RouteConfig.write_inRange {c : RouteConfig} {r : RouteConfig × Bool} (h : c.write id v = some r) (range : c.InRange) : r.1.InRange := by
  unfold RouteConfig.InRange at range
  unfold RouteConfig.write at h
  split at h
  · exact yesNo_put h fun _ => range
  · exact choice_put h fun _ => range
  · exact numeric_put h (by decide) fun _ _ _ => range
  · refine numeric_put h (by decide) fun w low high => ?_
    simp only [RouteConfig.InRange]; omega
  · exact bitSet_put h fun _ => range
  · exact choice_put h fun _ => range
  · refine numeric_put h (by decide) fun w low high => ?_
    simp only [RouteConfig.InRange]; omega
  · split at h
    · cases h
      simp only [RouteConfig.InRange]; omega
    · cases h
  · exact yesNo_put h fun _ => range
  · cases h

theorem PointConfig.write_inRange {c : PointConfig} {r : PointConfig × Bool} (h : c.write id v = some r) (range : c.InRange) : r.1.InRange := by
  unfold PointConfig.InRange at range
  unfold PointConfig.write at h
  split at h
  · exact choice_put h fun _ => range
  iterate 4
    · refine numeric_put h (by decide) fun w low high => ?_
      simp only [PointConfig.InRange]; omega
  · cases h

theorem OutputConfig.write_inRange {c : OutputConfig} {r : OutputConfig × Bool} (h : c.write id v = some r) (range : c.InRange) :
    r.1.InRange := by
  unfold OutputConfig.InRange at range
  unfold OutputConfig.write at h
  split at h
  · exact numeric_put h (by decide) fun _ _ _ => range
  · exact numeric_put h (by decide) fun _ _ _ => range
  · exact choice_put h fun _ => range
  iterate 6
    · refine numeric_put h (by decide) fun w low high => ?_
      simp only [OutputConfig.InRange]; omega
  · cases h

theorem LaneConfig.write_inRange {c : LaneConfig} {r : LaneConfig × Bool} (h : c.write id v = some r) (range : c.InRange) : r.1.InRange := by
  have numbers : ∀ {lo hi : Int} {put : Int → LaneConfig}, numeric lo hi v put = some r → lo ≤ hi →
      (∀ w, lo ≤ w → w ≤ hi → (put w).InRange) → r.1.InRange := numeric_put
  unfold LaneConfig.write at h
  split at h
  · exact yesNo_put h fun _ => range
  iterate 2
    · refine numbers h (by decide) fun w low high => ?_
      simp only [LaneConfig.InRange] at range ⊢; omega
  · exact link_put h fun _ => range
  iterate 4 exact numbers h (by decide) fun _ _ _ => range
  · exact numbers h (by decide) fun _ _ _ => range
  iterate 2 exact link_put h fun _ => range
  · exact yesNo_put h fun _ => range
  · exact numbers h (by decide) fun _ _ _ => range
  · refine numbers h (by decide) fun w low high => ?_
    simp only [LaneConfig.InRange] at range ⊢; omega
  · exact bitSet_put h fun _ => range
  iterate 2 exact numbers h (by decide) fun _ _ _ => range
  · refine numbers h (by decide) fun w low high => ?_
    simp only [LaneConfig.InRange] at range ⊢; omega
  · exact numbers h (by decide) fun _ _ _ => range
  · refine numbers h (by decide) fun w low high => ?_
    simp only [LaneConfig.InRange] at range ⊢; omega
  · exact numbers h (by decide) fun _ _ _ => range
  · cases h

theorem ZoneConfig.write_inRange {accepts : OutputIdx → Bool} {c : ZoneConfig} {r : ZoneConfig × Bool} (h : c.write accepts id v = some r)
    (range : c.InRange) : r.1.InRange := by
  have numbers : ∀ {lo hi : Int} {put : Int → ZoneConfig}, numeric lo hi v put = some r → lo ≤ hi →
      (∀ w, lo ≤ w → w ≤ hi → (put w).InRange) → r.1.InRange := numeric_put
  unfold ZoneConfig.write at h
  split at h
  iterate 2 exact link_put h fun _ => range
  · obtain ⟨r', written, kept⟩ := Option.bind_eq_some_iff.1 h
    split at kept
    · cases kept; exact link_put written fun _ => range
    · cases kept
  iterate 10
    · refine numbers h (by decide) fun w low high => ?_
      simp only [ZoneConfig.InRange] at range ⊢; omega
  · exact yesNo_put h fun _ => range
  iterate 2
    · refine numbers h (by decide) fun w low high => ?_
      simp only [ZoneConfig.InRange] at range ⊢; omega
  · cases h

theorem BlowerConfig.write_inRange {c : BlowerConfig} {r : BlowerConfig × Bool} (h : c.write id v = some r) (range : c.InRange) :
    r.1.InRange := by
  have numbers : ∀ {lo hi : Int} {put : Int → BlowerConfig}, numeric lo hi v put = some r → lo ≤ hi →
      (∀ w, lo ≤ w → w ≤ hi → (put w).InRange) → r.1.InRange := numeric_put
  unfold BlowerConfig.write at h
  split at h
  · exact yesNo_put h fun _ => range
  iterate 3 exact link_put h fun _ => range
  iterate 2
    · refine numbers h (by decide) fun w low high => ?_
      simp only [BlowerConfig.InRange] at range ⊢; omega
  · exact index_put h fun _ => range
  iterate 3
    · refine numbers h (by decide) fun w low high => ?_
      simp only [BlowerConfig.InRange] at range ⊢; omega
  · cases h

theorem ReturnConfig.write_inRange {c : ReturnConfig} {r : ReturnConfig × Bool} (h : c.write id v = some r) (range : c.InRange) :
    r.1.InRange := by
  have numbers : ∀ {lo hi : Int} {put : Int → ReturnConfig}, numeric lo hi v put = some r → lo ≤ hi →
      (∀ w, lo ≤ w → w ≤ hi → (put w).InRange) → r.1.InRange := numeric_put
  unfold ReturnConfig.write at h
  split at h
  iterate 3 exact link_put h fun _ => range
  iterate 8
    · refine numbers h (by decide) fun w low high => ?_
      simp only [ReturnConfig.InRange] at range ⊢; omega
  · cases h

theorem WatchConfig.write_inRange {c : WatchConfig} {r : WatchConfig × Bool} (h : c.write id v = some r) (range : c.InRange) : r.1.InRange := by
  have numbers : ∀ {lo hi : Int} {put : Int → WatchConfig}, numeric lo hi v put = some r → lo ≤ hi →
      (∀ w, lo ≤ w → w ≤ hi → (put w).InRange) → r.1.InRange := numeric_put
  unfold WatchConfig.write at h
  split at h
  · exact yesNo_put h fun _ => range
  · exact writeSubject_put h fun _ => range
  · exact choice_put h fun _ => range
  iterate 4
    · refine numbers h (by decide) fun w low high => ?_
      simp only [WatchConfig.InRange] at range ⊢; omega
  · exact link_put h fun _ => range
  · exact bitSet_put h fun _ => range
  · exact yesNo_put h fun _ => range
  iterate 2 exact index_put h fun _ => range
  · exact choice_put h fun _ => range
  · refine numbers h (by decide) fun w low high => ?_
    simp only [WatchConfig.InRange] at range ⊢; omega
  · cases h

theorem PlantConfig.write_inRange {c : PlantConfig} {r : PlantConfig × Bool} (h : c.write id v = some r) (range : c.InRange) : r.1.InRange := by
  have numbers : ∀ {lo hi : Int} {put : Int → PlantConfig}, numeric lo hi v put = some r → lo ≤ hi →
      (∀ w, lo ≤ w → w ≤ hi → (put w).InRange) → r.1.InRange := numeric_put
  unfold PlantConfig.write at h
  split at h
  · exact link_put h fun _ => range
  iterate 3
    · refine numbers h (by decide) fun w low high => ?_
      simp only [PlantConfig.InRange] at range ⊢; omega
  iterate 4 exact yesNo_put h fun _ => range
  iterate 2
    · refine numbers h (by decide) fun w low high => ?_
      simp only [PlantConfig.InRange] at range ⊢; omega
  · cases h

theorem AllocatorConfig.write_sound {c : AllocatorConfig} {r : AllocatorConfig × Bool} (h : c.write id v = some r) (sound : c.Sound) :
    r.1.Sound := by
  have numbers : ∀ {lo hi : Int} {put : Int → AllocatorConfig}, numeric lo hi v put = some r → lo ≤ hi →
      (∀ w, lo ≤ w → w ≤ hi → (put w).Sound) → r.1.Sound := numeric_put
  unfold AllocatorConfig.write at h
  split at h
  iterate 5
    · refine numbers h (by decide) fun w low high => ?_
      simp only [AllocatorConfig.Sound] at sound ⊢; omega
  · cases h

end

/-! ### The checks of each table -/

/-- Clearing low bits twice is clearing them once. -/
theorem clearLow_clearLow (k : Nat) (a : Addr) : clearLow k (clearLow k a) = clearLow k a := by
  unfold clearLow
  apply BitVec.eq_of_getLsbD_eq
  intro i hi
  simp only [BitVec.getLsbD_shiftLeft, BitVec.getLsbD_ushiftRight]
  by_cases low : i < k
  · simp [low]
  · have back : k + (i - k) = i := by omega
    simp [low, back, hi]

section
variable {first : Byte} {vs : List Int}

theorem RouteConfig.examine_sound {c : RouteConfig} {r : RouteConfig × Bool}
    (h : examine RouteConfig.write RouteConfig.settle first vs c = some r) : Checks RouteConfig.Sound c r.1 :=
  Machine.examine_sound (Q := InRange) (fun _ _ _ _ => write_inRange)
    (fun _ ⟨exponent, base, channels⟩ => ⟨exponent, base, channels, clearLow_clearLow _ _⟩)
    (fun _ ⟨exponent, base, channels, _⟩ => ⟨exponent, base, channels⟩) h

theorem PointConfig.examine_sound {c : PointConfig} {r : PointConfig × Bool}
    (h : examine PointConfig.write PointConfig.settle first vs c = some r) : Checks PointConfig.Sound c r.1 := by
  refine Machine.examine_sound (Q := InRange) (fun _ _ _ _ => write_inRange) (fun c range => ?_) (fun c sound => ?_) h
  · unfold InRange at range
    have positive : ¬(c.kind.nonNegative = true ∧ c.low < 0) → c.kind.nonNegative = true → 0 ≤ c.low := fun other kind =>
      not_lt.1 fun below => other ⟨kind, below⟩
    simp only [settle, Sound]
    split
    · split <;> exact ⟨by omega, by omega, by omega, by omega, by omega, fun _ => le_rfl⟩
    · next other => split <;> exact ⟨by omega, by omega, by omega, by omega, by omega, positive other⟩
  · obtain ⟨h1, h2, h3, h4, h5, -⟩ := sound
    unfold InRange
    omega

theorem OutputConfig.examine_sound {c : OutputConfig} {r : OutputConfig × Bool}
    (h : examine OutputConfig.write OutputConfig.settle first vs c = some r) : Checks OutputConfig.Sound c r.1 := by
  refine Machine.examine_sound (Q := InRange) (fun _ _ _ _ => write_inRange) (fun c range => ?_) (fun c sound => ?_) h
  · unfold InRange at range
    simp only [settle, Sound]
    split
    · obtain ⟨low, high⟩ := clampInt_bounds (lo := c.low) (hi := c.low) c.trip (by omega)
      exact ⟨by omega, low, high, by omega, by omega, by omega⟩
    · obtain ⟨low, high⟩ := clampInt_bounds (lo := c.low) (hi := c.high) c.trip (by omega)
      exact ⟨by omega, low, high, by omega, by omega, by omega⟩
  · unfold Sound at sound
    unfold InRange
    omega

theorem LaneConfig.examine_sound {c : LaneConfig} {r : LaneConfig × Bool}
    (h : examine LaneConfig.write LaneConfig.settle first vs c = some r) : Checks LaneConfig.Sound c r.1 := by
  refine Machine.examine_sound (Q := InRange) (fun _ _ _ _ => write_inRange) (fun c range => ?_) (fun c sound => ?_) h
  · unfold InRange at range
    unfold settle
    split
    · simp only [Sound]; omega
    · simp only [Sound]; omega
  · unfold Sound at sound
    unfold InRange
    omega

theorem ZoneConfig.examine_sound {accepts : OutputIdx → Bool} {c : ZoneConfig} {r : ZoneConfig × Bool}
    (h : examine (ZoneConfig.write accepts) ZoneConfig.settle first vs c = some r) : Checks ZoneConfig.Sound c r.1 := by
  refine Machine.examine_sound (Q := InRange) (fun _ _ _ _ => write_inRange) (fun c range => ?_) (fun c sound => ?_) h
  · unfold InRange at range
    unfold settle
    split
    · simp only [Sound]; omega
    · simp only [Sound]; omega
  · unfold Sound at sound
    unfold InRange
    omega

theorem BlowerConfig.examine_sound {c : BlowerConfig} {r : BlowerConfig × Bool}
    (h : examine BlowerConfig.write BlowerConfig.settle first vs c = some r) : Checks BlowerConfig.Sound c r.1 := by
  refine Machine.examine_sound (Q := InRange) (fun _ _ _ _ => write_inRange) (fun c range => ?_) (fun c sound => ?_) h
  · unfold InRange at range
    simp only [settle, Sound]
    split <;> split <;> omega
  · unfold Sound at sound
    unfold InRange
    omega

theorem ReturnConfig.examine_sound {c : ReturnConfig} {r : ReturnConfig × Bool}
    (h : examine ReturnConfig.write ReturnConfig.settle first vs c = some r) : Checks ReturnConfig.Sound c r.1 := by
  refine Machine.examine_sound (Q := InRange) (fun _ _ _ _ => write_inRange) (fun c range => ?_) (fun c sound => ?_) h
  · unfold InRange at range
    unfold settle
    split
    · simp only [Sound]; omega
    · simp only [Sound]; omega
  · unfold Sound at sound
    unfold InRange
    omega

/-- A watch configuration in its ranges, brought into order, is checked where its test and its link suit (R157). -/
theorem WatchConfig.settle_sound {c : WatchConfig} {w : WatchIdx} (range : c.InRange) (test : c.settle.1.testSuits = true)
    (link : c.settle.1.linkSuits w = true) : c.settle.1.Sound w := by
  unfold InRange at range
  refine ⟨test, link, fun outside => ?_, fun level => if_pos level, ?_⟩
  · have outside : c.test = .outside := outside
    simp only [settle, outside, true_and]
    split <;> omega
  · simp only [settle]
    split <;> omega

theorem WatchConfig.examine_sound {c : WatchConfig} {r : WatchConfig × Bool} {w : WatchIdx}
    (h : examine WatchConfig.write WatchConfig.settle first vs c = some r) (test : r.1.testSuits = true) (link : r.1.linkSuits w = true) :
    Checks (·.Sound w) c r.1 := by
  rintro ⟨-, -, -, -, range⟩
  obtain ⟨r', run, rfl⟩ := Option.map_eq_some_iff.1 h
  exact settle_sound (writeRun_keeps (Q := InRange) (fun _ _ _ _ => write_inRange) run range) test link

theorem PlantConfig.examine_sound {c : PlantConfig} {r : PlantConfig × Bool}
    (h : examine PlantConfig.write PlantConfig.settle first vs c = some r) : Checks PlantConfig.Sound c r.1 := by
  refine Machine.examine_sound (Q := InRange) (fun _ _ _ _ => write_inRange) (fun c range => ?_) (fun c sound => ?_) h
  · unfold InRange at range
    unfold settle
    split
    · simp only [Sound]; omega
    · simp only [Sound]; omega
  · unfold Sound at sound
    unfold InRange
    omega

theorem AllocatorConfig.examine_sound {c : AllocatorConfig} {r : AllocatorConfig × Bool}
    (h : examine AllocatorConfig.write (fun c => (c, false)) first vs c = some r) : Checks AllocatorConfig.Sound c r.1 :=
  Machine.examine_sound (Q := Sound) (fun _ _ _ _ => write_sound) (fun _ sound => sound) (fun _ sound => sound) h

end

end Sys2Proof.Machine
end

section
/-! What commands keep: each is a chain of moves and events, so a predicate that every move and event keeps is kept by every frame, every
expiry and every request, and with the resets and the passing of time by every step. -/
namespace Sys2Proof.Machine

/-! ### Facts the guards of events ask for -/

@[simp] theorem Point.take_config (pt : Point) (seq : Byte) (i : ItemValue) : (pt.take seq i).config = pt.config := by
  cases i with
  | sample flags value =>
    simp only [take, takeSample]
    split
    · rfl
    · split
      · unfold takeCalibrating
        split <;> rfl
      · rfl
  | status code =>
    simp only [take, takeStatus]
    split <;> rfl

namespace State

variable {s : State}

/-- The output the guard finds is used (R146). -/
theorem outputFor_some {dst : Addr} {channel : Byte} {o : OutputIdx} (h : s.outputFor dst channel = some o) :
    (s.outputs.get o).config.unused = false := by
  have found := List.find?_some h
  simp at found
  exact found.1.1

@[simp] theorem setOutput_get (o : OutputIdx) (out : Output) : (s.setOutput o out).outputs.get o = out := Table.get_set_self _ o out

theorem restartResend_config (out : Output) : out.restartResend.config = out.config := by
  unfold Output.restartResend
  split <;> rfl

theorem restartResend_last (out : Output) : out.restartResend.last = out.last := by
  unfold Output.restartResend
  split <;> rfl

theorem restartResend_state (out : Output) : out.restartResend.state = out.state := by
  unfold Output.restartResend
  split <;> rfl

theorem noteValue_outputs (o : OutputIdx) (v : Int) (s : State) : (s.noteValue o v).outputs =
    s.outputs.set o (Output.restartResend { s.outputs.get o with last := some v, unsent := false }) := by
  unfold noteValue
  dsimp only
  split <;> rfl

theorem OutputConfig.limit_within {c : OutputConfig} (sound : c.Sound) (v : Int) : c.low ≤ c.limit v ∧ c.limit v ≤ c.high := by
  obtain ⟨-, low, high, -⟩ := sound
  exact clampInt_bounds v (low.trans high)

/-- What a lane with a state has left of the storm's agreement: a control state agrees with it (R72, R73). -/
theorem controlState_isWorking (s : State) : s.controlState.isWorking = true := by
  unfold controlState
  split <;> rfl

theorem controlState_agrees (l : Lane) : Lane.Agrees { l with state := s.controlState, dwell := 0 } s.plant.storm := by
  unfold controlState
  split
  · next storm => exact ⟨fun _ => storm, nofun, nofun, fun _ => rfl⟩
  · next calm => exact ⟨nofun, fun _ => Bool.not_eq_true _ ▸ calm, nofun, fun _ => rfl⟩

theorem economy_agrees (l : Lane) (c : Cycle) (calm : s.plant.storm = false) :
    Lane.Agrees { l with state := .economy c, dwell := 0 } s.plant.storm := ⟨nofun, nofun, fun _ => calm, fun _ => rfl⟩

/-- The pending set put in force changes no lane's regime. -/
theorem applyPending_state (k j : LaneIdx) (s : State) : ((s.applyPending k).lanes.get j).state = (s.lanes.get j).state := by
  unfold applyPending
  dsimp only
  split
  · rfl
  · next p pending =>
    have lanes : ∀ (u : State) (f : Fin 4 → State → Zone), (u.each (indices 4) fun i s => s.setZone (zoneAt k i) (f i s)).lanes = u.lanes :=
      fun u f => SameBut.each (c := [.zones]) _ (fun i v => v.setZone_but _ _) (indices 4) u .lanes (by decide)
    rw [lanes]
    simp only [setLane, withLanes_lanes, Table.get_set]
    split
    · next same => rw [same]
    · rfl

theorem applyPending_plant (k : LaneIdx) (s : State) : (s.applyPending k).plant = s.plant := applyPending_but k s .plant (by decide)

end State

theorem Kept.reply {gaps : List Gap} {P : State → Prop} (K : Kept gaps P) {a : Answered} (h : P a.1) (src : Addr) (code tag : Byte) :
    P (State.reply src code tag a) := by
  unfold State.reply
  split
  · exact K.drain h
  · exact K.drain (K.keep (K.drain h) (.send _ _ rfl))

/-- A change of an output's state moves that field alone of that output (R141). -/
theorem State.changeOutput_outputs (o : OutputIdx) (new : OutputState) (s : State) :
    (s.changeOutput o new).outputs = s.outputs.set o { s.outputs.get o with state := new } := by
  unfold State.changeOutput
  dsimp only
  split
  · next same => rw [← same]; exact (Table.set_get _ o).symm
  · exact State.reportOutput_but o _ .outputs (by decide)

theorem zoneAt_laneOf (z : ZoneIdx) : zoneAt (laneOf z) (placeOf z) = z := Fin.ext (by simp [zoneAt, laneOf, placeOf]; omega)

namespace KeptByEvents

variable {gaps : List Gap} {P : State → Prop} {s : State}

/-! ### Frames -/

theorem heard (E : KeptByEvents gaps P) (h : P s) : P s.heard := E.drain (E.event .heard h)

theorem handOver (E : KeptByEvents gaps P) (h : P s) (c : RouteConfig) (a : Addr) (seq channel : Byte) (i : ItemValue) :
    P (s.handOver c a seq channel i) := by
  unfold State.handOver
  split
  · exact E.arriveAtPoint h _ _ _ (Point.take_config ..)
  · exact E.drain (E.raise h _)

theorem takeItems (E : KeptByEvents gaps P) (h : P s) (c : RouteConfig) (k : Kind) (f : Frame) : P (s.takeItems c k f) := by
  unfold State.takeItems
  dsimp only
  split
  · refine State.each_induction _ (fun i _ s h => ?_) h
    exact E.handOver h ..
  · refine State.each_induction _ (fun i _ s h => ?_) h
    exact E.handOver h ..
  all_goals exact h

theorem supervise (E : KeptByEvents gaps P) (h : P s) {o : OutputIdx} (leased : s.supervision.countdown.isSome = true)
    (untripped : s.servesTripped (s.outputs.get o).config = false) : P (s.changeOutput o .supervised) := by
  unfold State.changeOutput
  dsimp only
  split
  · exact h
  · exact E.reportOutput (E.capture (E.event (.supervised o leased untripped) h) _) o

theorem guardItem (E : KeptByEvents gaps P) (h : P s) (dst src : Addr) (item : CommandItem) : P (s.guardItem dst src item).1 := by
  unfold State.guardItem
  split
  · exact h
  · next o found =>
    have used := State.outputFor_some found
    dsimp only
    split
    · exact E.event (.noted o _ used fun ⟨_, low, high, _⟩ => ⟨low, high⟩) h
    · next untripped =>
      split
      · exact h
      · have noted : P (s.noteValue o ((s.outputs.get o).config.limit item.value)) :=
          E.event (.noted o _ used fun sound => State.OutputConfig.limit_within sound _) h
        split
        · next leased =>
          refine E.supervise noted leased ?_
          have config : ((s.noteValue o ((s.outputs.get o).config.limit item.value)).outputs.get o).config = (s.outputs.get o).config := by
            rw [State.noteValue_outputs, Table.get_set_self, State.restartResend_config]
          have lanes := State.noteValue_but o ((s.outputs.get o).config.limit item.value) s .lanes (by decide)
          rw [config, State.servesTripped, show (s.noteValue o _).lanes = s.lanes from lanes]
          simpa [State.servesTripped] using untripped
        · exact noted

theorem guardItems (E : KeptByEvents gaps P) (h : P s) (dst src : Addr) (items : List CommandItem) :
    P (s.guardItems dst src items).1 := by
  induction items generalizing s with
  | nil => exact h
  | cons item rest ih => exact ih (E.guardItem h dst src item)

theorem route (E : KeptByEvents gaps P) (h : P s) (f : Frame) : P (s.route f).1 := by
  unfold State.route
  split
  · exact h
  · split
    · exact h
    · next k _ i _ =>
      have marked : P (s.markHit i) := E.keep h (.route i _ rfl)
      unfold State.dispose
      split
      · exact marked
      · exact E.takeItems marked _ _ f
      · exact E.takeItems marked _ _ f
      · unfold State.guardFrame
        split
        · exact E.guardItems marked ..
        all_goals exact marked
      · exact marked

theorem forwardReturned (E : KeptByEvents gaps P) (h : P s) (f : Frame) : P (s.forwardReturned f) := by
  unfold State.forwardReturned
  split
  · exact h
  · exact E.drain (E.keep h (.forward _))

theorem routeFrame (E : KeptByEvents gaps P) (h : P s) (f : Frame) : P (s.routeFrame f) := by
  unfold State.routeFrame
  dsimp only
  split
  · exact E.route h f
  · exact E.forwardReturned (E.route h f) _

/-! ### Lanes -/

theorem enterOffline (E : KeptByEvents gaps P) (h : P s) {k : LaneIdx} (working : (s.lanes.get k).state.isWorking = true) :
    P (s.enterOffline k) := E.offlineOutputs (E.event (.offline k working) h) k

theorem leaveOffline (E : KeptByEvents gaps P) (h : P s) {k : LaneIdx} {target : Leaving} (offline : (s.lanes.get k).state.regime = .offline)
    (calm : target = .economy → s.plant.storm = false) : P (s.leaveOffline k target) := by
  have applied := E.event (.applied k) h
  have stays : ((s.applyPending k).lanes.get k).state.regime = .offline := by rw [State.applyPending_state]; exact offline
  cases target with
  | control =>
    exact E.event (.online k _ stays (State.controlState_isWorking _) (State.controlState_agrees _)) applied
  | economy =>
    refine E.event (.online k _ stays rfl (State.economy_agrees _ _ ?_)) applied
    rw [State.applyPending_plant]
    exact calm rfl

theorem enterEconomy (E : KeptByEvents gaps P) (h : P s) {k : LaneIdx} (normal : (s.lanes.get k).state.regime = .normal) (c : Cycle) :
    P (s.changeRegime k (.economy c)) := by
  refine E.changeRegime E.closed h ⟨nofun, fun offline => by simp [normal] at offline⟩ (fun _ => nofun) fun _ old => ?_
  exact State.economy_agrees _ c (old.inNormal normal)

theorem evaluateDwell (E : KeptByEvents gaps P) (h : P s) (k : LaneIdx) (ended : Nat) : P (s.evaluateDwell k ended) := by
  unfold State.evaluateDwell
  dsimp only
  split
  · next normal =>
    have regime : (s.lanes.get k).state.regime = .normal := by rw [normal]; rfl
    have dwells : ∀ d, P (s.setLane k { s.lanes.get k with dwell := d }) := fun d => by
      refine E.keep h (.lane .closed k _ ⟨rfl, rfl, rfl, Iff.rfl⟩ (fun _ => id) fun _ old => ?_)
      exact ⟨old.inStorm, old.inNormal, old.inEconomy, fun other => absurd regime other⟩
    split
    · split
      · exact E.enterEconomy h regime _
      · exact dwells _
    · exact dwells _
  all_goals exact h

theorem lanePeriod (E : KeptByEvents gaps P) (h : P s) {k : LaneIdx} (running : (s.lanes.get k).timer.isSome = true) : P (s.lanePeriod k) := by
  refine E.computeZones (E.evaluateDwell (E.event (.period k ?_) (E.event (.applied k) h)) k _) k _
  have timer : ((s.applyPending k).lanes.get k).timer = (s.lanes.get k).timer := by
    unfold State.applyPending
    dsimp only
    split
    · rfl
    · have lanes : ∀ (u : State) (f : Fin 4 → State → Zone), (u.each (indices 4) fun i s => s.setZone (zoneAt k i) (f i s)).lanes = u.lanes :=
        fun u f => State.SameBut.each (c := [.zones]) _ (fun i v => v.setZone_but _ _) (indices 4) u .lanes (by decide)
      rw [lanes]
      simp [State.setLane]
  rw [timer]
  exact running

theorem phaseExpires (E : KeptByEvents gaps P) (h : P s) (k : LaneIdx) : P (s.phaseExpires k) := by
  unfold State.phaseExpires
  split
  · next c economy =>
    unfold State.advancePhase
    extract_lets next old u
    have regime : (s.lanes.get k).state.regime = .economy := by rw [economy]; rfl
    have turned : P u := by
      refine E.keep h (.lane .closed k { s.lanes.get k with state := .economy next } ⟨rfl, rfl, rfl, ?_⟩ (fun _ => nofun) fun _ old => ?_)
      · rw [regime]; exact ⟨nofun, nofun⟩
      · exact ⟨nofun, nofun, fun _ => old.inEconomy regime, fun _ => old.dwell (by rw [regime]; decide)⟩
    split
    · exact turned
    · exact E.phaseChange turned k _
  all_goals exact h

theorem restoreFrom (E : KeptByEvents gaps P) (h : P s) {k : LaneIdx} {cause : WatchIdx} (tripped : (s.lanes.get k).state = .tripped cause) :
    P (s.restoreFrom k cause) := by
  refine E.restoreZones (E.changeRegime E.closed (E.capture h _) ?_ (fun _ => ?_) fun _ _ => State.controlState_agrees _) k
  · have online : (s.lanes.get k).state.regime ≠ .offline := by rw [tripped]; nofun
    refine ⟨fun offline => ?_, fun offline => absurd offline online⟩
    unfold State.controlState at offline
    split at offline <;> cases offline
  · intro trips
    unfold State.controlState at trips
    split at trips <;> cases trips

/-! ### Expiries -/

theorem endWarmUp (E : KeptByEvents gaps P) (h : P s) {b : BlowerIdx} (moving : (s.blowers.get b).state.inTransition = true) (timeout : Nat) :
    P (s.endWarmUp b timeout) := by
  unfold State.endWarmUp
  split
  · exact E.changeBlower h .entersRunning
  · exact E.failStart h b
  · exact E.changeBlower h .handControl
  all_goals exact E.keep h (.blower b _ ⟨fun _ => .inl moving, by simp⟩)

theorem warmUpExpires (E : KeptByEvents gaps P) (h : P s) (b : BlowerIdx) : P (s.warmUpExpires b) := by
  unfold State.warmUpExpires
  split
  · next starting => exact E.endWarmUp h (by rw [starting]; rfl) _
  all_goals exact h

theorem rundownExpires (E : KeptByEvents gaps P) (h : P s) (b : BlowerIdx) : P (s.rundownExpires b) :=
  E.changeBlower (E.offerTo h _ 0) .stopped

theorem agePoint (E : KeptByEvents gaps P) (h : P s) (p : PointIdx) : P (s.agePoint p) := by
  unfold State.agePoint
  dsimp only
  split
  · refine E.updateEvent (E.keep h (.point p _ ?_)) p
    rfl
  · refine E.updateEvent (E.keep h (.point p _ ?_)) p
    rfl
  all_goals exact E.keep h (.point p _ rfl)

theorem trimPump (E : KeptByEvents gaps P) (h : P s) (r : LineIdx) : P (s.trimPump r) := by
  unfold State.trimPump
  dsimp only
  split
  · exact h
  · exact E.offer h ..

theorem stopPump (E : KeptByEvents gaps P) (h : P s) (r : LineIdx) : P (s.stopPump r) := by
  unfold State.stopPump
  split
  · exact h
  · exact E.offer h ..

end KeptByEvents

/-- The target a pacing chooses lies within the line's bounds (R126, R129 to R134). -/
theorem State.choosePacing_sound (s : State) (r : LineIdx) (timer : Option Nat) (checked : (s.returns.get r).config.Sound)
    (sound : (s.returns.get r).Sound) :
    ReturnLine.Sound { s.returns.get r with state := (s.choosePacing r).1, target := (s.choosePacing r).2, timer := timer } := by
  obtain ⟨order, -⟩ := checked
  have limited : ∀ t, (s.returns.get r).config.minFlow ≤ (s.returns.get r).config.limit t ∧
      (s.returns.get r).config.limit t ≤ (s.returns.get r).config.maxFlow := fun t => clampNat_bounds t order
  unfold choosePacing
  dsimp only
  split
  · exact limited _
  · split
    · exact rfl
    · split
      · refine ⟨rfl, ?_⟩
        unfold ReturnLine.stormTarget
        unfold ReturnLine.Sound at sound
        split
        · next h state =>
          rw [state] at sound
          exact sound.2
        all_goals exact limited _
      · split
        · exact limited _
        · exact limited _

namespace KeptByEvents

variable {gaps : List Gap} {P : State → Prop} {s : State}

theorem pace (E : KeptByEvents gaps P) (h : P s) (r : LineIdx) : P (s.pace r) := by
  unfold State.pace
  dsimp only
  have chosen := E.event (.paced r
    { s.returns.get r with
      state := (s.choosePacing r).1, target := (s.choosePacing r).2, timer := some (tenths (s.returns.get r).config.period) }
    rfl rfl (s.choosePacing_sound r _)) h
  split
  · exact chosen
  · exact E.stopPump chosen r
  all_goals exact E.trimPump chosen r

/-- A release of every output leaves every output AUTO. -/
theorem releaseAll_auto (s : State) (o : OutputIdx) :
    ((s.each (indices 64) fun o s => s.changeOutput o .auto).outputs.get o).state = .auto := by
  have all : ∀ (l : List OutputIdx) (u : State), o ∈ l ∨ (u.outputs.get o).state = .auto →
      ((u.each l fun o s => s.changeOutput o .auto).outputs.get o).state = .auto := by
    intro l
    induction l with
    | nil => exact fun u h => h.resolve_left (List.not_mem_nil)
    | cons p l ih =>
      refine fun u h => ih _ ?_
      rw [State.changeOutput_outputs, Table.get_set]
      split
      · exact .inr rfl
      · next other =>
        refine h.imp_left fun mem => (List.mem_cons.1 mem).resolve_left fun same => other same.symm
  exact all _ s (.inl (mem_indices o))

theorem countdownExpires (E : KeptByEvents gaps P) (h : P s) : P s.countdownExpires := by
  refine E.event (.unleased (releaseAll_auto s)) (State.each_induction _ (fun o _ s h => ?_) h)
  exact E.releaseOutput h o

theorem holdExpires (E : KeptByEvents gaps P) (h : P s) {w : WatchIdx} (running : (s.watches.get w).state.hold?.isSome = true) :
    P (s.holdExpires w) := by
  refine E.event (.rearmed w _ ?_ rfl (.inl le_rfl)) h
  cases state : (s.watches.get w).state <;> simp [state, WatchState.hold?, WatchState.isFired] at running ⊢

theorem exitHoldExpires (E : KeptByEvents gaps P) (h : P s) : P s.exitHoldExpires :=
  E.stormChanges (E.keep h (.plant .closed { s.plant with exitHold := none } rfl fun _ => ⟨rfl, nofun⟩)) false fun _ => rfl

theorem expire (E : KeptByEvents gaps P) (h : P s) (running : Bool) {f : State → State}
    (keeps : s.power = .running → running = true → P (f s)) :
    P (s.expire running f) := by
  unfold State.expire
  split
  · next power =>
    split
    · next runs => exact E.drain (keeps power runs)
    · exact h
  all_goals exact h

/-! ### The store -/

theorem completeCommit (E : KeptByEvents gaps P) (h : P s) (success : Bool) : P (s.completeCommit success) := by
  unfold State.completeCommit
  split
  · exact h
  · next c flight =>
    have cleared : ∀ u : State, P u → P (u.withManagement { u.management with commit := none }) := fun u hu =>
      E.event (.managed _ nofun fun i image held => .inl held) hu
    split
    · unfold State.commitSucceeds
      extract_lets g _ written
      have kept : P written := by
        refine E.event (.managed _ (fun c held => .inl held) fun i image held => ?_) h
        rw [Table.get_set] at held
        split at held
        · cases held; exact .inr ⟨c, flight, rfl⟩
        · exact .inl held
      exact cleared _ (E.keep kept (.send _ _ rfl))
    · unfold State.commitFails
      extract_lets _ failed captured sent
      have kept : P failed := by
        refine E.event (.managed _ (fun c held => .inl held) fun i image held => ?_) h
        rw [Table.get_set] at held
        split at held
        · cases held
        · exact .inl held
      exact E.raise (cleared _ (E.keep (E.capture kept _) (.send _ _ rfl))) _

theorem commitStore (E : KeptByEvents gaps P) (h : P s) (running : s.power = .running) (src : Addr) (tag : Byte) :
    P (s.commitStore src tag).1 := by
  unfold State.commitStore
  split
  · exact h
  · refine E.event (.managed _ (fun c held => .inr ⟨running, ?_⟩) fun i image held => .inl held) h
    cases held
    rfl

/-! ### Table writes -/

theorem atIndex (h : P s) {n : Nat} {i : Byte} {f : Fin n → Outcome} (at_ : ∀ k, P (f k).1) : P (s.atIndex n i f).1 := by
  unfold State.atIndex
  split
  · exact at_ _
  · exact h

theorem accept (h : P s) {α : Type} {w : Written α} {apply : α → State} (applied : ∀ r, w = some r → P (apply r.1)) :
    P (s.accept w apply).1 := by
  unfold State.accept
  split
  · exact h
  · exact applied _ rfl

theorem suiting_some {α : Type} {w : Written α} {ok : α → Bool} {r : α × Bool} (h : w.suiting ok = some r) : w = some r ∧ ok r.1 = true := by
  obtain ⟨r', written, suits⟩ := Option.bind_eq_some_iff.1 h
  split at suits
  · next good => cases suits; exact ⟨written, good⟩
  · cases suits

theorem writePoint (E : KeptByEvents gaps P) (h : P s) (p : PointIdx) (c : PointConfig)
    (sound : Checks PointConfig.Sound (s.points.get p).config c) : P (s.writePoint p c) := by
  unfold State.writePoint
  dsimp only
  split
  · exact E.event (.pointWritten p c sound) h
  · exact E.updateEvent (E.event (.pointWritten p c sound) h) p

theorem writeBlower (E : KeptByEvents gaps P) (h : P s) (b : BlowerIdx) (c : BlowerConfig)
    (sound : Checks BlowerConfig.Sound (s.blowers.get b).config c) (suits : s.rankSuits b c = true) : P (s.writeBlower b c) := by
  unfold State.writeBlower
  dsimp only
  split
  · exact E.changeBlower (E.event (.blowerWritten b c sound suits) h) .stopped
  · exact E.event (.blowerWritten b c sound suits) h

/-- A pending set as it stands is checked wherever the settings are. -/
theorem staged_sound (sound : s.SettingsSound) (k : LaneIdx) : (s.staged k).Sound k s.settings.outputs := by
  unfold State.staged
  split
  · next p pending => exact sound.staged k p pending
  · have lane := sound.inForce.lanes k
    refine ⟨by simpa [State.settings] using lane, fun i => ?_⟩
    have zone := sound.inForce.zones (zoneAt k i)
    have valve := sound.inForce.valves (zoneAt k i)
    simp only [State.settings, Table.get_map, Table.get_build] at zone valve ⊢
    exact ⟨zone, valve⟩

/-- A written zone names an output of its own where it did before, or one its table accepts. -/
theorem examine_namesOwnValve {outputs : Table 64 OutputConfig} {z : ZoneIdx} {accepts : OutputIdx → Bool}
    (accepted : ∀ o, accepts o = true → (outputs.get o).kind = .zoneValve ∧ (outputs.get o).owner = z) {c : ZoneConfig} {first : Byte}
    {vs : List Int} {r : ZoneConfig × Bool} (h : examine (ZoneConfig.write accepts) ZoneConfig.settle first vs c = some r)
    (names : c.NamesOwnValve z outputs) : r.1.NamesOwnValve z outputs := by
  refine Machine.examine_sound (Q := fun c => c.NamesOwnValve z outputs) (Sound := fun c => c.NamesOwnValve z outputs) (fun c id v r h names => ?_)
    (fun c names => ?_) (fun c names => names) h names
  · unfold ZoneConfig.write at h
    split at h
    iterate 2 exact link_put (Q := fun c => c.NamesOwnValve z outputs) h fun _ => names
    · obtain ⟨r', written, kept⟩ := Option.bind_eq_some_iff.1 h
      split at kept
      · next good =>
        cases kept
        intro o named
        refine accepted o ?_
        simpa [named] using good
      · cases kept
    iterate 10 exact numeric_put (Q := fun c => c.NamesOwnValve z outputs) h (by decide) fun _ _ _ => names
    · exact yesNo_put (Q := fun c => c.NamesOwnValve z outputs) h fun _ => names
    iterate 2 exact numeric_put (Q := fun c => c.NamesOwnValve z outputs) h (by decide) fun _ _ _ => names
    · cases h
  · unfold ZoneConfig.settle
    split <;> exact names

theorem writeTable (E : KeptByEvents gaps P) (h : P s) (t : TableName) (index first : Byte) (vs : List Int) :
    P (s.writeTable t index first vs).1 := by
  cases t with
  | route =>
    refine atIndex h fun i => ?_
    dsimp only
    split
    · exact h
    · exact accept h fun r written => E.event (.routeWritten i _ (RouteConfig.examine_sound written)) h
  | point => exact atIndex h fun i => accept h fun r written => E.writePoint h i _ (PointConfig.examine_sound written)
  | output =>
    refine atIndex h fun i => accept h fun r written => ?_
    obtain ⟨written, suits⟩ := suiting_some written
    exact E.event (.outputWritten i _ (OutputConfig.examine_sound written) suits) h
  | lane =>
    refine atIndex h fun k => accept h fun r written => E.event (.staged k _ fun sound => ?_) h
    obtain ⟨lane, zones⟩ := staged_sound sound k
    exact ⟨LaneConfig.examine_sound written lane, zones⟩
  | zone =>
    refine atIndex h fun z => accept h fun r written => E.event (.staged (laneOf z) _ fun sound => ?_) h
    obtain ⟨lane, zones⟩ := staged_sound sound (laneOf z)
    refine ⟨lane, fun i => ?_⟩
    obtain ⟨checked, names⟩ := zones (placeOf z)
    rw [zoneAt_laneOf] at names
    dsimp only
    rw [Table.get_set]
    split
    · next same =>
      subst same
      rw [zoneAt_laneOf]
      refine ⟨ZoneConfig.examine_sound written checked, examine_namesOwnValve (fun o accepted => ?_) written names⟩
      simpa [OutputConfig.servesZone, State.settings] using accepted
    · exact zones i
  | blower =>
    refine atIndex h fun b => accept h fun r written => ?_
    obtain ⟨written, suits⟩ := suiting_some written
    exact E.writeBlower h b _ (BlowerConfig.examine_sound written) suits
  | returnLine => exact atIndex h fun i => accept h fun r written => E.event (.returnWritten i _ (ReturnConfig.examine_sound written)) h
  | watch =>
    refine atIndex h fun w => ?_
    dsimp only
    split
    · exact h
    · next unfired =>
      refine accept h fun r written => ?_
      obtain ⟨written, suits⟩ := suiting_some written
      obtain ⟨test, link⟩ := Bool.and_eq_true_iff.1 suits
      exact E.event (.watchWritten w _ (WatchConfig.examine_sound written test link) (by simpa using unfired)) h
  | plant => exact atIndex h fun _ => accept h fun r written => E.event (.plantWritten _ (PlantConfig.examine_sound written)) h
  | allocator => exact atIndex h fun _ => accept h fun r written => E.event (.allocatorWritten _ (AllocatorConfig.examine_sound written)) h

theorem writeFields (E : KeptByEvents gaps P) (h : P s) (table index first : Byte) (count : Nat) (vs : List Int) :
    P (s.writeFields table index first count vs).1 := by
  unfold State.writeFields
  split
  · exact h
  · split
    · exact E.writeTable h ..
    · exact h

/-! ### Requests -/

theorem readFields (E : KeptByEvents gaps P) (h : P s) (table index first count : Byte) : P (s.readFields table index first count).1 := by
  unfold State.readFields
  split
  · exact h
  · split
    · split
      · exact h
      · split
        · exact h
        · unfold State.afterRead
          split
          · split
            · exact E.keep h (.route _ _ rfl)
            · exact h
          · exact h
    · exact h

theorem performRestart (E : KeptByEvents gaps P) (h : P s) : P s.performRestart.1 := by
  unfold State.performRestart
  split
  · exact h
  · exact E.capture (E.event .restarted h) _

theorem release (E : KeptByEvents gaps P) (h : P s) (p : PointIdx) : P (s.release p) := by
  unfold State.release
  dsimp only
  split
  · refine E.updateEvent (E.keep h (.point p _ ?_)) p
    rfl
  · exact h

theorem decideRegime (E : KeptByEvents gaps P) (h : P s) (k : LaneIdx) (n : Named) : P (s.decideRegime k n).1 := by
  have offline (working : (s.lanes.get k).state.isWorking = true) : P (s.enterOffline k) := E.enterOffline h working
  have woken (economy : (s.lanes.get k).state.isEconomy = true) : P (s.wakeLane k) := E.wakeLane h economy
  have online (target : Leaving) (offline : (s.lanes.get k).state.regime = .offline) (calm : target = .economy → s.plant.storm = false) :
      P (s.leaveOffline k target) := E.leaveOffline h offline calm
  have economy (normal : (s.lanes.get k).state.regime = .normal) (c : Cycle) : P (s.changeRegime k (.economy c)) := E.enterEconomy h normal c
  unfold State.decideRegime
  split
  · exact h
  · exact h
  · next state => exact online .control (by rw [state]; rfl) (fun economy => by cases economy)
  · next state =>
    split
    · exact h
    · next calm => exact online .economy (by rw [state]; rfl) fun _ => by simpa using calm
  · next state => exact offline (by rw [state]; rfl)
  · exact h
  · next state =>
    split
    · exact h
    · exact economy (by rw [state]; rfl) _
  · next state => exact offline (by rw [state]; rfl)
  · next state =>
    dsimp only
    exact woken (by rw [state]; rfl)
  · exact h
  · next state => exact offline (by rw [state]; rfl)
  · exact h
  · exact h

theorem setRegime (E : KeptByEvents gaps P) (h : P s) (lane regime : Byte) : P (s.setRegime lane regime).1 := by
  refine atIndex h fun k => ?_
  split
  · exact h
  · exact E.decideRegime h k _

theorem restoreLane (E : KeptByEvents gaps P) (h : P s) (lane : Byte) : P (s.restoreLane lane).1 := by
  refine atIndex h fun k => ?_
  split
  · next tripped =>
    split
    · exact h
    · exact E.restoreFrom h tripped
  all_goals exact h

theorem acknowledge (E : KeptByEvents gaps P) (h : P s) (watch : Byte) : P (s.acknowledge watch).1 := by
  refine atIndex h fun w => ?_
  unfold State.acknowledgeWatch
  dsimp only
  split
  · next fired => exact E.event (.rearmed w _ fired rfl (.inr le_rfl)) h
  · exact E.keep h (.counted w _ rfl rfl (.inl le_rfl))

theorem force (E : KeptByEvents gaps P) (h : P s) (p : PointIdx) (v : Int) : P (s.force p v) := by
  unfold State.force
  dsimp only
  refine E.updateEvent (E.keep h (.point p _ ?_)) p
  rfl

theorem perform (E : KeptByEvents gaps P) (h : P s) (running : s.power = .running) (src : Addr) (tag : Byte) (r : Request) :
    P (s.perform src tag r).1 := by
  cases r with
  | readFields t i f c => exact E.readFields h t i f c
  | writeFields t i f n vs => exact E.writeFields h t i f n _
  | readStatus => exact h
  | commitStore => exact E.commitStore h running src tag
  | restart => exact E.performRestart h
  | lockRoute e => exact atIndex h fun i => E.keep h (.route i _ rfl)
  | forcePoint p v => exact atIndex h fun p => E.force h p _
  | releasePoint p => exact atIndex h fun p => E.release h p
  | setRegime l g => exact E.setRegime h l g
  | restoreLane l => exact E.restoreLane h l
  | acknowledge w => exact E.acknowledge h w
  | releaseOutput o => exact atIndex h fun o => E.releaseOutput h o
  | refresh v => exact E.event (.leased _) h
  | readHistory n => exact E.event (.historyRead _) h
  | resumeCapture => exact E.keep h (.frozen false)

theorem agent (E : KeptByEvents gaps P) (h : P s) (running : s.power = .running) (src : Addr) (code tag : Byte) (r : Option Request) :
    P (s.agent src code tag r) := by
  refine E.reply ?_ src code tag
  unfold State.check
  split
  · exact h
  · split
    · exact h
    · exact E.perform h running src tag _

/-- Power is no part of any move or event, so a predicate may be joined by a running part. -/
theorem running : KeptByEvents [] (fun s => s.power = .running) where
  closed := nofun
  move _ m h := (m.but .power (by cases m <;> decide)).trans h
  tripLane := nofun
  fire := nofun
  changeStorm := nofun
  event e h := (e.but .power (by cases e <;> decide)).trans h

theorem requestArrives (E : KeptByEvents gaps P) (h : P s) (src : Addr) (code tag : Byte) (r : Option Request) :
    P (s.requestArrives src code tag r) := by
  unfold State.requestArrives
  split
  · next power =>
    dsimp only
    split
    · exact E.heard h
    · exact E.agent (E.heard h) (running.heard power) src code tag r
  all_goals exact h

theorem takeComplete (E : KeptByEvents gaps P) (h : P s) (power : s.power = .running) (bytes : List Byte) : P (s.takeComplete bytes) := by
  unfold State.takeComplete
  split
  · exact h
  · split
    · unfold State.takeValid
      dsimp only
      split
      · exact E.heard h
      · split
        · unfold State.takeAddressed
          split
          · exact E.agent (E.heard h) (running.heard power) ..
          · exact E.heard h
        · exact E.routeFrame (E.heard h) _
    · exact h

end KeptByEvents

namespace KeptByCommands

variable {gaps : List Gap} {P : State → Prop} {s : State}

theorem feed (A : KeptByCommands gaps P) (h : P s) (running : s.power = .running) (bytes : List Byte) :
    P (s.feed bytes) ∧ (s.feed bytes).power = .running := by
  induction bytes generalizing s with
  | nil => exact ⟨h, running⟩
  | cons b rest ih =>
    unfold State.feed
    split
    · exact ih (A.received s _ running h) running
    · have emptied : (s.withReceived []).power = .running := running
      exact ih (A.takeComplete (A.received s [] running h) emptied _) (KeptByEvents.running.takeComplete emptied emptied _)

theorem abandon (A : KeptByCommands gaps P) (h : P s) : P (s.withManagement s.management.abandon) := by
  refine A.event (.managed _ (fun c held => ?_) fun i image held => ?_) h
  · unfold Management.abandon at held
    split at held
    · exact .inl held
    · cases held
  · unfold Management.abandon at held
    split at held
    · exact .inl held
    · dsimp only at held
      rw [Table.get_set] at held
      split at held
      · cases held
      · exact .inl held

/-- The image start-up chooses is one of the store's valid images (R190). -/
theorem chooseImage_valid {m : Management} {i : Fin 2} {image : Image} (h : m.chooseImage = some (i, image)) : m.images.get i = some image := by
  unfold Management.chooseImage at h
  split at h
  · next a b first second =>
    split at h
    · cases h; exact second
    · cases h; exact first
  · next first _ => cases h; exact first
  · next _ second => cases h; exact second
  · cases h

theorem abandon_commit (m : Management) : m.abandon.commit = none := by
  unfold Management.abandon
  split
  · assumption
  · rfl

theorem startUp (A : KeptByCommands gaps P) (h : P s) (straps : BitVec 8) : P (s.startUp straps) := by
  unfold State.startUp
  dsimp only
  split
  · next i image chosen => exact A.startFrom _ i image straps (abandon_commit _) (chooseImage_valid chosen) (A.abandon h)
  · exact A.drain (A.raise (A.capture (A.startDefault _ straps (abandon_commit _) (A.abandon h)) _) _)

theorem endBypass (A : KeptByCommands gaps P) (h : P s) : P s.endBypass := by
  unfold State.endBypass
  split
  · next bypass =>
    split
    · next clear => exact A.bypassEnd s bypass clear h
    · exact h
  all_goals exact h

theorem receive (A : KeptByCommands gaps P) (h : P s) (bytes : List Byte) : P (s.receive bytes) := by
  unfold State.receive
  split
  · next running => exact (A.feed h running bytes).1
  · next power => exact A.carried s _ _ (by rw [power]; decide) h
  · next power => exact A.carried s _ _ (by rw [power]; decide) h

theorem receiveBroken (A : KeptByCommands gaps P) (h : P s) (bytes : List Byte) : P (s.receiveBroken bytes) := by
  unfold State.receiveBroken
  split
  · next running =>
    obtain ⟨fed, still⟩ := A.feed h running bytes
    exact A.received _ [] still fed
  · next power => exact A.carried s _ _ (by rw [power]; decide) h
  · next power => exact A.carried s _ _ (by rw [power]; decide) h

/-- What moves, events, bytes and resets keep every command keeps. -/
theorem exec (A : KeptByCommands gaps P) (h : P s) (c : Instr) {t : State} (next : Machine.exec c s = .next t) : P t := by
  have request : ∀ src code tag r, P (s.requestArrives src code tag r) := A.requestArrives h
  cases c <;> obtain rfl := Host.Outcome.next.inj next
  case resetAssert => exact A.resetAssert s h
  case startUp straps => exact A.startUp h straps
  case bypassEnd => exact A.endBypass h
  case frameArrival bytes => exact A.receive h bytes
  case ringInIdleInFrame bytes => exact A.receiveBroken h bytes
  case frameSent => exact A.event .frameSent h
  case ringSilenceExpiry => exact A.expire h _ fun power _ => A.event (.silence power) h
  case ageExpiry p => exact A.expire h _ fun _ _ => A.agePoint h p
  case exitHoldExpiry => exact A.expire h _ fun _ _ => A.exitHoldExpires h
  case lanePeriodExpiry k => exact A.expire h _ fun _ => A.lanePeriod h
  case phaseExpiry k => exact A.expire h _ fun _ _ => A.phaseExpires h k
  case allocationExpiry => exact A.expire h _ fun _ _ => A.allocate h
  case warmUpExpiry b => exact A.expire h _ fun _ _ => A.warmUpExpires h b
  case startTimeoutExpiry b => exact A.expire h _ fun _ _ => A.failStart h b
  case rundownExpiry b => exact A.expire h _ fun _ _ => A.rundownExpires h b
  case pacingExpiry r => exact A.expire h _ fun _ _ => A.pace h r
  case resendExpiry o => exact A.expire h _ fun _ running => A.event (.resent o running) h
  case countdownExpiry => exact A.expire h _ fun _ _ => A.countdownExpires h
  case holdExpiry w => exact A.expire h _ fun _ => A.holdExpires h
  case commitCompletion ok => exact A.drain (A.completeCommit h ok)
  all_goals exact request _ _ _ _

end KeptByCommands

/-- What moves, events, bytes, resets and time keep every step keeps. -/
theorem KeptByAll.step {gaps : List Gap} {P : State → Prop} {s : State} (A : KeptByAll gaps P) (h : P s) {t : State} (next : Machine.step s = .next t) : P t := by
  unfold Machine.step at next
  split at next
  · exact A.exec (A.pending s _ h) _ next
  · unfold idle at next
    dsimp only at next
    split at next
    · exact A.exec (A.choose h _) _ next
    · cases next
      exact A.tick s h

end Sys2Proof.Machine
end

section
/-! The ring interface and the history stay within their bounds (R10, R11, R13, R175). -/
namespace Sys2Proof.Machine

/-! ### Predicates about some parts of the state -/

/-- A predicate speaks of some parts alone. -/
def DependsOn (parts : List Part) (P : State → Prop) : Prop := ∀ s t : State, (∀ p ∈ parts, p.same s t) → P s → P t

/-- What a footprint leaves alone, a predicate about it keeps. -/
theorem DependsOn.of_but {parts c : List Part} {P : State → Prop} (D : DependsOn parts P) {s t : State} (but : s.SameBut c t)
    (apart : ∀ p ∈ parts, p ∉ c) (h : P s) : P t := D s t (fun p hp => but p (apart p hp)) h

/-! ### A tick -/

theorem State.tick_but (s : State) : s.SameBut
    [.timeCount, .silence, .points, .plant, .lanes, .allocator, .blowers, .returns, .outputs, .supervision, .watches] s.tick := by
  intro p h
  unfold tick
  split
  · exact SameBut.refl [] s p (by simp)
  · cases p <;> first | exact absurd (by decide) h | rfl | exact ⟨rfl, rfl⟩ | exact ⟨rfl, rfl, rfl, rfl, rfl⟩
  · cases p <;> first | exact absurd (by decide) h | rfl | exact ⟨rfl, rfl⟩ | exact ⟨rfl, rfl, rfl, rfl, rfl⟩

/-! ### The history -/

/-- Entries with consecutive capture numbers, the newest just below a number (R175). -/
def NumberedBelow (l : List Entry) (next : BitVec 16) : Prop :=
  ∀ i (h : i < l.length), (l[i]).number = next - BitVec.ofNat 16 (l.length - i)

namespace NumberedBelow

variable {l : List Entry} {next : BitVec 16}

theorem drop (h : NumberedBelow l next) (n : Nat) : NumberedBelow (l.drop n) next := by
  intro i inside
  have within : n + i < l.length := by rw [List.length_drop] at inside; omega
  rw [List.getElem_drop, h (n + i) within, List.length_drop]
  congr 2
  omega

theorem snoc (h : NumberedBelow l next) {e : Entry} (number : e.number = next) : NumberedBelow (l ++ [e]) (next + 1) := by
  intro i inside
  rw [List.length_append, List.length_singleton] at inside ⊢
  by_cases old : i < l.length
  · rw [List.getElem_append_left old, h i old, show l.length + 1 - i = (l.length - i) + 1 by omega, BitVec.ofNat_add,
      show BitVec.ofNat 16 1 = 1 from rfl]
    ring
  · have last : i = l.length := by omega
    subst last
    simp only [List.getElem_concat_length, number, Nat.add_sub_cancel_left, show BitVec.ofNat 16 1 = 1 from rfl]
    ring

end NumberedBelow

theorem State.historySound_iff (s : State) : s.HistorySound ↔ s.history.entries.length ≤ 64 ∧ NumberedBelow s.history.entries s.history.next :=
  ⟨fun ⟨a, b⟩ => ⟨a, b⟩, fun ⟨a, b⟩ => ⟨a, b⟩⟩

theorem historySound_depends : DependsOn [.history] State.HistorySound := by
  intro s t same
  have history : t.history = s.history := same .history (by simp)
  simp only [State.historySound_iff, history]
  exact id

namespace State.HistorySound

variable {s : State}

/-- A history with room, or less its oldest entry, takes one more (R175). -/
theorem capture (h : s.HistorySound) (e : HistoryEvent) : (s.capture e).HistorySound := by
  rw [historySound_iff] at h ⊢
  obtain ⟨bounded, numbered⟩ := h
  unfold State.capture History.capture
  split
  · exact ⟨bounded, numbered⟩
  · dsimp only
    rw [withHistory_history]
    split
    · exact ⟨by simp; omega, numbered.snoc rfl⟩
    · refine ⟨by simp; omega, ?_⟩
      rw [← List.drop_one]
      exact (numbered.drop 1).snoc rfl

theorem drop (h : s.HistorySound) (n : Nat) :
    (s.withHistory { s.history with entries := s.history.entries.drop n }).HistorySound := by
  rw [historySound_iff] at h ⊢
  obtain ⟨bounded, numbered⟩ := h
  exact ⟨by simp; omega, numbered.drop n⟩

theorem of_but {t : State} {c : List Part} (h : s.HistorySound) (but : s.SameBut c t) (apart : Part.history ∉ c) : t.HistorySound :=
  historySound_depends.of_but but (by simpa using apart) h

theorem setLevel (h : s.HistorySound) (l : Level) (b : Bool) : (s.setLevel l b).HistorySound := by
  unfold State.setLevel
  split
  · exact h
  · have written : (s.writeLevel l b).HistorySound := by
      cases l <;> exact ⟨h.bounded, h.consecutive⟩
    exact (written.capture _).of_but (raise_but _ _) (by decide)

theorem changeRegime (h : s.HistorySound) (k : LaneIdx) (new : LaneState) : (s.changeRegime k new).HistorySound := by
  unfold State.changeRegime
  dsimp only
  split
  · exact ((h.of_but (endCycle_but k s) (by decide)).of_but (setLane_but _ k _) (by decide)).capture _
  · exact (h.of_but (setLane_but s k _) (by decide)).capture _

theorem decideMode (h : s.HistorySound) (z : ZoneIdx) : (s.decideMode z).HistorySound := by
  unfold State.decideMode
  dsimp only
  split
  · exact h
  · exact (h.of_but (setZone_but s z _) (by decide)).capture _

theorem changeOutput (h : s.HistorySound) (o : OutputIdx) (new : OutputState) : (s.changeOutput o new).HistorySound := by
  unfold State.changeOutput
  dsimp only
  split
  · exact h
  · refine each_induction _ (fun z _ u hu => ?_) ((h.of_but (setOutput_but s o _) (by decide)).capture _)
    split
    · exact hu.decideMode z
    · exact hu

theorem writeOutput (h : s.HistorySound) (o : OutputIdx) (c : OutputConfig) : (s.writeOutput o c).HistorySound := by
  unfold State.writeOutput
  extract_lets old _ s1 s2 s3 s4
  have h1 : s1.HistorySound := h.of_but (s.setOutput_but o _) (by decide)
  have h2 : s2.HistorySound := by
    simp only [s2]
    split
    · unfold reassignOutput
      extract_lets _ cleared
      have emptied : cleared.HistorySound := h1.of_but (s1.setOutput_but o _) (by decide)
      have detached : (cleared.withRing (cleared.ring.detach o)).HistorySound :=
        emptied.of_but (cleared.withTraffic_but _ _ _ _ _) (by decide)
      exact detached.changeOutput o .auto
    · exact h1
  have h3 : s3.HistorySound := by
    simp only [s3]
    split
    · exact h2.changeOutput o .auto
    · exact h2
  have h4 : s4.HistorySound := by
    simp only [s4]
    split
    · exact h3.of_but (s3.reclampOutput_but o) (by decide)
    · exact h3
  split
  · exact h4.of_but (s4.setOutput_but o _) (by decide)
  · exact h4

end State.HistorySound

theorem historySound_kept : KeptByAll [] State.HistorySound where
  closed := nofun
  move _ m h := by
    have but := m.but
    cases m with
    | capture e => exact h.capture e
    | frozen b => exact ⟨h.bounded, h.consecutive⟩
    | _ => exact h.of_but but (by decide)
  tripLane := nofun
  fire := nofun
  changeStorm := nofun
  event e h := by
    have but := e.but
    cases e with
    | heard => exact (h.of_but (State.withSilence_but _ _ _) (by decide)).setLevel _ _
    | silence _ => exact (h.of_but (State.withSilence_but _ _ _) (by decide)).setLevel _ _
    | leased t => exact (h.of_but (State.withSupervision_but _ _) (by decide)).setLevel _ _
    | unleased _ => exact (h.of_but (State.withSupervision_but _ _) (by decide)).setLevel _ _
    | offline k _ =>
      exact ((h.changeRegime k .offline).of_but (State.setLane_but _ k _) (by decide)).of_but (State.offlineZones_but k _) (by decide)
    | online k new _ _ _ =>
      exact ((h.changeRegime k new).of_but (State.eachWorking_but k _ _) (by decide)).of_but (State.startPeriod_but k _) (by decide)
    | historyRead n => exact h.drop n
    | outputWritten o c _ _ => exact h.writeOutput o c
    | _ => exact h.of_but but (by decide)
  received s _ _ h := ⟨h.bounded, h.consecutive⟩
  carried s _ _ _ h := ⟨h.bounded, h.consecutive⟩
  resetAssert s h := ⟨h.bounded, h.consecutive⟩
  startFrom s _ _ _ _ _ h := ⟨Nat.zero_le _, nofun⟩
  startDefault s _ _ h := ⟨Nat.zero_le _, nofun⟩
  bypassEnd s _ _ h := ⟨h.bounded, h.consecutive⟩
  tick s h := h.of_but s.tick_but (by decide)
  pending s _ h := ⟨h.bounded, h.consecutive⟩

/-! ### The ring interface -/

/-- Buffer, queue and run count within their bounds, and no two queued COMMANDs of one output (R10, R11, R13). -/
structure Ring.Bounded (r : Ring) : Prop where
  forward : r.forward.length ≤ 4
  transmit : r.transmit.length ≤ 16
  runCount : r.runCount ≤ 4
  owners : (r.transmit.filterMap (·.body.owner)).Nodup

/-- Within bounds, and nothing waits at an IDLE line. -/
structure Ring.Flowing (r : Ring) : Prop extends Ring.Bounded r where
  idle : r.line = none → r.forward = [] ∧ r.transmit = []

namespace Ring.Bounded

variable {r : Ring}

/-- What the arbiter leaves at an IDLE line: nothing waits there. -/
theorem startNext (h : r.Bounded) (own : Addr) : (r.startNext own).Flowing := by
  obtain ⟨forward, transmit, runCount, owners⟩ := h
  unfold Ring.startNext
  split
  · next queue buffer => exact ⟨⟨forward, transmit, runCount, owners⟩, fun _ => ⟨buffer, queue⟩⟩
  · next f fs queue buffer =>
    rw [buffer] at forward
    exact ⟨⟨by simp at forward ⊢; omega, transmit, by simp, owners⟩, nofun⟩
  · next q qs queue buffer =>
    rw [queue] at transmit owners
    exact ⟨⟨forward, by simp at transmit ⊢; omega, by simp, owners.sublist ((List.sublist_cons_self q qs).filterMap _)⟩, nofun⟩
  · next q qs f fs queue buffer =>
    split
    · rw [queue] at transmit owners
      exact ⟨⟨forward, by simp at transmit ⊢; omega, by simp, owners.sublist ((List.sublist_cons_self q qs).filterMap _)⟩, nofun⟩
    · next more =>
      rw [buffer] at forward
      exact ⟨⟨by simp at forward ⊢; omega, transmit, by simp; omega, owners⟩, nofun⟩

theorem arbitrate (h : r.Bounded) (own : Addr) : (r.arbitrate own).Flowing := by
  unfold Ring.arbitrate
  split
  · exact h.startNext own
  · next busy => exact ⟨h, fun idle => by simp [idle] at busy⟩

end Ring.Bounded

/-- A detached frame's owner is none or as it was (R144). -/
theorem Queued.detach_owner (q : Queued) (o : OutputIdx) :
    (q.detach o).body.owner = none ∨ (q.detach o).body.owner = q.body.owner := by
  unfold Queued.detach
  split
  · split
    · exact .inl rfl
    · exact .inr rfl
  all_goals exact .inr rfl

namespace Ring.Flowing

variable {r : Ring}

/-- A frame without a waiting COMMAND of its owner joins a queue that has room. -/
theorem join (h : r.Flowing) (own : Addr) {q : Queued} (room : r.transmit.length < 16)
    (owner : ∀ o, q.body.owner = some o → r.hasCommand o = false) : (r.join own q).Flowing := by
  have joined : (r.transmit ++ [q]).length ≤ 16 := by rw [List.length_append]; exact room
  have bounded : Ring.Bounded { r with transmit := r.transmit ++ [q] } := ⟨h.forward, joined, h.runCount, ?_⟩
  · exact bounded.arbitrate own
  rw [List.filterMap_append, List.nodup_append']
  refine ⟨h.owners, ?_, fun o waiting joins => ?_⟩
  · cases owned : q.body.owner <;> simp [owned]
  · have owned : q.body.owner = some o := by simpa using joins
    obtain ⟨p, queued, mine⟩ := List.mem_filterMap.1 waiting
    have has : r.hasCommand o = true := List.any_eq_true.2 ⟨p, queued, by simp [Queued.isOwnedBy, mine]⟩
    rw [owner o owned] at has
    cases has

theorem coalesce (h : r.Flowing) (o : OutputIdx) (v : Int) : (r.coalesce o v).Flowing := by
  have owner : ∀ q : Queued, (if q.isOwnedBy o then q.withValue v else q).body.owner = q.body.owner := fun q => by
    split
    · unfold Queued.withValue
      split <;> simp_all [Body.owner]
    · rfl
  refine ⟨⟨h.forward, by simpa [Ring.coalesce] using h.transmit, h.runCount, ?_⟩, fun idle => ?_⟩
  · have same : (r.coalesce o v).transmit.filterMap (·.body.owner) = r.transmit.filterMap (·.body.owner) := by
      simp only [Ring.coalesce, List.filterMap_map, Function.comp_def, owner]
    rw [same]
    exact h.owners
  · obtain ⟨buffer, queue⟩ := h.idle idle
    exact ⟨buffer, by simp [Ring.coalesce, queue]⟩

theorem detach (h : r.Flowing) (o : OutputIdx) : (r.detach o).Flowing := by
  refine ⟨⟨h.forward, by simpa [Ring.detach] using h.transmit, h.runCount, ?_⟩, fun idle => ?_⟩
  · refine h.owners.sublist ?_
    simp only [Ring.detach]
    induction r.transmit with
    | nil => exact .slnil
    | cons q qs ih =>
      rw [List.map_cons, List.filterMap_cons, List.filterMap_cons]
      obtain gone | stays := Queued.detach_owner q o
      · simp only [gone]
        split
        · exact ih
        · exact ih.cons _
      · simp only [stays]
        split
        · exact ih
        · exact ih.cons_cons _
  · obtain ⟨buffer, queue⟩ := h.idle idle
    exact ⟨buffer, by simp [Ring.detach, queue]⟩

end Ring.Flowing

/-- The ring of a state flows. -/
abbrev State.Flowing (s : State) : Prop := s.ring.Flowing

theorem flowing_depends : DependsOn [.traffic] State.Flowing := by
  intro s t same h
  obtain ⟨forward, transmit, line, run, -⟩ := same .traffic (by simp)
  exact ⟨⟨forward ▸ h.forward, transmit ▸ h.transmit, run ▸ h.runCount, transmit ▸ h.owners⟩,
    fun idle => forward ▸ transmit ▸ h.idle (line ▸ idle)⟩

namespace State.Flowing

variable {s t : State}

theorem of_but {c : List Part} (h : s.Flowing) (but : s.SameBut c t) (apart : Part.traffic ∉ c) : t.Flowing :=
  flowing_depends.of_but but (by simpa using apart) h

theorem enqueue (h : s.Flowing) {q : Queued} (owner : ∀ o, q.body.owner = some o → s.ring.hasCommand o = false) :
    (s.enqueue q).1.Flowing := by
  unfold State.enqueue
  split
  · next room => exact Ring.Flowing.join h _ room owner
  · exact h

theorem sendCommand (h : s.Flowing) (o : OutputIdx) (v : Int) : (s.sendCommand o v).1.Flowing := by
  unfold State.sendCommand
  dsimp only
  split
  · exact Ring.Flowing.coalesce h o v
  · next waits =>
    refine h.enqueue fun o' owned => ?_
    cases owned
    simpa using waits

theorem sendValue (h : s.Flowing) (o : OutputIdx) (v : Int) : (s.sendValue o v).Flowing := by
  unfold State.sendValue
  exact ((h.of_but (s.setOutput_but o _) (by decide)).sendCommand o v).of_but (setOutput_but _ o _) (by decide)

theorem writeOutput (h : s.Flowing) (o : OutputIdx) (c : OutputConfig) : (s.writeOutput o c).Flowing := by
  unfold State.writeOutput
  extract_lets old _ s1 s2 s3 s4
  have h1 : s1.Flowing := h.of_but (s.setOutput_but o _) (by decide)
  have h2 : s2.Flowing := by
    simp only [s2]
    split
    · unfold reassignOutput
      extract_lets _ cleared
      have emptied : cleared.Flowing := h1.of_but (s1.setOutput_but o _) (by decide)
      have detached : (cleared.withRing (cleared.ring.detach o)).Flowing := Ring.Flowing.detach emptied o
      exact detached.of_but (changeOutput_but o .auto _) (by decide)
    · exact h1
  have h3 : s3.Flowing := by
    simp only [s3]
    split
    · exact h2.of_but (changeOutput_but o .auto _) (by decide)
    · exact h2
  have h4 : s4.Flowing := by
    simp only [s4]
    split
    · unfold reclampOutput
      dsimp only
      split
      · exact h3
      · split
        · exact h3
        · exact h3.sendValue o _
    · exact h3
  split
  · exact h4.of_but (s4.setOutput_but o _) (by decide)
  · exact h4

end State.Flowing

theorem flowing_kept : KeptByAll [] State.Flowing where
  closed := nofun
  move {_ _ s _} _ m h := by
    have but := m.but
    cases m with
    | send dst b ownerless => exact h.enqueue fun o owned => by rw [ownerless] at owned; cases owned
    | forward f =>
      unfold State.forwardFrame
      split
      · next room =>
        have bounded : Ring.Bounded { s.ring with forward := s.ring.forward ++ [f] } :=
          ⟨by rw [List.length_append]; exact room, h.transmit, h.runCount, h.owners⟩
        exact bounded.arbitrate _
      · exact h
    | offered o v used => exact h.sendValue o _
    | _ => exact h.of_but but (by decide)
  tripLane := nofun
  fire := nofun
  changeStorm := nofun
  event {_ s _} e h := by
    have but := e.but
    cases e with
    | frameSent =>
      unfold State.finishFrame
      split
      · exact h.toBounded.startNext _
      · exact h
    | noted o v _ _ =>
      unfold State.noteValue
      dsimp only
      split
      · exact Ring.Flowing.coalesce h o v
      · exact h
    | resent o _ =>
      unfold State.resend
      dsimp only
      split
      · exact h.sendValue o _
      · exact h
      · exact h
    | outputWritten o c _ _ => exact h.writeOutput o c
    | restarted =>
      have emptied : s.restartRingAndOutputs.Flowing := ⟨⟨Nat.zero_le _, Nat.zero_le _, Nat.zero_le _, .nil⟩, fun _ => ⟨rfl, rfl⟩⟩
      exact emptied.of_but (State.restartBlocks_but _) (by decide)
    | _ => exact h.of_but but (by decide)
  received s _ _ h := ⟨⟨h.forward, h.transmit, h.runCount, h.owners⟩, h.idle⟩
  carried s _ _ _ h := ⟨⟨h.forward, h.transmit, h.runCount, h.owners⟩, h.idle⟩
  resetAssert s h := ⟨⟨Nat.zero_le _, Nat.zero_le _, h.runCount, .nil⟩, fun _ => ⟨rfl, rfl⟩⟩
  startFrom s _ _ _ _ _ h := ⟨⟨Nat.zero_le _, Nat.zero_le _, Nat.zero_le _, .nil⟩, fun _ => ⟨rfl, rfl⟩⟩
  startDefault s _ _ h := ⟨⟨Nat.zero_le _, Nat.zero_le _, Nat.zero_le _, .nil⟩, fun _ => ⟨rfl, rfl⟩⟩
  bypassEnd s _ _ h := ⟨⟨h.forward, h.transmit, h.runCount, h.owners⟩, h.idle⟩
  tick s h := h.of_but s.tick_but (by decide)
  pending s _ h := h

/-- Nothing passes through a running part, and nothing is received before that (R2). -/
structure State.Gated (s : State) : Prop where
  passing : s.power = .running → s.ring.passing = [] ∧ s.ring.inPassage = []
  receiving : s.power ≠ .running → s.ring.received = []

theorem gated_depends : DependsOn [.power, .received, .passing] State.Gated := by
  intro s t same h
  have power : t.power = s.power := same .power (by simp)
  have received : t.ring.received = s.ring.received := same .received (by simp)
  obtain ⟨passing, inPassage⟩ := same .passing (by simp)
  exact ⟨fun running => passing ▸ inPassage ▸ h.passing (power ▸ running), fun off => received ▸ h.receiving (power ▸ off)⟩

theorem gated_kept : KeptByAll [] State.Gated where
  closed := nofun
  move _ m h := gated_depends.of_but m.but (by cases m <;> decide) h
  tripLane := nofun
  fire := nofun
  changeStorm := nofun
  event e h := gated_depends.of_but e.but (by cases e <;> decide) h
  received s bytes running h := ⟨h.passing, fun off => absurd running off⟩
  carried s _ _ off h := ⟨fun running => absurd running off, h.receiving⟩
  resetAssert s h := ⟨nofun, fun _ => rfl⟩
  startFrom s _ _ _ _ _ h := ⟨nofun, fun _ => rfl⟩
  startDefault s _ _ h := ⟨nofun, fun _ => rfl⟩
  bypassEnd s _ clear h := ⟨fun _ => ⟨rfl, clear⟩, fun off => absurd rfl off⟩
  tick s h := gated_depends.of_but s.tick_but (by decide) h
  pending s _ h := ⟨h.passing, h.receiving⟩

theorem State.ringSound_iff (s : State) : s.RingSound ↔ s.Flowing ∧ s.Gated :=
  ⟨fun h => ⟨⟨⟨h.forward, h.transmit, h.runCount, h.owners⟩, h.idle⟩, ⟨h.passing, h.receiving⟩⟩,
    fun ⟨f, g⟩ => ⟨f.forward, f.transmit, f.runCount, f.owners, f.idle, g.passing, g.receiving⟩⟩

/-- Settles O56: every move, event, byte, reset and tick keeps the bounds of the ring and the numbering of the history. -/
theorem stepsKeepRingAndHistorySound : Obligations.StepsKeepRingAndHistorySound := by
  intro s t next
  simp only [State.ringSound_iff]
  exact ⟨fun ⟨flowing, gated⟩ => ⟨flowing_kept.step flowing next, gated_kept.step gated next⟩, fun h => historySound_kept.step h next⟩

end Sys2Proof.Machine
end

section
/-! What the operations on lanes leave in the lane table; the agreement of regimes, dwell and storm (R53, R60 to R64), and the overrides, held
only under a lease (R141). -/
namespace Sys2Proof.Machine

theorem indices_nodup (n : Nat) : (indices n).Nodup := List.nodup_finRange n

/-- A lane's record once its pending set, if any, is applied (R56). -/
def Lane.taken (l : Lane) : Lane :=
  match l.pending with
  | none => l
  | some p => { l with config := p.lane, pending := none }

theorem Lane.taken_of_none {l : Lane} (h : l.pending = none) : l.taken = l := by
  unfold taken
  rw [h]

theorem Lane.taken_of_some {l : Lane} {p : Pending} (h : l.pending = some p) : l.taken = { l with config := p.lane, pending := none } := by
  unfold taken
  rw [h]

theorem Lane.taken_state (l : Lane) : l.taken.state = l.state := by unfold taken; split <;> rfl
theorem Lane.taken_dwell (l : Lane) : l.taken.dwell = l.dwell := by unfold taken; split <;> rfl
theorem Lane.taken_timer (l : Lane) : l.taken.timer = l.timer := by unfold taken; split <;> rfl

namespace State

variable {s t : State}

/-! ### The lane table after an operation -/

theorem applyPending_lanes (k : LaneIdx) (s : State) : (s.applyPending k).lanes = s.lanes.set k (s.lanes.get k).taken := by
  unfold applyPending
  dsimp only
  split
  · next none => rw [Lane.taken_of_none none]; exact (Table.set_get _ k).symm
  · next p pending =>
    have zones : ∀ (u : State) (f : Fin 4 → State → Zone), (u.each (indices 4) fun i s => s.setZone (zoneAt k i) (f i s)).lanes = u.lanes :=
      fun u f => SameBut.each (c := [.zones]) _ (fun i v => v.setZone_but _ _) (indices 4) u .lanes (by decide)
    rw [zones, Lane.taken_of_some pending]
    rfl

theorem changeRegime_lanes (k : LaneIdx) (new : LaneState) (s : State) :
    (s.changeRegime k new).lanes = s.lanes.set k { s.lanes.get k with state := new, dwell := 0 } := by
  unfold changeRegime
  dsimp only
  split
  · have lanes : (s.endCycle k).lanes = s.lanes := endCycle_but k s .lanes (by decide)
    show (s.endCycle k).lanes.set k { (s.endCycle k).lanes.get k with state := new, dwell := 0 } = _
    rw [lanes]
  · rfl

theorem changeRegime_plant (k : LaneIdx) (new : LaneState) (s : State) : (s.changeRegime k new).plant = s.plant :=
  changeRegime_but k new s .plant (by decide)

/-- The lane table as a lane enters OFFLINE (R74). -/
theorem offline_lanes (k : LaneIdx) (s : State) :
    (((s.changeRegime k .offline).setLane k { (s.changeRegime k .offline).lanes.get k with timer := none }).offlineZones k).lanes =
      s.lanes.set k { s.lanes.get k with state := .offline, dwell := 0, timer := none } := by
  rw [offlineZones_but k _ .lanes (by decide)]
  show (s.changeRegime k .offline).lanes.set k { (s.changeRegime k .offline).lanes.get k with timer := none } = _
  rw [changeRegime_lanes, Table.get_set_self, Table.set_set]

/-- The lane table as a lane leaves OFFLINE (R75). -/
theorem online_lanes (k : LaneIdx) (new : LaneState) (s : State) : (((s.changeRegime k new).initialZones k).startPeriod k).lanes =
    s.lanes.set k { s.lanes.get k with state := new, dwell := 0, timer := some (tenths (s.lanes.get k).config.period) } := by
  have lanes : ((s.changeRegime k new).initialZones k).lanes = s.lanes.set k { s.lanes.get k with state := new, dwell := 0 } :=
    (eachWorking_but k _ _ .lanes (by decide)).trans (changeRegime_lanes k new s)
  unfold startPeriod
  show ((s.changeRegime k new).initialZones k).lanes.set k _ = _
  rw [lanes, Table.get_set_self, Table.set_set]

/-- An operation that, while something holds, rewrites one record of a table from that record alone, taken index by index. -/
theorem each_table_of {n : Nat} {α : Type} (table : State → Table n α) {I : State → Prop} {f : Fin n → State → State} {g : Fin n → α → α}
    (one : ∀ k s, I s → table (f k s) = (table s).set k (g k ((table s).get k))) (keeps : ∀ k s, I s → I (f k s))
    (l : List (Fin n)) (distinct : l.Nodup) {s : State} (holds : I s) (j : Fin n) :
    (table (s.each l f)).get j = if j ∈ l then g j ((table s).get j) else (table s).get j := by
  induction l generalizing s with
  | nil => rfl
  | cons k l ih =>
    obtain ⟨fresh, distinct⟩ := List.nodup_cons.1 distinct
    show (table ((f k s).each l f)).get j = _
    rw [ih distinct (keeps k s holds), one k s holds, Table.get_set]
    by_cases same : k = j
    · subst same
      simp [fresh]
    · have other : j ≠ k := fun eq => same eq.symm
      simp [same, other]

/-- An operation that rewrites one record of a table from that record alone, taken index by index. -/
theorem each_table {n : Nat} {α : Type} (table : State → Table n α) {f : Fin n → State → State} {g : Fin n → α → α}
    (one : ∀ k s, table (f k s) = (table s).set k (g k ((table s).get k))) (l : List (Fin n)) (distinct : l.Nodup) (s : State) (j : Fin n) :
    (table (s.each l f)).get j = if j ∈ l then g j ((table s).get j) else (table s).get j :=
  each_table_of table (I := fun _ => True) (fun k s _ => one k s) (fun _ _ _ => trivial) l distinct trivial j

end State

/-- A lane's record after a storm entry or exit (R63). -/
def Lane.afterStorm (active : Bool) (l : Lane) : Lane :=
  match l.state.afterStorm active with
  | some new => { l with state := new, dwell := 0 }
  | none => l

namespace State

variable {s t : State}

/-- The step a storm entry or exit takes at one lane (R63). -/
abbrev stormStep (active : Bool) (k : LaneIdx) (s : State) : State :=
  match (s.lanes.get k).state.afterStorm active with
  | some new => s.changeRegime k new
  | none => s

theorem changeStorm_eq (active : Bool) (s : State) : s.changeStorm active =
    (((s.withPlant { s.plant with storm := active }).capture (levelEntry .stormActive (!active) active)).each (indices 8)
      (stormStep active)).raise (.level .stormActive active) := rfl

theorem stormStep_lanes (active : Bool) (k : LaneIdx) (s : State) :
    (s.stormStep active k).lanes = s.lanes.set k ((s.lanes.get k).afterStorm active) := by
  unfold stormStep Lane.afterStorm
  split
  · exact changeRegime_lanes k _ s
  · exact (Table.set_get _ k).symm

theorem stormStep_but (active : Bool) (k : LaneIdx) (s : State) : s.SameBut [.lanes, .zones, .history] (s.stormStep active k) := by
  unfold stormStep
  split
  · exact changeRegime_but k _ s
  · exact .refl _ s

theorem changeStorm_lanes (active : Bool) (s : State) (k : LaneIdx) :
    ((s.changeStorm active).lanes.get k) = (s.lanes.get k).afterStorm active := by
  rw [changeStorm_eq, raise_but _ _ .lanes (by decide), each_table State.lanes (g := fun _ => Lane.afterStorm active)
    (stormStep_lanes active) _ (indices_nodup 8), if_pos (mem_indices k)]
  rfl

theorem changeStorm_plant (active : Bool) (s : State) : (s.changeStorm active).plant = { s.plant with storm := active } := by
  rw [changeStorm_eq, raise_but _ _ .plant (by decide), SameBut.each _ (stormStep_but active) _ _ .plant (by decide)]
  rfl

end State

/-- A regime that the storm's change leaves agrees with the new storm state (R63). -/
theorem LaneState.afterStorm_none {l : LaneState} {active : Bool} (h : l.afterStorm active = none) :
    (l.regime = .storm → active = true) ∧ (l.regime = .normal → active = false) ∧ (l.regime = .economy → active = false) := by
  cases l <;> cases active <;> simp_all [LaneState.afterStorm, LaneState.regime]

theorem Lane.afterStorm_agrees {l : Lane} (active : Bool) (dwell : l.state.regime ≠ .normal → l.dwell = 0) :
    (l.afterStorm active).Agrees active := by
  unfold Lane.afterStorm
  split
  · next new moves =>
    obtain ⟨rfl, -, -⟩ := Kept.afterStorm_some moves
    cases active with
    | true => exact ⟨fun _ => rfl, nofun, nofun, fun _ => rfl⟩
    | false => exact ⟨nofun, fun _ => rfl, nofun, fun _ => rfl⟩
  · next stays =>
    obtain ⟨storm, normal, economy⟩ := LaneState.afterStorm_none stays
    exact ⟨storm, normal, economy, dwell⟩

/-! ### Regimes, storm and dwell -/

theorem State.stormSound_iff (s : State) :
    s.StormSound ↔ (∀ k, (s.lanes.get k).Agrees s.plant.storm) ∧ (s.plant.exitHold.isSome = true → s.plant.storm = true) :=
  ⟨fun h => ⟨fun k => ⟨h.storm k, h.normal k, h.economy k, h.dwell k⟩, h.hold⟩,
    fun ⟨lanes, hold⟩ => ⟨fun k => (lanes k).inStorm, fun k => (lanes k).inNormal, fun k => (lanes k).inEconomy, hold, fun k => (lanes k).dwell⟩⟩

theorem stormSound_depends : DependsOn [.lanes, .plant] State.StormSound := by
  intro s t same
  have lanes : t.lanes = s.lanes := same .lanes (by simp)
  have plant : t.plant = s.plant := same .plant (by simp)
  simp only [State.stormSound_iff, lanes, plant]
  exact id

namespace State.StormSound

variable {s t : State}

/-- One lane's record moves on, in agreement with the storm. -/
theorem set_lane (h : s.StormSound) {k : LaneIdx} {l : Lane} (lanes : t.lanes = s.lanes.set k l) (plant : t.plant = s.plant)
    (agrees : (s.lanes.get k).Agrees s.plant.storm → l.Agrees s.plant.storm) : t.StormSound := by
  rw [stormSound_iff] at h ⊢
  obtain ⟨each, hold⟩ := h
  rw [lanes, plant]
  refine ⟨fun j => ?_, hold⟩
  rw [Table.get_set]
  split
  · exact agrees (each k)
  · exact each j

theorem map_lanes (h : s.StormSound) {f : Lane → Lane} (lanes : t.lanes = s.lanes.map f) (plant : t.plant.storm = s.plant.storm)
    (hold : t.plant.exitHold.isSome = true → s.plant.exitHold.isSome = true)
    (agrees : ∀ l storm, l.Agrees storm → (f l).Agrees storm) : t.StormSound := by
  rw [stormSound_iff] at h ⊢
  obtain ⟨each, held⟩ := h
  rw [lanes, plant]
  refine ⟨fun j => ?_, fun running => held (hold running)⟩
  rw [Table.get_map]
  exact agrees _ _ (each j)

end State.StormSound

theorem Lane.Agrees.of_regime {l m : Lane} {storm : Bool} (h : l.Agrees storm) (regime : m.state.regime = l.state.regime)
    (dwell : m.dwell = l.dwell) : m.Agrees storm := by
  obtain ⟨a, b, c, d⟩ := h
  exact ⟨regime ▸ a, regime ▸ b, regime ▸ c, fun off => dwell.trans (d (regime ▸ off))⟩

theorem LaneState.tick_regime (l : LaneState) : l.tick.regime = l.regime := by cases l <;> rfl

/-- A lane that starts anew agrees with an INACTIVE storm (R77). -/
theorem LaneConfig.startState_agrees (c : LaneConfig) {l : Lane} (state : l.state = c.startState) (dwell : l.dwell = 0) :
    l.Agrees false := by
  unfold LaneConfig.startState at state
  split at state <;> exact ⟨by simp [state, LaneState.regime], fun _ => rfl, fun _ => rfl, fun _ => dwell⟩

theorem Lane.restart_agrees (l : Lane) : l.restart.Agrees false := by
  have start (state : l.restart.state = l.config.startState) : l.restart.Agrees false := l.config.startState_agrees state rfl
  cases state : l.state with
  | tripped w => 
    have stays : l.restart.state.regime = .tripped := by simp [Lane.restart, Lane.startTimer, state, LaneState.regime]
    exact ⟨by simp [stays], fun _ => rfl, fun _ => rfl, fun _ => rfl⟩
  | _ => exact start (by simp [Lane.restart, Lane.startTimer, state])

theorem State.StormSound.anew {s : State} {c : LaneIdx → LaneConfig} {p : PlantConfig} (lanes : ∀ k, s.lanes.get k = Lane.fresh (c k))
    (plant : s.plant = Plant.fresh p) : s.StormSound := by
  rw [State.stormSound_iff, plant]
  refine ⟨fun k => ?_, nofun⟩
  rw [lanes]
  exact (c k).startState_agrees rfl rfl

theorem stormSound_kept : KeptByAll [.storming] State.StormSound where
  closed := by decide
  move apart m h := by
    have but := m.but
    cases m with
    | lane g k l follows trips agrees => exact h.set_lane rfl rfl (agrees (by simpa using apart))
    | plant g p config agrees =>
      obtain ⟨storm, hold⟩ := agrees (by simpa using apart)
      rw [State.stormSound_iff] at h ⊢
      obtain ⟨each, held⟩ := h
      refine ⟨fun k => storm ▸ each k, fun running => (hold running).elim (fun before => ?_) id⟩
      exact storm.trans (held before)
    | _ => exact stormSound_depends.of_but but (by decide) h
  tripLane := by simp
  fire := by simp
  changeStorm _ s active hold h := by
    rw [State.stormSound_iff] at h ⊢
    obtain ⟨each, held⟩ := h
    rw [State.changeStorm_plant]
    refine ⟨fun k => ?_, fun running => ?_⟩
    · rw [State.changeStorm_lanes]
      exact Lane.afterStorm_agrees active (each k).dwell
    · cases active with
      | true => rfl
      | false => simp [hold rfl] at running
  event {_ s _} e h := by
    have but := e.but
    cases e with
    | applied k =>
      exact h.set_lane (State.applyPending_lanes k _) (but .plant (by decide)) fun old => old.of_regime (by rw [Lane.taken_state]) (Lane.taken_dwell _)
    | period k _ => exact h.set_lane rfl rfl fun old => old.of_regime rfl rfl
    | offline k _ =>
      exact h.set_lane (State.offline_lanes k _) (but .plant (by decide)) fun _ => ⟨nofun, nofun, nofun, fun _ => rfl⟩
    | online k new _ _ agrees => exact h.set_lane (State.online_lanes k new _) (but .plant (by decide)) fun _ => agrees.of_regime rfl rfl
    | staged k p _ => exact h.set_lane rfl rfl fun old => old.of_regime rfl rfl
    | plantWritten c _ =>
      rw [State.stormSound_iff] at h ⊢
      exact h
    | restarted =>
      rw [State.stormSound_iff]
      refine ⟨fun k => ?_, nofun⟩
      have lanes : s.restartRingAndOutputs.restartBlocks.lanes = s.lanes.map Lane.restart := rfl
      rw [lanes, Table.get_map]
      exact Lane.restart_agrees _
    | _ => exact stormSound_depends.of_but but (by decide) h
  received s _ _ h := stormSound_depends s _ (by simp [Part.same, State.withReceived]) h
  carried s _ _ _ h := stormSound_depends s _ (by simp [Part.same]) h
  resetAssert s h := stormSound_depends s _ (by simp [Part.same, State.assertReset]) h
  startFrom s _ image _ _ _ h := .anew (c := fun k => image.settings.lanes.get k) (fun k => Table.get_map ..) rfl
  startDefault s _ _ h := .anew (c := fun k => Settings.default.lanes.get k) (fun k => Table.get_map ..) rfl
  bypassEnd s _ _ h := h.map_lanes (f := Lane.startTimer) rfl rfl id fun l _ old => old.of_regime rfl rfl
  tick s h := by
    unfold State.tick
    split
    · exact h
    · exact stormSound_depends s _ (by simp [Part.same, State.tickCount]) h
    · refine h.map_lanes (f := fun l => { l with timer := countDown l.timer, state := l.state.tick }) rfl rfl ?_ fun l _ old => ?_
      · simp [State.tickTimers, State.tickCount, countDown]
      · exact old.of_regime (LaneState.tick_regime _) rfl
  pending s _ h := stormSound_depends s _ (by simp [Part.same]) h

end Sys2Proof.Machine
end

section
/-! What the operations on outputs leave in the output table, and the overrides, held only under a lease and never on a TRIPPED lane (R141). -/
namespace Sys2Proof.Machine

/-! ### The record of one output -/

namespace Output

/-- The record of an output that sends a value, with the queue's answer (R142, R143). -/
def sent (out : Output) (v : Int) (unsent : Bool) : Output := { restartResend { out with last := some v } with unsent := unsent }

/-- The record of an output that stands for another actuator (R144). -/
def reassigned (out : Output) : Output := { out with last := none, unsent := false, resendTimer := none, state := .auto }

/-- The record of an output whose limits moved, with the queue's answer where it sends (R144). -/
def reclamped (out : Output) (unsent : Bool) : Output :=
  match out.last with
  | none => out
  | some l => if out.config.limit l = l then out else out.sent (out.config.limit l) unsent

/-- The written configuration makes another actuator (R144). -/
abbrev moves (old new : OutputConfig) : Prop := old.destination ≠ new.destination ∨ old.channel ≠ new.channel ∨ old.kind ≠ new.kind

/-- The record of an output with its configuration written: reassigned, released, clamped and timed anew as the write asks for (R144). -/
def rewritten (out : Output) (c : OutputConfig) (released unsent : Bool) : Output :=
  let a := { out with config := c }
  let b := if moves out.config c then a.reassigned else a
  let d := if released then { b with state := .auto } else b
  let e := if out.config.low ≠ c.low ∨ out.config.high ≠ c.high then d.reclamped unsent else d
  if out.config.resend ≠ c.resend then e.rewriteResend else e

variable (out : Output)

@[simp] theorem sent_config (v : Int) (u : Bool) : (out.sent v u).config = out.config := State.restartResend_config _
@[simp] theorem sent_state (v : Int) (u : Bool) : (out.sent v u).state = out.state := State.restartResend_state _
@[simp] theorem sent_last (v : Int) (u : Bool) : (out.sent v u).last = some v := State.restartResend_last _

theorem rewriteResend_keeps : out.rewriteResend.config = out.config ∧ out.rewriteResend.state = out.state ∧ out.rewriteResend.last = out.last := by
  unfold rewriteResend
  split
  · exact ⟨rfl, rfl, rfl⟩
  · split <;> exact ⟨rfl, rfl, rfl⟩

theorem reclamped_config (u : Bool) : (out.reclamped u).config = out.config := by
  unfold reclamped
  split
  · rfl
  · split
    · rfl
    · exact out.sent_config _ u

theorem reclamped_state (u : Bool) : (out.reclamped u).state = out.state := by
  unfold reclamped
  split
  · rfl
  · split
    · rfl
    · exact out.sent_state _ u

theorem rewritten_config (c : OutputConfig) (r u : Bool) : (out.rewritten c r u).config = c := by
  have clamped : ∀ d : Output, d.config = c → (if out.config.low ≠ c.low ∨ out.config.high ≠ c.high then d.reclamped u else d).config = c := by
    intro d h
    split
    · rw [reclamped_config, h]
    · exact h
  have timed : ∀ e : Output, e.config = c → (if out.config.resend ≠ c.resend then e.rewriteResend else e).config = c := by
    intro e h
    split
    · rw [e.rewriteResend_keeps.1, h]
    · exact h
  refine timed _ (clamped _ ?_)
  split <;> split <;> rfl

/-- A written output is AUTO where the write reassigns or releases it, and in its old state elsewhere (R144). -/
theorem rewritten_state (c : OutputConfig) (r u : Bool) :
    (out.rewritten c r u).state = if moves out.config c ∨ r = true then .auto else out.state := by
  have clamped : ∀ d : Output, (if out.config.low ≠ c.low ∨ out.config.high ≠ c.high then d.reclamped u else d).state = d.state := by
    intro d
    split
    · exact d.reclamped_state u
    · rfl
  have timed : ∀ e : Output, (if out.config.resend ≠ c.resend then e.rewriteResend else e).state = e.state := by
    intro e
    split
    · exact e.rewriteResend_keeps.2.1
    · rfl
  refine (timed _).trans ((clamped _).trans ?_)
  by_cases moved : moves out.config c <;> cases r <;> simp [moved, reassigned]

end Output

namespace State

variable {s t : State}

/-! ### The output table after an operation -/

/-- A COMMAND sent leaves its output's record with the queue's answer, and no other output changed (R142, R143). -/
theorem sendValue_outputs (o : OutputIdx) (v : Int) (s : State) :
    ∃ u, (s.sendValue o v).outputs = s.outputs.set o ((s.outputs.get o).sent v u) := by
  unfold sendValue
  extract_lets _ noted answer _
  have outputs : answer.1.outputs = noted.outputs := sendCommand_but noted o v .outputs (by decide)
  refine ⟨!answer.2, ?_⟩
  show answer.1.outputs.set o { answer.1.outputs.get o with unsent := !answer.2 } = _
  rw [outputs]
  show (s.outputs.set o _).set o { (s.outputs.set o _).get o with unsent := _ } = _
  rw [Table.get_set_self, Table.set_set]
  rfl

theorem reassignOutput_outputs (o : OutputIdx) (s : State) : (s.reassignOutput o).outputs = s.outputs.set o (s.outputs.get o).reassigned := by
  unfold reassignOutput
  rw [changeOutput_outputs]
  show (s.outputs.set o _).set o { (s.outputs.set o _).get o with state := .auto } = _
  rw [Table.get_set_self, Table.set_set]
  rfl

theorem reclampOutput_outputs (o : OutputIdx) (s : State) :
    ∃ u, (s.reclampOutput o).outputs = s.outputs.set o ((s.outputs.get o).reclamped u) := by
  unfold reclampOutput
  dsimp only
  split
  · next none => exact ⟨false, by simp only [Output.reclamped, none, Table.set_get]⟩
  · next l last =>
    split
    · next within => exact ⟨false, by simp only [Output.reclamped, last, if_pos within, Table.set_get]⟩
    · next outside => simpa only [Output.reclamped, last, if_neg outside] using sendValue_outputs o _ s

/-- A write to OUTPUT leaves the written output's record and no other output changed (R144). -/
theorem writeOutput_outputs (o : OutputIdx) (c : OutputConfig) (s : State) : ∃ u, (s.writeOutput o c).outputs =
    s.outputs.set o ((s.outputs.get o).rewritten c (decide ((s.outputs.get o).config.owner ≠ c.owner) && s.servesTripped c) u) := by
  unfold writeOutput
  extract_lets old _ s1 s2 s3 s4
  let a : Output := { s.outputs.get o with config := c }
  have h1 : s1.outputs = s.outputs.set o a := rfl
  let b := if Output.moves old c then a.reassigned else a
  have h2 : s2.outputs = s.outputs.set o b := by
    simp only [s2, b]
    split
    · rw [reassignOutput_outputs, h1, Table.get_set_self, Table.set_set]
    · exact h1
  have serves : s2.servesTripped c = s.servesTripped c := by
    have lanes : s2.lanes = s.lanes := by
      simp only [s2]
      split
      · exact s1.reassignOutput_but o .lanes (by decide)
      · rfl
    simp only [servesTripped, lanes]
  let d := if (decide (old.owner ≠ c.owner) && s.servesTripped c) = true then { b with state := .auto } else b
  have h3 : s3.outputs = s.outputs.set o d := by
    simp only [s3, d, serves, Bool.and_eq_true, decide_eq_true_eq]
    split
    · rw [changeOutput_outputs, h2, Table.get_set_self, Table.set_set]
    · exact h2
  obtain ⟨u, h4⟩ : ∃ u, s4.outputs = s.outputs.set o (if old.low ≠ c.low ∨ old.high ≠ c.high then d.reclamped u else d) := by
    simp only [s4]
    split
    · obtain ⟨u, sent⟩ := reclampOutput_outputs o s3
      exact ⟨u, by rw [sent, h3, Table.get_set_self, Table.set_set]⟩
    · exact ⟨false, h3⟩
  refine ⟨u, ?_⟩
  by_cases timed : old.resend ≠ c.resend
  · have record : (s.outputs.get o).rewritten c (decide (old.owner ≠ c.owner) && s.servesTripped c) u =
        (if old.low ≠ c.low ∨ old.high ≠ c.high then d.reclamped u else d).rewriteResend := if_pos timed
    rw [if_pos timed, record]
    show s4.outputs.set o (s4.outputs.get o).rewriteResend = _
    rw [h4, Table.get_set_self, Table.set_set]
  · have record : (s.outputs.get o).rewritten c (decide (old.owner ≠ c.owner) && s.servesTripped c) u =
        if old.low ≠ c.low ∨ old.high ≠ c.high then d.reclamped u else d := if_neg timed
    rw [if_neg timed, record]
    exact h4

/-- A forced offer moves no output's configuration and no output's state (R151). -/
theorem forcedOffer_keeps (o : OutputIdx) (v : Int) (s : State) (p : OutputIdx) :
    ((s.forcedOffer o v).outputs.get p).config = (s.outputs.get p).config ∧
      ((s.forcedOffer o v).outputs.get p).state = (s.outputs.get p).state := by
  have sent : ∀ w, ((s.sendValue o w).outputs.get p).config = (s.outputs.get p).config ∧
      ((s.sendValue o w).outputs.get p).state = (s.outputs.get p).state := by
    intro w
    obtain ⟨u, outputs⟩ := sendValue_outputs o w s
    rw [outputs, Table.get_set]
    split
    · next same => rw [← same]; exact ⟨Output.sent_config _ w u, Output.sent_state _ w u⟩
    · exact ⟨rfl, rfl⟩
  unfold forcedOffer
  dsimp only
  split
  · exact ⟨rfl, rfl⟩
  · split
    · exact ⟨rfl, rfl⟩
    · split
      · exact sent _
      · exact ⟨rfl, rfl⟩

theorem changeOutput_keeps (o : OutputIdx) (new : OutputState) (s : State) (p : OutputIdx) :
    ((s.changeOutput o new).outputs.get p).config = (s.outputs.get p).config ∧
      ((s.changeOutput o new).outputs.get p).state = if p = o then new else (s.outputs.get p).state := by
  rw [changeOutput_outputs, Table.get_set]
  by_cases same : o = p
  · subst same; simp
  · have other : p ≠ o := fun eq => same eq.symm
    simp [same, other]

/-- Trip entry at the outputs: the lane's valve outputs are AUTO, every other output keeps its state (R151). -/
theorem tripOutputs_keeps (k : LaneIdx) (s : State) (p : OutputIdx) : ((s.tripOutputs k).outputs.get p).config = (s.outputs.get p).config ∧
    ((s.tripOutputs k).outputs.get p).state = if p ∈ s.valvesOf k then .auto else (s.outputs.get p).state := by
  unfold tripOutputs
  generalize s.valvesOf k = l
  induction l generalizing s with
  | nil => exact ⟨rfl, rfl⟩
  | cons o l ih =>
    obtain ⟨c1, s1⟩ := changeOutput_keeps o .auto s p
    obtain ⟨c2, s2⟩ := forcedOffer_keeps o ((s.changeOutput o .auto).outputs.get o).config.trip (s.changeOutput o .auto) p
    obtain ⟨c3, s3⟩ := ih ((s.changeOutput o .auto).forcedOffer o ((s.changeOutput o .auto).outputs.get o).config.trip)
    refine ⟨c3.trans (c2.trans c1), s3.trans ?_⟩
    rw [s2, s1]
    by_cases same : p = o <;> simp [same]

/-- An output is a valve output of a TRIPPED lane (R141). -/
theorem servesTripped_iff (s : State) (c : OutputConfig) :
    s.servesTripped c = true ↔ ∃ k, c.valveLane = some k ∧ (s.lanes.get k).state.regime = .tripped := by
  unfold servesTripped
  cases c.valveLane <;> simp [Lane.isTripped]

end State

/-! ### Overrides -/

theorem overridesSound_depends : DependsOn [.supervision, .outputs, .lanes] State.OverridesSound := by
  intro s t same h
  have supervision : t.supervision = s.supervision := same .supervision (by simp)
  have outputs : t.outputs = s.outputs := same .outputs (by simp)
  have lanes : t.lanes = s.lanes := same .lanes (by simp)
  refine ⟨?_, ?_, ?_⟩
  · rw [supervision, outputs]; exact h.leased
  · simp only [State.servesTripped, outputs, lanes]; exact h.tripped
  · rw [supervision]; exact h.lost

namespace State.OverridesSound

variable {s t : State}

/-- Outputs keep their states or return to AUTO, and no lane newly TRIPPED. -/
theorem follows (h : s.OverridesSound)
    (outputs : ∀ o, (t.outputs.get o).state = .auto ∨
      ((t.outputs.get o).state = (s.outputs.get o).state ∧ (t.outputs.get o).config.valveLane = (s.outputs.get o).config.valveLane))
    (lanes : ∀ k, (t.lanes.get k).state.regime = .tripped → (s.lanes.get k).state.regime = .tripped)
    (leased : t.supervision.countdown = none → s.supervision.countdown = none)
    (lost : t.supervision.lost = true → t.supervision.countdown = none) : t.OverridesSound := by
  refine ⟨fun none o => ?_, fun o serves => ?_, lost⟩
  · obtain auto | ⟨state, -⟩ := outputs o
    · exact auto
    · rw [state]; exact h.leased (leased none) o
  · obtain auto | ⟨state, lane⟩ := outputs o
    · exact auto
    · rw [state]
      refine h.tripped o ?_
      rw [servesTripped_iff] at serves ⊢
      obtain ⟨k, valve, tripped⟩ := serves
      exact ⟨k, lane ▸ valve, lanes k tripped⟩

/-- One output's record moves on with its state, or returns to AUTO. -/
theorem set_output (h : s.OverridesSound) {o : OutputIdx} {out : Output} (outputs : t.outputs = s.outputs.set o out)
    (lanes : t.lanes = s.lanes) (supervision : t.supervision = s.supervision)
    (follows : out.state = .auto ∨ (out.state = (s.outputs.get o).state ∧ out.config.valveLane = (s.outputs.get o).config.valveLane)) :
    t.OverridesSound := by
  refine h.follows (fun p => ?_) (fun k => by rw [lanes]; exact id) (by rw [supervision]; exact id) (by rw [supervision]; exact h.lost)
  rw [outputs, Table.get_set]
  split
  · next same => exact same ▸ follows
  · exact .inr ⟨rfl, rfl⟩

/-- One lane's record moves on without a trip. -/
theorem set_lane (h : s.OverridesSound) {k : LaneIdx} {l : Lane} (lanes : t.lanes = s.lanes.set k l) (outputs : t.outputs = s.outputs)
    (supervision : t.supervision = s.supervision) (regime : l.state.regime = .tripped → (s.lanes.get k).state.regime = .tripped) :
    t.OverridesSound := by
  refine h.follows (fun p => .inr (by rw [outputs]; exact ⟨rfl, rfl⟩)) (fun j => ?_) (by rw [supervision]; exact id)
    (by rw [supervision]; exact h.lost)
  rw [lanes, Table.get_set]
  split
  · next same => exact same ▸ regime
  · exact id

theorem of_auto (h : ∀ o, (s.outputs.get o).state = .auto) (lost : s.supervision.lost = true → s.supervision.countdown = none) :
    s.OverridesSound := ⟨fun _ => h, fun o _ => h o, lost⟩

end State.OverridesSound

theorem State.setLost_supervision (s : State) (b : Bool) : (s.setLevel .supervisionLost b).supervision = { s.supervision with lost := b } := by
  unfold State.setLevel
  split
  · next same => rw [← same]; rfl
  · rfl

theorem LaneState.regime_of_isWorking {l : LaneState} (h : l.isWorking = true) : l.regime ≠ .tripped := ((State.isWorking_iff l).1 h).2

theorem overridesSound_kept : KeptByAll [.tripping] State.OverridesSound where
  closed := by decide
  move {_ _ s _} apart m h := by
    have but := m.but
    cases m with
    | offered o v used =>
      obtain ⟨u, outputs⟩ := State.sendValue_outputs o ((s.outputs.get o).config.limit v) s
      exact h.set_output outputs (but .lanes (by decide)) (but .supervision (by decide)) (.inr ⟨Output.sent_state .., by rw [Output.sent_config]⟩)
    | released o => exact h.set_output rfl rfl rfl (.inl rfl)
    | lane g k l follows trips agrees => exact h.set_lane rfl rfl rfl (trips (by simpa using apart))
    | _ => exact overridesSound_depends.of_but but (by decide) h
  tripLane _ s k cause working h := by
    let u := ((s.capture (.trip k cause)).changeRegime k (.tripped cause)).tripZones k
    have lanes : u.lanes = s.lanes.set k { s.lanes.get k with state := .tripped cause, dwell := 0 } :=
      (State.eachWorking_but k _ _ .lanes (by decide)).trans (State.changeRegime_lanes k _ _)
    have keeps : s.SameBut [.lanes, .zones, .history] u :=
      (((State.capture_but s _).mono (by simp)).trans (State.changeRegime_but k _ _)).trans ((State.eachWorking_but k _ _).mono (by simp))
    have after : (s.tripLane k cause) = u.tripOutputs k := rfl
    have but : u.SameBut [.outputs, .traffic, .raised, .zones, .history] (u.tripOutputs k) := (State.tripOutputs_but k u).mono (by simp +contextual)
    have outputs : u.outputs = s.outputs := keeps .outputs (by decide)
    have supervision : (u.tripOutputs k).supervision = s.supervision := (but .supervision (by decide)).trans (keeps .supervision (by decide))
    rw [after]
    refine ⟨fun none o => ?_, fun o serves => ?_, by rw [supervision]; exact h.lost⟩
    · obtain ⟨-, state⟩ := State.tripOutputs_keeps k u o
      rw [state, outputs, h.leased (supervision ▸ none) o, ite_self]
    · obtain ⟨config, state⟩ := State.tripOutputs_keeps k u o
      obtain ⟨j, valve, tripped⟩ := (State.servesTripped_iff _ _).1 serves
      rw [config, outputs] at valve
      rw [state]
      split
      · rfl
      · next other =>
        have apart : k ≠ j := by
          rintro rfl
          exact other (List.mem_filter.2 ⟨mem_indices o, by rw [outputs]; simp [valve]⟩)
        rw [but .lanes (by decide), lanes, Table.get_set, if_neg apart] at tripped
        rw [outputs]
        exact h.tripped o ((State.servesTripped_iff _ _).2 ⟨j, valve, tripped⟩)
  fire := by simp
  changeStorm := by simp
  event {_ s _} e h := by
    have but := e.but
    cases e with
    | noted o v used within =>
      refine h.set_output (State.noteValue_outputs o v s) (but .lanes (by decide)) (but .supervision (by decide)) (.inr ⟨?_, ?_⟩)
      · exact State.restartResend_state _
      · rw [State.restartResend_config]
    | supervised o leased untripped =>
      have same : ∀ p, (s.setOutput o { s.outputs.get o with state := .supervised }).outputs.get p =
          if o = p then { s.outputs.get o with state := .supervised } else s.outputs.get p := fun p => Table.get_set ..
      refine ⟨fun none => ?_, fun p serves => ?_, h.lost⟩
      · rw [show s.supervision.countdown = .none from none] at leased
        cases leased
      · have serves : s.servesTripped ((s.setOutput o { s.outputs.get o with state := .supervised }).outputs.get p).config = true := serves
        rw [same] at serves ⊢
        split at serves
        · rw [untripped] at serves
          cases serves
        · next other => rw [if_neg other]; exact h.tripped p serves
    | applied k =>
      exact h.set_lane (State.applyPending_lanes k s) (but .outputs (by decide)) (but .supervision (by decide)) (by rw [Lane.taken_state]; exact id)
    | period k _ => exact h.set_lane rfl rfl rfl id
    | offline k _ => exact h.set_lane (State.offline_lanes k s) (but .outputs (by decide)) (but .supervision (by decide)) nofun
    | online k new _ working _ =>
      exact h.set_lane (State.online_lanes k new s) (but .outputs (by decide)) (but .supervision (by decide)) fun tripped =>
        absurd tripped (LaneState.regime_of_isWorking working)
    | staged k p _ => exact h.set_lane rfl rfl rfl id
    | resent o running =>
      unfold State.resend at but ⊢
      dsimp only at but ⊢
      split
      · obtain ⟨u, outputs⟩ := State.sendValue_outputs o _ s
        exact h.set_output outputs (State.sendValue_but o _ s .lanes (by decide)) (State.sendValue_but o _ s .supervision (by decide))
          (.inr ⟨Output.sent_state .., by rw [Output.sent_config]⟩)
      · exact h.set_output rfl rfl rfl (.inr ⟨rfl, rfl⟩)
      · exact h.set_output rfl rfl rfl (.inr ⟨State.restartResend_state _, by rw [State.restartResend_config]⟩)
    | leased n =>
      have supervision := State.setLost_supervision (s.withSupervision { s.supervision with countdown := some n }) false
      refine h.follows (fun o => .inr ?_) (fun k => ?_) ?_ ?_
      · rw [but .outputs (by decide)]; exact ⟨rfl, rfl⟩
      · rw [but .lanes (by decide)]; exact id
      · rw [supervision]; nofun
      · rw [supervision]; nofun
    | unleased released =>
      have supervision := State.setLost_supervision (s.withSupervision { s.supervision with countdown := none }) true
      refine .of_auto (fun o => ?_) ?_
      · rw [but .outputs (by decide)]; exact released o
      · rw [supervision]; exact fun _ => rfl
    | outputWritten o c sound suits =>
      obtain ⟨u, outputs⟩ := State.writeOutput_outputs o c s
      have lanes : (s.writeOutput o c).lanes = s.lanes := but .lanes (by decide)
      have supervision : (s.writeOutput o c).supervision = s.supervision := but .supervision (by decide)
      have record := Output.rewritten_state (s.outputs.get o) c (decide ((s.outputs.get o).config.owner ≠ c.owner) && s.servesTripped c) u
      refine ⟨fun none p => ?_, fun p serves => ?_, by rw [supervision]; exact h.lost⟩
      · rw [outputs, Table.get_set]
        split
        · rw [record, h.leased (supervision ▸ none) o, ite_self]
        · exact h.leased (supervision ▸ none) p
      · rw [outputs, Table.get_set] at serves ⊢
        have agrees : ∀ d, (s.writeOutput o c).servesTripped d = s.servesTripped d := fun d => by simp only [State.servesTripped, lanes]
        rw [agrees] at serves
        split at serves
        · next same =>
          rw [if_pos same, record]
          rw [Output.rewritten_config] at serves
          split
          · rfl
          · next stays =>
            obtain ⟨still, unreleased⟩ := not_or.1 stays
            obtain ⟨-, kindStays⟩ := not_or.1 (not_or.1 still).2
            refine h.tripped o ?_
            have owner : (s.outputs.get o).config.owner = c.owner := by simpa [serves] using unreleased
            have valve : (s.outputs.get o).config.valveLane = c.valveLane := by
              simp only [OutputConfig.valveLane, owner, not_not.1 kindStays]
            rw [State.servesTripped_iff] at serves ⊢
            rwa [valve]
        · next other => rw [if_neg other]; exact h.tripped p serves
    | restarted => exact .of_auto (fun o => by
        have outputs : s.restartRingAndOutputs.restartBlocks.outputs = Table.build fun o => (s.outputs.get o).restart (s.ring.hasCommand o) := rfl
        rw [outputs, Table.get_build]; rfl) nofun
    | _ => exact overridesSound_depends.of_but but (by decide) h
  received s _ _ h := overridesSound_depends s _ (by simp [Part.same, State.withReceived]) h
  carried s _ _ _ h := overridesSound_depends s _ (by simp [Part.same]) h
  resetAssert s h := overridesSound_depends s _ (by simp [Part.same, State.assertReset]) h
  startFrom s _ image _ _ _ h := .of_auto (fun o => congrArg Output.state (Table.get_map ..)) nofun
  startDefault s _ _ h := .of_auto (fun o => congrArg Output.state (Table.get_map ..)) nofun
  bypassEnd s _ _ h := by
    refine h.follows (fun o => .inr ⟨rfl, rfl⟩) (fun k => ?_) id h.lost
    have lanes : s.startReceiving.lanes = s.lanes.map Lane.startTimer := rfl
    rw [lanes, Table.get_map]
    exact id
  tick s h := by
    unfold State.tick
    split
    · exact h
    · exact overridesSound_depends s _ (by simp [Part.same, State.tickCount]) h
    · refine h.follows (fun o => .inr ?_) (fun k => ?_) ?_ ?_
      · have outputs : s.tickCount.tickTimers.outputs = s.outputs.map fun o => { o with resendTimer := countDown o.resendTimer } := rfl
        rw [outputs, Table.get_map]
        exact ⟨rfl, rfl⟩
      · have lanes : s.tickCount.tickTimers.lanes = s.lanes.map fun l => { l with timer := countDown l.timer, state := l.state.tick } := rfl
        rw [lanes, Table.get_map]
        simp only [LaneState.tick_regime]
        exact id
      · simp [State.tickTimers, State.tickCount, countDown]
      · intro lost
        simpa [State.tickTimers, State.tickCount, countDown] using h.lost lost
  pending s _ h := overridesSound_depends s _ (by simp [Part.same]) h

/-- Settles O58: every move but those inside a storm's change and a trip keeps the agreement, and those two keep it as a whole. -/
theorem stepsKeepStormAndOverridesSound : Obligations.StepsKeepStormAndOverridesSound :=
  fun _ _ next => ⟨fun h => stormSound_kept.step h next, fun h => overridesSound_kept.step h next⟩

end Sys2Proof.Machine
end

section
/-! At most one blower is in transition, stop-pending follows the in-service field (R119, R120), and the timers that must run keep running
(R15, R57, R104, R128, R188). -/
namespace Sys2Proof.Machine

/-! ### Blowers -/

theorem blowersSound_depends : DependsOn [.blowers] State.BlowersSound := by
  intro s t same h
  have blowers : t.blowers = s.blowers := same .blowers (by simp)
  exact ⟨by rw [blowers]; exact h.one, by rw [blowers]; exact h.pending⟩

namespace State.BlowersSound

variable {s t : State}

/-- One blower's record moves on: into transition only alone, and RUNNING with the stop-pending mark of its configuration. -/
theorem set_blower (h : s.BlowersSound) {b : BlowerIdx} {r : Blower} (blowers : t.blowers = s.blowers.set b r)
    (one : r.state.inTransition = true → (s.blowers.get b).state.inTransition = true ∨ ∀ c, (s.blowers.get c).state.inTransition = false)
    (pending : ∀ p, r.state = .running p → p = !r.config.inService) : t.BlowersSound := by
  have alone : ∀ c, c ≠ b → r.state.inTransition = true → (s.blowers.get c).state.inTransition = true → False := fun c other moves mine => by
    obtain before | calm := one moves
    · exact other (h.one c b mine before)
    · rw [calm c] at mine; cases mine
  refine ⟨fun c d mc md => ?_, fun c p running => ?_⟩
  · rw [blowers, Table.get_set] at mc md
    split at mc <;> split at md
    · next hc hd => exact hc.symm.trans hd
    · next hc hd => exact (alone d (fun eq => hd eq.symm) mc md).elim
    · next hc hd => exact (alone c (fun eq => hc eq.symm) md mc).elim
    · exact h.one c d mc md
  · rw [blowers, Table.get_set] at running ⊢
    split at running
    · next same => rw [if_pos same]; exact pending p running
    · next other => rw [if_neg other]; exact h.pending c p running

theorem of_unknown (h : ∀ b : BlowerIdx, (s.blowers.get b).state = .unknown) : s.BlowersSound :=
  ⟨fun b _ moves _ => (by rw [h b] at moves; cases moves), fun b _ state => (by rw [h b] at state; cases state)⟩

end State.BlowersSound

theorem BlowerState.tick_inTransition (b : BlowerState) : b.tick.inTransition = b.inTransition := by cases b <;> rfl

theorem BlowerState.marked_inTransition (b : BlowerState) (c : BlowerConfig) : (b.marked c).inTransition = b.inTransition := by
  cases b <;> rfl

theorem BlowerState.marked_running {b : BlowerState} {c : BlowerConfig} {p : Bool} (h : b.marked c = .running p) : p = !c.inService := by
  cases b <;> simp_all [BlowerState.marked]

theorem BlowerState.tick_running {b : BlowerState} {p : Bool} (h : b.tick = .running p) : b = .running p := by
  cases b <;> simp_all [BlowerState.tick]

theorem blowersSound_kept : KeptByAll [] State.BlowersSound where
  closed := by decide
  move {_ _ s _} _ m h := by
    have but := m.but
    cases m with
    | blower b new follows => exact h.set_blower rfl follows.one follows.pending
    | _ => exact blowersSound_depends.of_but but (by decide) h
  tripLane := by simp
  fire := by simp
  changeStorm := by simp
  event {_ s _} e h := by
    have but := e.but
    cases e with
    | blowerWritten b c sound suits =>
      refine h.set_blower rfl (fun moves => .inl ?_) fun p state => BlowerState.marked_running state
      rwa [← BlowerState.marked_inTransition _ c]
    | _ => exact blowersSound_depends.of_but but (by decide) h
  received s _ _ h := ⟨h.one, h.pending⟩
  carried s _ _ _ h := ⟨h.one, h.pending⟩
  resetAssert s h := ⟨h.one, h.pending⟩
  startFrom s _ image _ _ _ h := .of_unknown fun b => congrArg Blower.state (Table.get_map ..)
  startDefault s _ _ h := .of_unknown fun b => congrArg Blower.state (Table.get_map ..)
  bypassEnd s _ _ h := ⟨h.one, h.pending⟩
  tick s h := by
    unfold State.tick
    split
    · exact h
    · exact ⟨h.one, h.pending⟩
    · have blowers : ∀ b, s.tickCount.tickTimers.blowers.get b = { s.blowers.get b with state := (s.blowers.get b).state.tick } := fun b => Table.get_map ..
      refine ⟨fun b c => ?_, fun b p running => ?_⟩
      · rw [blowers, blowers]
        simp only [BlowerState.tick_inTransition]
        exact h.one b c
      · rw [blowers] at running ⊢
        exact h.pending b p (BlowerState.tick_running running)
  pending s _ h := ⟨h.one, h.pending⟩

/-! ### Timers -/

theorem timersSound_depends : DependsOn [.power, .allocator, .returns, .lanes, .silence, .silent, .management] State.TimersSound := by
  intro s t same h
  have power : t.power = s.power := same .power (by simp)
  have allocator : t.allocator = s.allocator := same .allocator (by simp)
  have returns : t.returns = s.returns := same .returns (by simp)
  have lanes : t.lanes = s.lanes := same .lanes (by simp)
  have silence : t.ring.silence = s.ring.silence := same .silence (by simp)
  have silent : t.ring.silent = s.ring.silent := same .silent (by simp)
  have management : t.management = s.management := same .management (by simp)
  obtain ⟨allocation, pacing, each, quiet, bypass, commit⟩ := h
  constructor <;> simp only [power, allocator, returns, lanes, silence, silent, management] <;> assumption

namespace State.TimersSound

variable {s t : State}

/-- One lane's record moves on, its timer running just as it is outside OFFLINE. -/
theorem set_lane (h : s.TimersSound) {k : LaneIdx} {l : Lane} {c : List Part} (but : s.SameBut c t)
    (apart : ∀ p ∈ [Part.power, .allocator, .returns, .silence, .silent, .management], p ∉ c) (lanes : t.lanes = s.lanes.set k l)
    (runs : ((s.lanes.get k).timer.isSome = true ↔ (s.lanes.get k).state.regime ≠ .offline) →
      (l.timer.isSome = true ↔ l.state.regime ≠ .offline)) : t.TimersSound := by
  have power : t.power = s.power := but .power (apart _ (by simp))
  have allocator : t.allocator = s.allocator := but .allocator (apart _ (by simp))
  have returns : t.returns = s.returns := but .returns (apart _ (by simp))
  have silence : t.ring.silence = s.ring.silence := but .silence (apart _ (by simp))
  have silent : t.ring.silent = s.ring.silent := but .silent (apart _ (by simp))
  have management : t.management = s.management := but .management (apart _ (by simp))
  obtain ⟨allocation, pacing, each, quiet, bypass, commit⟩ := h
  constructor <;> simp only [power, allocator, returns, silence, silent, management] <;> try assumption
  intro running j
  rw [lanes, Table.get_set]
  split
  · exact runs (each running k)
  · exact each running j

theorem set_return (h : s.TimersSound) {r : LineIdx} {l : ReturnLine}
    (timer : (s.returns.get r).timer.isSome = true → l.timer.isSome = true) : (s.setReturn r l).TimersSound := by
  refine ⟨h.allocation, fun running q => ?_, h.lanes, h.silence, h.bypass, h.commit⟩
  have get : (s.setReturn r l).returns.get q = if r = q then l else s.returns.get q := Table.get_set ..
  rw [get]
  split
  · exact timer (h.pacing running r)
  · exact h.pacing running q

/-- The ring-silence timer and RING_SILENT move on, the timer running just while the condition is inactive (R15). -/
theorem hears (h : s.TimersSound) {c : List Part} (but : s.SameBut c t)
    (apart : ∀ p ∈ [Part.power, .allocator, .returns, .lanes, .management], p ∉ c) (silence : t.ring.silence.isSome = !t.ring.silent)
    (bypass : s.power = .bypass → t.ring.silent = false) : t.TimersSound := by
  have power : t.power = s.power := but .power (apart _ (by simp))
  have allocator : t.allocator = s.allocator := but .allocator (apart _ (by simp))
  have returns : t.returns = s.returns := but .returns (apart _ (by simp))
  have lanes : t.lanes = s.lanes := but .lanes (apart _ (by simp))
  have management : t.management = s.management := but .management (apart _ (by simp))
  refine ⟨?_, ?_, ?_, fun _ => silence, power ▸ bypass, ?_⟩
  · rw [power, allocator]; exact h.allocation
  · rw [power, returns]; exact h.pacing
  · rw [power, lanes]; exact h.lanes
  · rw [power, management]; exact h.commit

/-- A part that does not run, outside bypass or with RING_SILENT inactive, with no commit in flight. -/
theorem of_stopped (power : s.power ≠ .running) (silent : s.ring.silent = false) (commit : s.management.commit = none) : s.TimersSound :=
  ⟨fun on => absurd on power, fun on => absurd on power, fun on => absurd on power, fun on => absurd on power, fun _ => silent,
    fun flight => by rw [commit] at flight; cases flight⟩

end State.TimersSound

theorem ReturnLine.rewrite_timer (l : ReturnLine) (c : ReturnConfig) : (l.rewrite c).timer = l.timer := by
  unfold ReturnLine.rewrite
  split <;> rfl

theorem State.setSilent_ring (s : State) (b : Bool) : (s.setLevel .ringSilent b).ring = { s.ring with silent := b } := by
  unfold State.setLevel
  split
  · next same => rw [← same]; rfl
  · rfl

/-- A lane's timer starts outside OFFLINE alone (R57). -/
theorem Lane.startTimer_runs (l : Lane) : l.startTimer.timer.isSome = true ↔ l.startTimer.state.regime ≠ .offline := by
  unfold Lane.startTimer
  dsimp only
  cases l.state <;> simp [LaneState.regime]

theorem countDown_isSome (t : Option Nat) : (countDown t).isSome = t.isSome := by cases t <;> rfl

theorem timersSound_kept : KeptByAll [] State.TimersSound where
  closed := by decide
  move {_ _ s _} _ m h := by
    have but := m.but
    cases m with
    | allocator a config timer =>
      exact ⟨fun running => timer (h.allocation running), h.pacing, h.lanes, h.silence, h.bypass, h.commit⟩
    | lane g k l follows trips agrees =>
      refine h.set_lane but (by decide) rfl fun old => ?_
      rw [follows.timer, Ne, follows.offline]
      exact old
    | _ => exact timersSound_depends.of_but but (by decide) h
  tripLane := by simp
  fire := by simp
  changeStorm := by simp
  event {_ s _} e h := by
    have but := e.but
    cases e with
    | heard =>
      refine h.hears but (by decide) ?_ fun _ => ?_ <;> rw [State.setSilent_ring]
      rfl
    | silence running =>
      refine h.hears but (by decide) ?_ fun bypass => ?_ <;> rw [State.silenceExpires, State.setSilent_ring]
      · rfl
      · rw [running] at bypass; cases bypass
    | applied k =>
      refine h.set_lane but (by decide) (State.applyPending_lanes k s) fun old => ?_
      rw [Lane.taken_timer, Lane.taken_state]
      exact old
    | period k online =>
      refine h.set_lane but (by decide) rfl fun old => ?_
      exact ⟨fun _ => old.1 online, fun _ => rfl⟩
    | offline k working => exact h.set_lane but (by decide) (State.offline_lanes k s) fun _ => ⟨nofun, fun on => absurd rfl on⟩
    | online k new offline working _ =>
      exact h.set_lane but (by decide) (State.online_lanes k new s) fun _ => ⟨fun _ => ((State.isWorking_iff new).1 working).1, fun _ => rfl⟩
    | staged k p _ => exact h.set_lane but (by decide) rfl id
    | paced r l config timer sound => exact h.set_return fun _ => timer
    | managed m commit images =>
      refine ⟨h.allocation, h.pacing, h.lanes, h.silence, h.bypass, fun flight => ?_⟩
      obtain ⟨c, held⟩ := Option.isSome_iff_exists.1 flight
      obtain before | ⟨running, -⟩ := commit c held
      · exact h.commit (by rw [before]; rfl)
      · exact running
    | returnWritten r c _ => exact h.set_return fun timer => by rw [ReturnLine.rewrite_timer]; exact timer
    | allocatorWritten c _ => exact ⟨h.allocation, h.pacing, h.lanes, h.silence, h.bypass, h.commit⟩
    | restarted =>
      have power : s.restartRingAndOutputs.restartBlocks.power = s.power := but .power (by decide)
      have silence : s.restartRingAndOutputs.restartBlocks.ring.silence = s.ring.silence := but .silence (by decide)
      have silent : s.restartRingAndOutputs.restartBlocks.ring.silent = s.ring.silent := but .silent (by decide)
      have management : s.restartRingAndOutputs.restartBlocks.management = s.management := but .management (by decide)
      refine ⟨fun _ => rfl, fun _ r => ?_, fun _ k => ?_, by rw [power, silence, silent]; exact h.silence,
        by rw [power, silent]; exact h.bypass, by rw [power, management]; exact h.commit⟩
      · have returns : s.restartRingAndOutputs.restartBlocks.returns = s.returns.map fun r => (ReturnLine.fresh r.config).startTimer := rfl
        rw [returns, Table.get_map]
        rfl
      · have lanes : s.restartRingAndOutputs.restartBlocks.lanes = s.lanes.map Lane.restart := rfl
        rw [lanes, Table.get_map]
        exact Lane.startTimer_runs _
    | _ => exact timersSound_depends.of_but but (by decide) h
  received s _ _ h := ⟨h.allocation, h.pacing, h.lanes, h.silence, h.bypass, h.commit⟩
  carried s _ _ _ h := ⟨h.allocation, h.pacing, h.lanes, h.silence, h.bypass, h.commit⟩
  resetAssert s h := ⟨nofun, nofun, nofun, nofun, nofun, fun flight => by
    rw [show s.assertReset.management.commit = none from KeptByCommands.abandon_commit _] at flight; cases flight⟩
  startFrom s _ image _ _ _ h := .of_stopped nofun rfl rfl
  startDefault s _ _ h := .of_stopped nofun rfl rfl
  bypassEnd s bypass _ h := by
    refine ⟨fun _ => rfl, fun _ r => ?_, fun _ k => ?_, fun _ => ?_, nofun, fun _ => rfl⟩
    · have returns : s.startReceiving.returns = s.returns.map ReturnLine.startTimer := rfl
      rw [returns, Table.get_map]
      rfl
    · have lanes : s.startReceiving.lanes = s.lanes.map Lane.startTimer := rfl
      rw [lanes, Table.get_map]
      exact Lane.startTimer_runs _
    · show true = !s.ring.silent
      rw [h.bypass bypass]
      rfl
  tick s h := by
    unfold State.tick
    split
    · exact h
    · exact ⟨h.allocation, h.pacing, h.lanes, h.silence, h.bypass, h.commit⟩
    · have returns : ∀ r, s.tickCount.tickTimers.returns.get r = { s.returns.get r with timer := countDown (s.returns.get r).timer } :=
        fun r => Table.get_map ..
      have lanes : ∀ k, s.tickCount.tickTimers.lanes.get k =
          { s.lanes.get k with timer := countDown (s.lanes.get k).timer, state := (s.lanes.get k).state.tick } := fun k => Table.get_map ..
      refine ⟨fun running => ?_, fun running r => ?_, fun running k => ?_, fun running => ?_, h.bypass, h.commit⟩
      · exact (countDown_isSome _).trans (h.allocation running)
      · rw [returns, countDown_isSome]
        exact h.pacing running r
      · rw [lanes, countDown_isSome, LaneState.tick_regime]
        exact h.lanes running k
      · exact (countDown_isSome _).trans (h.silence running)
  pending s _ h := ⟨h.allocation, h.pacing, h.lanes, h.silence, h.bypass, h.commit⟩

/-- Settles O60: every move, event, reset and tick keeps the timers running that must run. -/
theorem stepsKeepTimersSound : Obligations.StepsKeepTimersSound := fun _ _ next h => timersSound_kept.step h next

end Sys2Proof.Machine
end

section
/-! Every watch agrees with its enable, its stage link and its persistence (R156 to R164). -/
namespace Sys2Proof.Machine

namespace State

variable {s t : State}

/-! ### The watches after a firing and after a rearm -/

theorem actNotice_but (w : WatchIdx) (c : WatchConfig) (value : Int) (s : State) : s.SameBut [.traffic, .raised] (s.actNotice w c value) := by
  unfold actNotice sendNotice
  dsimp only
  split
  · split
    · exact .refl _ s
    · exact send_but s _ _
  · exact .refl _ s

theorem actTrip_but (w : WatchIdx) (c : WatchConfig) (s : State) : s.SameBut tripParts (s.actTrip w c) := by
  unfold actTrip
  split
  · exact tripRequest_but _ w s
  · exact .refl _ s

theorem actFreeze_but (c : WatchConfig) (s : State) : s.SameBut [.history] (s.actFreeze c) := by
  unfold actFreeze
  split
  · exact withHistory_but s _
  · exact .refl _ s

theorem actWakeAndFreeze_watches (w : WatchIdx) (c : WatchConfig) (s : State) :
    (s.actWakeAndFreeze w c).watches = s.watches.map (·.armBy w) := by
  have armed : ∀ u : State, ((u.armLinked w).actFreeze c).watches = u.watches.map (·.armBy w) := fun u =>
    actFreeze_but c (u.armLinked w) .watches (by decide)
  unfold actWakeAndFreeze
  split
  · extract_lets woken pick
    have regime : woken.watches = s.watches := changeRegime_but _ _ s .watches (by decide)
    have picked : pick.2.watches = s.watches := by
      simp only [pick]
      split
      · exact (choose_but woken 2 .watches (by decide)).trans regime
      · exact regime
    split
    · rw [armed, allocate_but pick.2 .watches (by decide), picked]
    · rw [allocate_but _ .watches (by decide), armed, picked]
  · exact armed s

theorem fire_watches (w : WatchIdx) (value : Int) (s : State) : (s.fire w value).watches =
    (s.watches.set w { s.watches.get w with
      state := .fired (s.watches.get w).config.holdTimer, occurrence := true }).map (·.armBy w) := by
  unfold fire
  extract_lets old c marked captured
  rw [actWakeAndFreeze_watches, actTrip_but w c _ .watches (by decide), actNotice_but w c value captured .watches (by decide)]
  rfl

theorem rearm_watches (w : WatchIdx) (x : Watch) (s : State) : (s.rearm w x).watches =
    (s.watches.set w { x with state := if s.stageFired x.config then .armed else .waiting }).map (·.disarmBy w) := rfl

/-! ### What a watch agrees with -/

theorem stageFired_iff (s : State) (c : WatchConfig) : s.stageFired c = true ↔ ∀ j, c.stage = some j → (s.watches.get j).state.isFired = true := by
  unfold stageFired isFired
  cases c.stage <;> simp

theorem stageFired_congr (h : ∀ j, (t.watches.get j).state.isFired = (s.watches.get j).state.isFired) (c : WatchConfig) :
    t.stageFired c = s.stageFired c := by
  unfold stageFired isFired
  cases c.stage with
  | none => rfl
  | some j => exact h j

end State

theorem Watch.armBy_isFired (x : Watch) (w : WatchIdx) : (x.armBy w).state.isFired = x.state.isFired := by
  unfold armBy
  split
  · next waits => rw [waits.2]; rfl
  · rfl

theorem Watch.disarmBy_isFired (x : Watch) (w : WatchIdx) : (x.disarmBy w).state.isFired = x.state.isFired := by
  unfold disarmBy
  split
  · next armed => rw [armed.2]; rfl
  · rfl

theorem State.restartWatch_congr {s t : State} (h : t.watches = s.watches) : t.restartWatch = s.restartWatch := by
  funext x
  have fired : ∀ c, t.stageFired c = s.stageFired c := State.stageFired_congr fun j => by rw [h]
  simp only [State.restartWatch, fired]

theorem State.restart_watches (s : State) : s.restartRingAndOutputs.restartBlocks.watches = s.watches.map s.restartWatch := by
  unfold State.restartBlocks
  extract_lets lanes s1 s2 s3 s4 s5 s6
  have ring : s.restartRingAndOutputs.watches = s.watches := s.restartRingAndOutputs_but .watches (by decide)
  have kept : s6.watches = s.watches := by simp only [s6, s5, s4, s3, s2, s1, State.withReturns_watches, State.withAllocator_watches,
    State.withZones_watches, State.withPlant_watches, State.withLanes_watches, State.withPoints_watches, State.withRoutes_watches, ring]
  rw [State.withWatches_watches, State.restartWatch_congr kept, kept]

/-- Every watch of a state is sound. -/
abbrev State.EachWatchSound (s : State) : Prop := ∀ w, s.WatchSound (s.watches.get w)

theorem eachWatchSound_depends : DependsOn [.watches] State.EachWatchSound := by
  intro s t same h w
  have watches : t.watches = s.watches := same .watches (by simp)
  have fired : ∀ c, t.stageFired c = s.stageFired c := State.stageFired_congr fun j => by rw [watches]
  simp only [State.WatchSound, watches, fired]
  exact h w

namespace State.EachWatchSound

variable {s t : State}

/-- Every watch's record moves on while the same watches are FIRED. -/
theorem of_each {y : WatchIdx → Watch} (watches : ∀ w, t.watches.get w = y w)
    (fired : ∀ w, (y w).state.isFired = (s.watches.get w).state.isFired) (sound : ∀ w, s.WatchSound (y w)) : t.EachWatchSound := by
  have same : ∀ c, t.stageFired c = s.stageFired c := stageFired_congr fun j => by rw [watches, fired]
  intro w
  simp only [State.WatchSound, same]
  rw [watches]
  exact sound w

/-- One watch's record moves on while the same watches are FIRED. -/
theorem set_watch (h : s.EachWatchSound) {w : WatchIdx} {x : Watch} (watches : t.watches = s.watches.set w x)
    (fired : x.state.isFired = (s.watches.get w).state.isFired) (sound : s.WatchSound x) : t.EachWatchSound := by
  refine of_each (s := s) (y := fun v => if w = v then x else s.watches.get v) (fun v => by rw [watches, Table.get_set]) (fun v => ?_) fun v => ?_
  · split
    · next eq => rw [← eq]; exact fired
    · rfl
  · split
    · exact sound
    · exact h v

/-- A watch that fires, with the watches linked to it (R164, R165). -/
theorem fire (h : s.EachWatchSound) {w : WatchIdx} (armed : (s.watches.get w).state = .armed) (value : Int) :
    (s.fire w value).EachWatchSound := by
  have get : ∀ v, (s.fire w value).watches.get v = if w = v then
      { s.watches.get w with state := .fired (s.watches.get w).config.holdTimer, occurrence := true } else (s.watches.get v).armBy w := by
    intro v
    rw [fire_watches, Table.get_map, Table.get_set]
    split
    · unfold Watch.armBy
      rw [if_neg (by simp)]
    · rfl
  have firedBy : ∀ j, ((s.fire w value).watches.get j).state.isFired = true ↔ w = j ∨ (s.watches.get j).state.isFired = true := by
    intro j
    rw [get]
    split
    · next same => simp [same, WatchState.isFired]
    · next other => simp [other, Watch.armBy_isFired]
  have stage : ∀ c, (s.fire w value).stageFired c = true ↔ ∀ j, c.stage = some j → w = j ∨ (s.watches.get j).state.isFired = true := by
    intro c
    simp only [stageFired_iff, firedBy]
  intro v
  obtain ⟨off, waits, arms, count, hold⟩ := h v
  simp only [State.WatchSound, ← Bool.not_eq_true (State.stageFired ..)] at off waits arms count hold ⊢
  simp only [stage, stageFired_iff] at waits arms ⊢
  rw [get]
  split
  · next same =>
    subst same
    refine ⟨?_, nofun, nofun, count, ?_⟩
    · rw [armed] at off
      exact ⟨nofun, fun disabled => nomatch off.2 disabled⟩
    · dsimp only [WatchState.hold?, WatchConfig.holdTimer]
      split
      · next auto => exact fun _ => auto
      · nofun
  · next other =>
    unfold Watch.armBy
    split
    · next linked =>
      obtain ⟨link, waiting⟩ := linked
      rw [waiting] at off
      refine ⟨⟨nofun, fun disabled => nomatch off.2 disabled⟩, nofun, fun _ j named => .inl ?_, le_rfl, nofun⟩
      exact Option.some.inj (link.symm.trans named)
    · next unlinked =>
      refine ⟨off, fun waiting all => ?_, fun isArmed j named => .inr (arms isArmed j named), count, hold⟩
      refine waits waiting fun j named => (all j named).resolve_left ?_
      rintro rfl
      exact unlinked ⟨named, waiting⟩

/-- A watch that leaves FIRED, with the watches linked to it (R164, R169, R170). -/
theorem rearm (h : s.EachWatchSound) {w : WatchIdx} {x : Watch} (fired : (s.watches.get w).state.isFired = true)
    (config : x.config = (s.watches.get w).config) (bound : x.count ≤ (s.watches.get w).count ∨ x.count ≤ x.config.persistence - 1) :
    (s.rearm w x).EachWatchSound := by
  let y : Watch := { x with state := if s.stageFired x.config then .armed else .waiting }
  have unfired : (y.disarmBy w).state.isFired = false := by
    rw [Watch.disarmBy_isFired]
    simp only [y]
    split <;> rfl
  have get : ∀ v, (s.rearm w x).watches.get v = if w = v then y.disarmBy w else (s.watches.get v).disarmBy w := by
    intro v
    rw [rearm_watches, Table.get_map, Table.get_set, apply_ite (Watch.disarmBy · w)]
  have firedBy : ∀ j, ((s.rearm w x).watches.get j).state.isFired = true ↔ w ≠ j ∧ (s.watches.get j).state.isFired = true := by
    intro j
    rw [get]
    split
    · next same => simp [← same, unfired]
    · next other => simp [other, Watch.disarmBy_isFired]
  have stage : ∀ c, (s.rearm w x).stageFired c = true ↔ ∀ j, c.stage = some j → w ≠ j ∧ (s.watches.get j).state.isFired = true := by
    intro c
    simp only [stageFired_iff, firedBy]
  have enabled : (s.watches.get w).config.enable = true := by
    obtain ⟨off, -⟩ := h w
    cases enable : (s.watches.get w).config.enable with
    | true => rfl
    | false => rw [off.2 enable] at fired; cases fired
  intro v
  obtain ⟨off, waits, arms, count, hold⟩ := h v
  simp only [State.WatchSound, ← Bool.not_eq_true (State.stageFired ..)] at off waits arms count hold ⊢
  simp only [stage, stageFired_iff] at waits arms ⊢
  rw [get]
  split
  · next same =>
    subst same
    have within : x.count ≤ x.config.persistence - 1 := bound.elim (fun le => config ▸ le.trans count) id
    unfold Watch.disarmBy
    split
    · next linked =>
      exact ⟨⟨nofun, fun disabled => by rw [show x.config.enable = true from config ▸ enabled] at disabled; cases disabled⟩,
        fun _ all => (all w linked.1).1 rfl, nofun, le_rfl, nofun⟩
    · next unlinked =>
      have on : x.config.enable = true := config ▸ enabled
      by_cases stageFired : s.stageFired x.config = true
      · have state : y.state = .armed := if_pos stageFired
        rw [state]
        refine ⟨⟨nofun, fun disabled => by rw [show x.config.enable = true from on] at disabled; cases disabled⟩, nofun, fun _ j named => ⟨?_, ?_⟩, within, nofun⟩
        · rintro rfl
          exact unlinked ⟨named, state⟩
        · exact (stageFired_iff s x.config).1 stageFired j named
      · have state : y.state = .waiting := if_neg stageFired
        rw [state]
        refine ⟨⟨nofun, fun disabled => by rw [show x.config.enable = true from on] at disabled; cases disabled⟩, fun _ all => ?_, nofun, within, nofun⟩
        exact stageFired ((stageFired_iff s x.config).2 fun j named => (all j named).2)
  · next other =>
    unfold Watch.disarmBy
    split
    · next linked =>
      obtain ⟨link, isArmed⟩ := linked
      rw [isArmed] at off
      exact ⟨⟨nofun, fun disabled => nomatch off.2 disabled⟩, fun _ all => (all w link).1 rfl, nofun, le_rfl, nofun⟩
    · next unlinked =>
      refine ⟨off, fun waiting all => waits waiting fun j named => (all j named).2, fun isArmed j named => ⟨?_, arms isArmed j named⟩, count, hold⟩
      rintro rfl
      exact unlinked ⟨named, isArmed⟩

end State.EachWatchSound

theorem WatchConfig.rest_isFired (c : WatchConfig) (b : Bool) : (c.rest b).isFired = false := by
  unfold rest
  split
  · split
    · rfl
    · split <;> rfl
  · rfl

/-- A watch at rest is sound with any count below its persistence (R157, R173, R174). -/
theorem State.watchSound_rest (s : State) (x : Watch) (state : x.state = x.config.rest (s.stageFired x.config))
    (count : x.count ≤ x.config.persistence - 1) : s.WatchSound x := by
  unfold WatchConfig.rest at state
  split at state
  · next enabled =>
    split at state
    · next alone =>
      have fired : s.stageFired x.config = true := by simp [stageFired, alone]
      exact ⟨by simp [state, enabled], by simp [state], fun _ => fired, count, by simp [state, WatchState.hold?]⟩
    · split at state
      · next fired => exact ⟨by simp [state, enabled], by simp [state], fun _ => fired, count, by simp [state, WatchState.hold?]⟩
      · next unfired =>
        exact ⟨by simp [state, enabled], fun _ => by simpa using unfired, by simp [state], count, by simp [state, WatchState.hold?]⟩
  · next disabled => exact ⟨by simpa [state] using disabled, by simp [state], by simp [state], count, by simp [state, WatchState.hold?]⟩

/-- After a full reset no watch is FIRED, and each is at rest (R173). -/
theorem State.EachWatchSound.anew {s : State} {c : WatchIdx → WatchConfig} (fresh : ∀ w, s.watches.get w = Watch.fresh (c w)) :
    s.EachWatchSound := by
  have unfired : ∀ j, (s.watches.get j).state.isFired = false := fun j => by
    rw [fresh]
    exact WatchConfig.rest_isFired _ _
  intro w
  refine s.watchSound_rest _ ?_ (by rw [fresh]; exact le_rfl)
  rw [fresh]
  show (c w).rest false = (c w).rest (s.stageFired (c w))
  cases stage : (c w).stage with
  | none => simp [WatchConfig.rest, stage]
  | some j => rw [show s.stageFired (c w) = false by simp [State.stageFired, stage, State.isFired, unfired]]

theorem eachWatchSound_kept : KeptByAll [.firing] State.EachWatchSound where
  closed := by decide
  move {_ _ s _} apart m h := by
    have but := m.but
    cases m with
    | counted w x config state count =>
      obtain ⟨off, waits, arms, bound, hold⟩ := h w
      refine h.set_watch rfl (by rw [state]) ?_
      simp only [State.WatchSound, config, state] at count ⊢
      exact ⟨off, waits, arms, count.elim (·.trans bound) id, hold⟩
    | fired ws config => simp at apart
    | _ => exact eachWatchSound_depends.of_but but (by decide) h
  tripLane := by simp
  fire _ s w value armed h := h.fire armed value
  changeStorm := by simp
  event {_ s _} e h := by
    have but := e.but
    cases e with
    | rearmed w x fired config count => exact h.rearm fired config count
    | watchWritten w c sound unfired =>
      refine h.set_watch rfl ?_ (s.watchSound_rest _ rfl le_rfl)
      rw [unfired]
      exact WatchConfig.rest_isFired _ _
    | restarted =>
      refine .of_each (s := s) (y := fun w => s.restartWatch (s.watches.get w)) (fun w => by rw [State.restart_watches, Table.get_map]) (fun w => ?_) fun w => ?_
      all_goals
        unfold State.restartWatch
        split
      · rfl
      · next unfired => exact (WatchConfig.rest_isFired _ _).trans (Bool.eq_false_of_not_eq_true unfired).symm
      · exact h w
      · exact s.watchSound_rest _ rfl le_rfl
    | _ => exact eachWatchSound_depends.of_but but (by decide) h
  received s _ _ h := h
  carried s _ _ _ h := h
  resetAssert s h := h
  startFrom s _ image _ _ _ h := .anew (c := fun w => image.settings.watches.get w) fun w => Table.get_map ..
  startDefault s _ _ h := .anew (c := fun w => Settings.default.watches.get w) fun w => Table.get_map ..
  bypassEnd s _ _ h := h
  tick s h := by
    unfold State.tick
    split
    · exact h
    · exact h
    · refine .of_each (s := s) (y := fun w => { s.watches.get w with state := (s.watches.get w).state.tick }) (fun w => Table.get_map ..) (fun w => ?_) fun w => ?_
      · dsimp only
        cases (s.watches.get w).state <;> rfl
      · obtain ⟨off, waits, arms, count, hold⟩ := h w
        simp only [State.WatchSound]
        cases state : (s.watches.get w).state with
        | fired t =>
          rw [state] at off hold
          refine ⟨⟨nofun, fun disabled => nomatch off.2 disabled⟩, nofun, nofun, count, fun runs => hold ?_⟩
          rwa [show (WatchState.fired t).tick.hold? = countDown t from rfl, countDown_isSome] at runs
        | off => rw [state] at off waits arms hold; exact ⟨off, waits, arms, count, hold⟩
        | waiting => rw [state] at off waits arms hold; exact ⟨off, waits, arms, count, hold⟩
        | armed => rw [state] at off waits arms hold; exact ⟨off, waits, arms, count, hold⟩
  pending s _ h := h

end Sys2Proof.Machine
end

section
/-! The watch unit takes every arrival: only a firing raises anything, a watch that fired stays FIRED within an event, and there are 32 watches,
so the rounds suffice (R160, DEDUCED log entry 24). -/
namespace Sys2Proof.Machine

/-! ### Watches FIRED stay FIRED within an event -/

/-- The watches of a set are FIRED. -/
def State.Fired (F : Finset WatchIdx) (s : State) : Prop := ∀ w ∈ F, s.isFired w = true

theorem State.Fired.fire {F : Finset WatchIdx} {s : State} (h : s.Fired F) (w : WatchIdx) (value : Int) : (s.fire w value).Fired F := by
  intro v mem
  unfold State.isFired
  rw [State.fire_watches, Table.get_map, Watch.armBy_isFired, Table.get_set]
  split
  · rfl
  · exact h v mem

theorem fired_kept (F : Finset WatchIdx) : Kept [.firing] (State.Fired F) where
  closed := by decide
  move {_ _ s _} apart m h := by
    have but := m.but
    cases m with
    | counted w x config state count =>
      intro v mem
      show ((s.watches.set w x).get v).state.isFired = true
      rw [Table.get_set]
      split
      · next same => rw [state, same]; exact h v mem
      · exact h v mem
    | fired ws config => simp at apart
    | _ => 
      intro v mem
      unfold State.isFired
      rw [but .watches (by decide)]
      exact h v mem
  tripLane := by simp
  fire _ s w value _ h := h.fire w value
  changeStorm := by simp

namespace State

variable {s t : State}

/-- The watches not FIRED. -/
def unfired (s : State) : Finset WatchIdx := Finset.univ.filter fun w => s.isFired w = false

theorem mem_unfired (s : State) (w : WatchIdx) : w ∈ s.unfired ↔ s.isFired w = false := by simp [unfired]

/-- What the watch unit does to a state: either nothing is raised, or one more watch is FIRED; and those FIRED stay so. -/
structure Advances (s t : State) : Prop where
  stays : t.unfired ⊆ s.unfired
  raises : t.raised = s.raised ∨ t.unfired ⊂ s.unfired

namespace Advances

theorem refl (s : State) : Advances s s := ⟨subset_rfl, .inl rfl⟩

theorem trans {u : State} (h : Advances s t) (k : Advances t u) : Advances s u := by
  refine ⟨k.stays.trans h.stays, ?_⟩
  obtain same | fewer := h.raises
  · obtain same' | fewer' := k.raises
    · exact .inl (same'.trans same)
    · exact .inr (fewer'.trans_subset h.stays)
  · exact .inr (k.stays.trans_ssubset fewer)

theorem each {α : Type} {f : α → State → State} (one : ∀ a s, Advances s (f a s)) (l : List α) (s : State) : Advances s (s.each l f) := by
  induction l generalizing s with
  | nil => exact .refl s
  | cons a l ih => exact (one a s).trans (ih (f a s))

end Advances

theorem unfired_subset_of_kept (h : ∀ F, s.Fired F → t.Fired F) : t.unfired ⊆ s.unfired := by
  intro w waits
  rw [mem_unfired] at waits ⊢
  by_contra fired
  have still := h {w} (fun v mem => by rw [Finset.mem_singleton.1 mem]; simpa using fired) w (Finset.mem_singleton_self w)
  rw [waits] at still
  cases still

/-- A count raises nothing, or its watch fires. -/
theorem count_raises (w : WatchIdx) (truth : Bool) (value : Int) (s : State) :
    (s.count w truth value).raised = s.raised ∨ (s.count w truth value).isFired w = true := by
  unfold State.count
  dsimp only
  split
  · split
    · refine .inr ?_
      unfold isFired
      rw [fire_watches, Table.get_map, Watch.armBy_isFired, Table.get_set_self]
      rfl
    · exact .inl rfl
  · exact .inl rfl

/-- An evaluation raises nothing, or its armed watch fires. -/
theorem evaluateWatch_raises (ch : Change) (w : WatchIdx) (s : State) : (s.evaluateWatch ch w).raised = s.raised ∨
    ((s.watches.get w).state = .armed ∧ (s.evaluateWatch ch w).isFired w = true) := by
  unfold evaluateWatch
  dsimp only
  split
  · exact .inl rfl
  · split
    · exact .inl rfl
    · split
      · next armed => exact (count_raises w _ _ _).imp_right fun fired => ⟨armed, fired⟩
      · exact .inl rfl

theorem evaluateWatch_advances (ch : Change) (w : WatchIdx) (s : State) : Advances s (s.evaluateWatch ch w) := by
  have stays : (s.evaluateWatch ch w).unfired ⊆ s.unfired := unfired_subset_of_kept fun F h => (fired_kept F).evaluateWatch h ch w
  refine ⟨stays, (evaluateWatch_raises ch w s).imp_right fun ⟨armed, fires⟩ => ?_⟩
  refine Finset.ssubset_iff_subset_ne.2 ⟨stays, fun eq => ?_⟩
  have before : w ∈ s.unfired := (mem_unfired s w).2 (by simp [isFired, armed, WatchState.isFired])
  rw [← eq, mem_unfired, fires] at before
  cases before

theorem evaluate_advances (ch : Change) (s : State) : Advances s (s.evaluate ch) := .each (evaluateWatch_advances ch) _ s

theorem drainRounds_takes (n : Nat) (s : State) (enough : s.unfired.card < n) : (s.drainRounds n).raised = [] := by
  induction n generalizing s with
  | zero => exact absurd enough (Nat.not_lt_zero _)
  | succ n ih =>
    unfold drainRounds
    split
    · assumption
    · have round := Advances.each evaluate_advances s.raised (s.withRaised [])
      have start : (s.withRaised []).unfired = s.unfired := rfl
      obtain none | fewer := round.raises
      · cases n with
        | zero => exact none
        | succ n =>
          rw [drainRounds]
          rw [none]
          exact none
      · rw [start] at fewer
        have less := Finset.card_lt_card fewer
        exact ih _ (by omega)

/-- No arrival is left when the watch unit is done (R160, DEDUCED log entries 14 and 24). -/
theorem drain_takes (s : State) : s.drain.raised = [] := by
  refine drainRounds_takes 33 s ?_
  have all : s.unfired.card ≤ (Finset.univ : Finset WatchIdx).card := Finset.card_filter_le _ _
  have watches : (Finset.univ : Finset WatchIdx).card = 32 := by simp
  omega

/-! ### No arrival is left between steps -/

/-- No arrival waits. -/
abbrev Settled (s : State) : Prop := s.raised = []

theorem Settled.of_but {c : List Part} (h : s.Settled) (but : s.SameBut c t) (apart : Part.raised ∉ c) : t.Settled := (but .raised apart).trans h

theorem Settled.each {α : Type} {f : α → State → State} (h : s.Settled) (l : List α) (one : ∀ a s, Settled s → (f a s).Settled) :
    (s.each l f).Settled := each_induction l (fun a _ s h => one a s h) h

theorem Settled.takeUpdate (h : s.Settled) (p : PointIdx) (d : Dependant) : (s.takeUpdate p d).Settled := by
  unfold State.takeUpdate
  dsimp only
  split
  · exact drain_takes _
  · unfold detectStorm
    dsimp only
    split
    · split
      · split <;> exact h
      · exact h
    · split
      · exact drain_takes _
      · exact h
  · refine h.each _ fun k u hu => ?_
    dsimp only
    split
    · exact drain_takes _
    · exact hu
  · refine h.each _ fun k u hu => ?_
    dsimp only
    split
    · exact drain_takes _
    · exact hu
  all_goals exact h

theorem Settled.takeUpdates (h : s.Settled) (p : PointIdx) (n : Nat) (ds : List Dependant) : (s.takeUpdates p n ds).Settled := by
  induction n generalizing s ds with
  | zero => exact h
  | succ n ih =>
    unfold State.takeUpdates
    dsimp only
    split
    · exact h
    · exact ih (Settled.takeUpdate (h.of_but (choose_but s _) (by decide)) p _) _

theorem Settled.updateEvent (h : s.Settled) (p : PointIdx) : (s.updateEvent p).Settled := h.takeUpdates p _ _

theorem Settled.handOver (h : s.Settled) (c : RouteConfig) (a : Addr) (seq channel : Byte) (i : ItemValue) :
    (s.handOver c a seq channel i).Settled := by
  unfold State.handOver
  split
  · unfold arriveAtPoint
    dsimp only
    split
    · exact Settled.updateEvent (s := s.setPoint _ _) h _
    · exact h
  · exact drain_takes _

theorem Settled.takeItems (h : s.Settled) (c : RouteConfig) (k : Kind) (f : Frame) : (s.takeItems c k f).Settled := by
  cases k with
  | sample => exact h.each _ fun i u hu => hu.handOver ..
  | status => exact h.each _ fun i u hu => hu.handOver ..
  | command => exact h
  | request => exact h
  | reply => exact h
  | notice => exact h

theorem Settled.guardItems (h : s.Settled) (dst src : Addr) (items : List CommandItem) : (s.guardItems dst src items).1.Settled := by
  induction items generalizing s with
  | nil => exact h
  | cons item rest ih => exact ih (h.of_but (guardItem_but dst src item s) (by decide))

theorem Settled.route (h : s.Settled) (f : Frame) : (s.route f).1.Settled := by
  unfold State.route
  split
  · exact h
  · split
    · exact h
    · next i _ =>
      have marked : (s.markHit i).Settled := h
      unfold dispose
      split
      · exact marked
      · exact marked.takeItems _ _ f
      · exact marked.takeItems _ _ f
      · unfold guardFrame
        split
        · exact marked.guardItems ..
        all_goals exact marked
      · exact marked

theorem Settled.routeFrame (h : s.Settled) (f : Frame) : (s.routeFrame f).Settled := by
  unfold State.routeFrame
  dsimp only
  split
  · exact h.route f
  · unfold forwardReturned
    split
    · exact h.route f
    · exact drain_takes _

theorem reply_settled (src : Addr) (code tag : Byte) (a : Answered) : (State.reply src code tag a).Settled := by
  unfold State.reply
  split <;> exact drain_takes _

theorem Settled.requestArrives (h : s.Settled) (src : Addr) (code tag : Byte) (r : Option Request) :
    (s.requestArrives src code tag r).Settled := by
  unfold State.requestArrives
  split
  · dsimp only
    split
    · exact drain_takes _
    · exact reply_settled ..
  all_goals exact h

theorem Settled.takeComplete (h : s.Settled) (bytes : List Byte) : (s.takeComplete bytes).Settled := by
  have heard : s.heard.Settled := drain_takes _
  unfold State.takeComplete
  split
  · exact h
  · split
    · unfold takeValid
      dsimp only
      split
      · exact heard
      · split
        · unfold takeAddressed
          split
          · exact reply_settled ..
          · exact heard
        · exact heard.routeFrame _
    · exact h

theorem Settled.feed (h : s.Settled) (bytes : List Byte) : (s.feed bytes).Settled := by
  induction bytes generalizing s with
  | nil => exact h
  | cons b rest ih =>
    unfold State.feed
    split
    · exact ih (s := s.withReceived _) h
    · exact ih (Settled.takeComplete (s := s.withReceived []) h _)

theorem Settled.expire (h : s.Settled) (running : Bool) (f : State → State) : (s.expire running f).Settled := by
  unfold State.expire
  split
  · split
    · exact drain_takes _
    · exact h
  all_goals exact h

/-- Every command leaves no arrival waiting. -/
theorem Settled.exec (h : s.Settled) (c : Instr) {t : State} (next : Machine.exec c s = .next t) : t.Settled := by
  have request : ∀ src code tag r, (s.requestArrives src code tag r).Settled := h.requestArrives
  have expiry : ∀ running f, (s.expire running f).Settled := h.expire
  cases c <;> obtain rfl := Host.Outcome.next.inj next
  case resetAssert => exact h
  case startUp straps =>
    unfold startUp
    dsimp only
    split
    · rfl
    · exact drain_takes _
  case bypassEnd =>
    unfold endBypass
    split
    · split <;> exact h
    all_goals exact h
  case frameArrival bytes =>
    unfold receive
    split
    · exact h.feed bytes
    all_goals exact h
  case ringInIdleInFrame bytes =>
    unfold receiveBroken
    split
    · exact h.feed bytes
    all_goals exact h
  case frameSent => exact h.of_but s.finishFrame_but (by decide)
  case commitCompletion ok => exact drain_takes _
  all_goals first | exact request _ _ _ _ | exact expiry _ _

theorem Settled.step (h : s.Settled) {t : State} (next : Machine.step s = .next t) : t.Settled := by
  unfold Machine.step at next
  split at next
  · next c rest _ => exact Settled.exec (s := s.withPending rest) h c next
  · unfold idle at next
    dsimp only at next
    split at next
    · exact Settled.exec (Settled.of_but h (choose_but s _) (by decide)) _ next
    · cases next
      exact h.of_but s.tick_but (by decide)

end State

/-- Settles O59: the blowers' and the watches' agreement by moves and events, the arrivals by the watch unit's rounds. -/
theorem stepsKeepBlowersAndWatchesSound : Obligations.StepsKeepBlowersAndWatchesSound := fun _ _ next =>
  ⟨fun h => blowersSound_kept.step h next, fun h => ⟨eachWatchSound_kept.step h.watches next, State.Settled.step h.taken next⟩⟩

end Sys2Proof.Machine
end

section
/-! Every configuration the part holds stays checked (R48, R55, R59, R80, R103, R113, R127, R140, R157). -/
namespace Sys2Proof.Machine

theorem Table.map_set {α β : Type} {n : Nat} (f : α → β) (t : Table n α) (i : Fin n) (a : α) : (t.set i a).map f = (t.map f).set i (f a) := by
  refine Table.ext_get fun j => ?_
  rw [Table.get_map, Table.get_set, Table.get_set, Table.get_map]
  exact apply_ite f ..

theorem Table.map_set_same {α β : Type} {n : Nat} {f : α → β} {t : Table n α} {i : Fin n} {a : α} (h : f a = f (t.get i)) :
    (t.set i a).map f = t.map f := by
  rw [Table.map_set, h, ← Table.get_map f, Table.set_get]

theorem Table.map_congr {α β : Type} {n : Nat} {f : α → β} {t u : Table n α} (h : ∀ i, f (t.get i) = f (u.get i)) : t.map f = u.map f :=
  Table.ext_get fun i => by simp only [Table.get_map, h]

namespace State

variable {s t u : State}

/-! ### The settings after a record is replaced -/

/-- The parts a configuration stands in. -/
abbrev configParts : List Part := [.routes, .points, .outputs, .lanes, .zones, .blowers, .returns, .watches, .plant, .allocator]

theorem settings_of_but {c : List Part} (but : s.SameBut c t) (apart : ∀ p ∈ configParts, p ∉ c) : t.settings = s.settings := by
  have routes : t.routes = s.routes := but .routes (apart _ (by simp))
  have points : t.points = s.points := but .points (apart _ (by simp))
  have outputs : t.outputs = s.outputs := but .outputs (apart _ (by simp))
  have lanes : t.lanes = s.lanes := but .lanes (apart _ (by simp))
  have zones : t.zones = s.zones := but .zones (apart _ (by simp))
  have blowers : t.blowers = s.blowers := but .blowers (apart _ (by simp))
  have returns : t.returns = s.returns := but .returns (apart _ (by simp))
  have watches : t.watches = s.watches := but .watches (apart _ (by simp))
  have plant : t.plant = s.plant := but .plant (apart _ (by simp))
  have allocator : t.allocator = s.allocator := but .allocator (apart _ (by simp))
  simp only [settings, routes, points, outputs, lanes, zones, blowers, returns, watches, plant, allocator]

theorem setRoute_settings (s : State) (i : RouteIdx) (r : Route) :
    (s.setRoute i r).settings = { s.settings with routes := s.settings.routes.set i r.config } :=
  congrArg (fun x => { s.settings with routes := x }) (Table.map_set ..)
theorem setPoint_settings (s : State) (i : PointIdx) (r : Point) :
    (s.setPoint i r).settings = { s.settings with points := s.settings.points.set i r.config } :=
  congrArg (fun x => { s.settings with points := x }) (Table.map_set ..)
theorem setOutput_settings (s : State) (i : OutputIdx) (r : Output) :
    (s.setOutput i r).settings = { s.settings with outputs := s.settings.outputs.set i r.config } :=
  congrArg (fun x => { s.settings with outputs := x }) (Table.map_set ..)
theorem setLane_settings (s : State) (i : LaneIdx) (r : Lane) :
    (s.setLane i r).settings = { s.settings with lanes := s.settings.lanes.set i r.config } :=
  congrArg (fun x => { s.settings with lanes := x }) (Table.map_set ..)
theorem setZone_settings (s : State) (i : ZoneIdx) (r : Zone) :
    (s.setZone i r).settings = { s.settings with zones := s.settings.zones.set i r.config } :=
  congrArg (fun x => { s.settings with zones := x }) (Table.map_set ..)
theorem setBlower_settings (s : State) (i : BlowerIdx) (r : Blower) :
    (s.setBlower i r).settings = { s.settings with blowers := s.settings.blowers.set i r.config } :=
  congrArg (fun x => { s.settings with blowers := x }) (Table.map_set ..)
theorem setReturn_settings (s : State) (i : LineIdx) (r : ReturnLine) :
    (s.setReturn i r).settings = { s.settings with returns := s.settings.returns.set i r.config } :=
  congrArg (fun x => { s.settings with returns := x }) (Table.map_set ..)
theorem setWatch_settings (s : State) (i : WatchIdx) (r : Watch) :
    (s.setWatch i r).settings = { s.settings with watches := s.settings.watches.set i r.config } :=
  congrArg (fun x => { s.settings with watches := x }) (Table.map_set ..)

/-- Two states hold the same configurations, but that pending sets may be gone. -/
structure SameConfig (s t : State) : Prop where
  settings : t.settings = s.settings
  pending : ∀ k, (t.lanes.get k).pending = (s.lanes.get k).pending ∨ (t.lanes.get k).pending = none
  management : t.management = s.management

namespace SameConfig

theorem refl (s : State) : SameConfig s s := ⟨rfl, fun _ => .inl rfl, rfl⟩

theorem trans (h : SameConfig s t) (k : SameConfig t u) : SameConfig s u := by
  refine ⟨k.settings.trans h.settings, fun i => ?_, k.management.trans h.management⟩
  obtain same | none := k.pending i
  · rw [same]; exact h.pending i
  · exact .inr none

theorem each {α : Type} {f : α → State → State} (one : ∀ a s, SameConfig s (f a s)) (l : List α) (s : State) : SameConfig s (s.each l f) := by
  induction l generalizing s with
  | nil => exact .refl s
  | cons a l ih => exact (one a s).trans (ih (f a s))

theorem of_but {c : List Part} (but : s.SameBut c t) (apart : ∀ p ∈ .management :: configParts, p ∉ c) : SameConfig s t :=
  ⟨settings_of_but but fun p hp => apart p (List.mem_cons_of_mem _ hp), fun k => .inl (by rw [but .lanes (apart _ (by simp))]),
    but .management (apart _ (by simp))⟩

theorem setRoute {i : RouteIdx} {r : Route} (h : r.config = (s.routes.get i).config) : SameConfig s (s.setRoute i r) := 
  ⟨congrArg (fun x => { s.settings with routes := x }) (Table.map_set_same h), fun _ => .inl rfl, rfl⟩

theorem setPoint {i : PointIdx} {r : Point} (h : r.config = (s.points.get i).config) : SameConfig s (s.setPoint i r) := 
  ⟨congrArg (fun x => { s.settings with points := x }) (Table.map_set_same h), fun _ => .inl rfl, rfl⟩

theorem setOutput {i : OutputIdx} {r : Output} (h : r.config = (s.outputs.get i).config) : SameConfig s (s.setOutput i r) := 
  ⟨congrArg (fun x => { s.settings with outputs := x }) (Table.map_set_same h), fun _ => .inl rfl, rfl⟩

theorem setZone {i : ZoneIdx} {r : Zone} (h : r.config = (s.zones.get i).config) : SameConfig s (s.setZone i r) := 
  ⟨congrArg (fun x => { s.settings with zones := x }) (Table.map_set_same h), fun _ => .inl rfl, rfl⟩

theorem setBlower {i : BlowerIdx} {r : Blower} (h : r.config = (s.blowers.get i).config) : SameConfig s (s.setBlower i r) := 
  ⟨congrArg (fun x => { s.settings with blowers := x }) (Table.map_set_same h), fun _ => .inl rfl, rfl⟩

theorem setReturn {i : LineIdx} {r : ReturnLine} (h : r.config = (s.returns.get i).config) : SameConfig s (s.setReturn i r) := 
  ⟨congrArg (fun x => { s.settings with returns := x }) (Table.map_set_same h), fun _ => .inl rfl, rfl⟩

theorem setLane {i : LaneIdx} {r : Lane} (h : r.config = (s.lanes.get i).config)
    (pending : r.pending = (s.lanes.get i).pending ∨ r.pending = none) : SameConfig s (s.setLane i r) := by
  refine ⟨?_, fun k => ?_, rfl⟩
  · exact congrArg (fun x => { s.settings with lanes := x }) (Table.map_set_same h)
  · show ((s.lanes.set i r).get k).pending = _ ∨ ((s.lanes.set i r).get k).pending = none
    rw [Table.get_set]
    split
    · next same => rw [← same]; exact pending
    · exact .inl rfl

theorem withWatches {ws : Table 32 Watch} (h : ∀ w, (ws.get w).config = (s.watches.get w).config) : SameConfig s (s.withWatches ws) :=
  ⟨congrArg (fun x => { s.settings with watches := x }) (Table.map_congr h), fun _ => .inl rfl, rfl⟩

theorem eachWorking (k : LaneIdx) {f : Zone → Zone} (h : ∀ zn, (f zn).config = zn.config) (s : State) : SameConfig s (s.eachWorking k f) := by
  refine .each (fun z u => ?_) _ s
  split
  · exact .refl u
  · exact .setZone (h _)

theorem capture (e : HistoryEvent) (s : State) : SameConfig s (s.capture e) := .of_but (capture_but s e) (by decide)

theorem changeRegime (k : LaneIdx) (new : LaneState) (s : State) : SameConfig s (s.changeRegime k new) := by
  have ended : SameConfig s (s.endCycle k) := .each (fun z u => by
    split
    · exact .setZone rfl
    · exact .refl u) _ s
  have entered (u : State) (e : HistoryEvent) : SameConfig u ((u.setLane k { u.lanes.get k with state := new, dwell := 0 }).capture e) :=
    (setLane (i := k) (r := { u.lanes.get k with state := new, dwell := 0 }) rfl (.inl rfl)).trans (capture e _)
  unfold State.changeRegime
  dsimp only
  split
  · exact ended.trans (entered _ _)
  · exact entered s _

/-- Outputs change but for their configurations. -/
theorem of_outputs {c : List Part} (but : s.SameBut c t)
    (apart : ∀ p ∈ [Part.routes, .points, .lanes, .zones, .blowers, .returns, .watches, .plant, .allocator, .management], p ∉ c)
    (config : ∀ o, (t.outputs.get o).config = (s.outputs.get o).config) : SameConfig s t := by
  have routes : t.routes = s.routes := but .routes (apart _ (by simp))
  have points : t.points = s.points := but .points (apart _ (by simp))
  have lanes : t.lanes = s.lanes := but .lanes (apart _ (by simp))
  have zones : t.zones = s.zones := but .zones (apart _ (by simp))
  have blowers : t.blowers = s.blowers := but .blowers (apart _ (by simp))
  have returns : t.returns = s.returns := but .returns (apart _ (by simp))
  have watches : t.watches = s.watches := but .watches (apart _ (by simp))
  have plant : t.plant = s.plant := but .plant (apart _ (by simp))
  have allocator : t.allocator = s.allocator := but .allocator (apart _ (by simp))
  refine ⟨?_, fun k => .inl (by rw [lanes]), but .management (apart _ (by simp))⟩
  have outputs : t.outputs.map (·.config) = s.outputs.map (·.config) := Table.map_congr config
  simp only [State.settings, routes, points, outputs, lanes, zones, blowers, returns, watches, plant, allocator]

/-- One output's record moves on with its configuration. -/
theorem of_output {c : List Part} (but : s.SameBut c t)
    (apart : ∀ p ∈ [Part.routes, .points, .lanes, .zones, .blowers, .returns, .watches, .plant, .allocator, .management], p ∉ c)
    {o : OutputIdx} {out : Output} (outputs : t.outputs = s.outputs.set o out) (config : out.config = (s.outputs.get o).config) :
    SameConfig s t := by
  refine .of_outputs but apart fun p => ?_
  rw [outputs, Table.get_set]
  split
  · next same => rw [← same]; exact config
  · rfl

theorem sendValue (o : OutputIdx) (v : Int) (s : State) : SameConfig s (s.sendValue o v) := by
  obtain ⟨u, outputs⟩ := State.sendValue_outputs o v s
  exact .of_output (sendValue_but o v s) (by decide) outputs (Output.sent_config _ v u)

end SameConfig

theorem SettingsSound.of_same (h : s.SettingsSound) (same : SameConfig s t) : t.SettingsSound := by
  refine ⟨same.settings ▸ h.inForce, fun k p pending => ?_, same.management ▸ h.snapshot, same.management ▸ h.images⟩
  rw [same.settings]
  obtain kept | none := same.pending k
  · exact h.staged k p (kept ▸ pending)
  · rw [none] at pending
    cases pending

end State

theorem Move.sameConfig {g : Gap} {c : List Part} {s t : State} (m : Move g c s t) : s.SameConfig t := by
  have but := m.but
  cases m with
  | offered o v used => exact .sendValue o _ s
  | released o => exact .setOutput rfl
  | route i r config => exact .setRoute config
  | point p pt config => exact .setPoint config
  | zone z zn follows => exact .setZone follows.config
  | blower b new follows => exact .setBlower rfl
  | allocator a config timer => exact ⟨congrArg (fun x => { s.settings with allocator := x }) config, fun _ => .inl rfl, rfl⟩
  | lane g k l follows trips agrees => exact .setLane follows.config (.inl follows.pending)
  | plant g p config agrees => exact ⟨congrArg (fun x => { s.settings with plant := x }) config, fun _ => .inl rfl, rfl⟩
  | counted w x config state count =>
    refine .withWatches fun v => ?_
    rw [Table.get_set]
    split
    · next same => rw [← same]; exact config
    · rfl
  | fired ws config => exact .withWatches config
  | capture e => exact .of_but but (by decide)
  | frozen b => exact .of_but but (by decide)
  | raised l => exact .of_but but (by decide)
  | freeIndex n => exact .of_but but (by decide)
  | send dst b ownerless => exact .of_but but (by decide)
  | forward f => exact .of_but but (by decide)

end Sys2Proof.Machine
end

section
/-! What a lane's pending set leaves when it is applied, and the checks kept by every step. -/
namespace Sys2Proof.Machine

theorem placeOf_zoneAt (k : LaneIdx) (i : Fin 4) : placeOf (zoneAt k i) = i := Fin.ext (by simp [zoneAt, placeOf])

theorem laneOf_zoneAt (k : LaneIdx) (i : Fin 4) : laneOf (zoneAt k i) = k := Fin.ext (by simp [zoneAt, laneOf]; omega)

theorem mem_zonesOf (k : LaneIdx) (z : ZoneIdx) : z ∈ zonesOf k ↔ laneOf z = k := by
  unfold zonesOf
  rw [List.mem_map]
  constructor
  · rintro ⟨i, -, rfl⟩
    exact laneOf_zoneAt k i
  · rintro rfl
    exact ⟨placeOf z, mem_indices _, zoneAt_laneOf z⟩

theorem zonesOf_nodup (k : LaneIdx) : (zonesOf k).Nodup := by
  refine List.Nodup.map (fun i j same => ?_) (indices_nodup 4)
  rw [← placeOf_zoneAt k i, same, placeOf_zoneAt]

namespace State

variable {s t : State}

/-- The zones of a lane rewritten, each from its own record (R56, R101). -/
theorem eachPlace_zones (k : LaneIdx) (g : Fin 4 → Zone → Zone) (s : State) (z : ZoneIdx) :
    (s.each (indices 4) fun i s => s.setZone (zoneAt k i) (g i (s.zones.get (zoneAt k i)))).zones.get z =
      if laneOf z = k then g (placeOf z) (s.zones.get z) else s.zones.get z := by
  have same : (s.each (indices 4) fun i s => s.setZone (zoneAt k i) (g i (s.zones.get (zoneAt k i)))) =
      s.each (zonesOf k) fun z s => s.setZone z (g (placeOf z) (s.zones.get z)) := by
    simp only [each, zonesOf, List.foldl_map, placeOf_zoneAt]
  rw [same, each_table State.zones (g := fun z zn => g (placeOf z) zn) (fun _ _ => rfl) _ (zonesOf_nodup k)]
  simp only [mem_zonesOf]

theorem applyPending_of_none {k : LaneIdx} (h : (s.lanes.get k).pending = none) : s.applyPending k = s := by
  unfold applyPending
  dsimp only
  split
  · rfl
  · next p pending => rw [h] at pending; cases pending

/-- The zones of a lane once its pending set is applied (R56). -/
theorem applyPending_zones {k : LaneIdx} {p : Pending} (h : (s.lanes.get k).pending = some p) (z : ZoneIdx) :
    (s.applyPending k).zones.get z = if laneOf z = k then (s.zones.get z).applied (p.zones.get (placeOf z))
      ((s.lanes.get k).idles (placeOf z)) ((s.lanes.get k).taken.idles (placeOf z)) else s.zones.get z := by
  unfold applyPending
  dsimp only
  split
  · next none => rw [h] at none; cases none
  · next q pending =>
    obtain rfl : p = q := Option.some.inj (h.symm.trans pending)
    rw [Lane.taken_of_some h]
    exact eachPlace_zones k (fun i zn => zn.applied (p.zones.get i) ((s.lanes.get k).idles i) (Lane.idles _ i)) (s.setLane k _) z

end State

theorem Zone.fresh_config (l : Lane) (p : Fin 4) (c : ZoneConfig) : (Zone.fresh l p c).config = c := by
  unfold Zone.fresh
  split
  · rfl
  · split <;> rfl

theorem Zone.applied_config (zn : Zone) (c : ZoneConfig) (was is : Bool) : (zn.applied c was is).config = c := by
  unfold Zone.applied
  dsimp only
  split
  · rfl
  · split <;> rfl

namespace State

variable {s t : State}

/-- The settings in force once a pending set is applied (R56). -/
theorem applyPending_settings {k : LaneIdx} {p : Pending} (h : (s.lanes.get k).pending = some p) : (s.applyPending k).settings =
    { s.settings with
      lanes := s.settings.lanes.set k p.lane
      zones := Table.build fun z => if laneOf z = k then p.zones.get (placeOf z) else s.settings.zones.get z } := by
  have but := applyPending_but k s
  have routes : (s.applyPending k).routes = s.routes := but .routes (by decide)
  have points : (s.applyPending k).points = s.points := but .points (by decide)
  have outputs : (s.applyPending k).outputs = s.outputs := but .outputs (by decide)
  have blowers : (s.applyPending k).blowers = s.blowers := but .blowers (by decide)
  have returns : (s.applyPending k).returns = s.returns := but .returns (by decide)
  have watches : (s.applyPending k).watches = s.watches := but .watches (by decide)
  have plant : (s.applyPending k).plant = s.plant := but .plant (by decide)
  have allocator : (s.applyPending k).allocator = s.allocator := but .allocator (by decide)
  have lanes : (s.applyPending k).lanes.map (·.config) = s.settings.lanes.set k p.lane := by
    rw [applyPending_lanes, Table.map_set, Lane.taken_of_some h]
    rfl
  have zones : (s.applyPending k).zones.map (·.config) =
      Table.build fun z => if laneOf z = k then p.zones.get (placeOf z) else s.settings.zones.get z := by
    refine Table.ext_get fun z => ?_
    rw [Table.get_map, Table.get_build, applyPending_zones h]
    split
    · exact Zone.applied_config ..
    · exact (Table.get_map (·.config) s.zones z).symm
  simp only [settings, routes, points, outputs, lanes, zones, blowers, returns, watches, plant, allocator]

namespace SameConfig

theorem decideMode (z : ZoneIdx) (s : State) : SameConfig s (s.decideMode z) := by
  unfold State.decideMode
  extract_lets zn m
  split
  · exact .refl s
  · exact (setZone (i := z) (r := { zn with mode := m, reseed := zn.reseed || m == .doControl }) rfl).trans (capture _ _)

theorem changeOutput (o : OutputIdx) (new : OutputState) (s : State) : SameConfig s (s.changeOutput o new) := by
  unfold State.changeOutput
  extract_lets out
  split
  · exact .refl s
  · have changed : SameConfig s (s.setOutput o { out with state := new }) := setOutput rfl
    refine (changed.trans (capture _ _)).trans (.each (fun z u => ?_) _ _)
    split
    · exact decideMode z u
    · exact .refl u

theorem reassignOutput (o : OutputIdx) (s : State) : SameConfig s (s.reassignOutput o) := by
  unfold State.reassignOutput
  extract_lets _ cleared
  have emptied : SameConfig s cleared := setOutput rfl
  have detached : SameConfig cleared (cleared.withRing (cleared.ring.detach o)) := .of_but (cleared.withTraffic_but _ _ _ _ _) (by decide)
  exact (emptied.trans detached).trans (changeOutput o .auto _)

theorem reclampOutput (o : OutputIdx) (s : State) : SameConfig s (s.reclampOutput o) := by
  unfold State.reclampOutput
  dsimp only
  split
  · exact .refl s
  · split
    · exact .refl s
    · exact sendValue o _ s

theorem writeOutput (o : OutputIdx) (c : OutputConfig) (s : State) :
    SameConfig (s.setOutput o { s.outputs.get o with config := c }) (s.writeOutput o c) := by
  unfold State.writeOutput
  extract_lets old _ s1 s2 s3 s4
  have h2 : SameConfig s1 s2 := by
    simp only [s2]
    split
    · exact reassignOutput o s1
    · exact .refl s1
  have h3 : SameConfig s2 s3 := by
    simp only [s3]
    split
    · exact changeOutput o .auto s2
    · exact .refl s2
  have h4 : SameConfig s3 s4 := by
    simp only [s4]
    split
    · exact reclampOutput o s3
    · exact .refl s3
  refine ((h2.trans h3).trans h4).trans ?_
  split
  · exact setOutput (s4.outputs.get o).rewriteResend_keeps.1
  · exact .refl s4

theorem offlineZones (k : LaneIdx) (s : State) : SameConfig s (s.offlineZones k) :=
  .each (fun z u => setZone (i := z) (r := (u.zones.get z).withDemand 0) rfl) _ s

theorem startPeriod (k : LaneIdx) (s : State) : SameConfig s (s.startPeriod k) :=
  setLane (i := k) (r := { s.lanes.get k with timer := some (tenths (s.lanes.get k).config.period) }) rfl (.inl rfl)

theorem stopTimer (k : LaneIdx) (s : State) : SameConfig s (s.setLane k { s.lanes.get k with timer := none }) := setLane rfl (.inl rfl)

theorem initialZones (k : LaneIdx) (s : State) : SameConfig s (s.initialZones k) :=
  eachWorking k (f := fun zn => Zone.initial zn.config) (fun _ => rfl) s

theorem resend (o : OutputIdx) (s : State) : SameConfig s (s.resend o) := by
  unfold State.resend
  dsimp only
  split
  · exact sendValue o _ s
  · exact setOutput rfl
  · exact setOutput (State.restartResend_config _)

end SameConfig

/-- The settings a full reset leaves in force (R190). -/
theorem fullReset_settings (straps : BitVec 8) (g : Settings) (s : State) : (s.fullReset straps g).settings = g := by
  unfold settings fullReset
  congr 1 <;> exact Table.ext_get fun i => by simp [Route.fresh, Point.fresh, Output.fresh, Lane.fresh, Blower.fresh, ReturnLine.fresh, Watch.fresh, Zone.fresh_config]

namespace SameConfig

theorem withRoutes {x : Table 64 Route} (h : ∀ i, (x.get i).config = (s.routes.get i).config) : SameConfig s (s.withRoutes x) :=
  ⟨congrArg (fun c => { s.settings with routes := c }) (Table.map_congr h), fun _ => .inl rfl, rfl⟩
theorem withPoints {x : Table 128 Point} (h : ∀ i, (x.get i).config = (s.points.get i).config) : SameConfig s (s.withPoints x) :=
  ⟨congrArg (fun c => { s.settings with points := c }) (Table.map_congr h), fun _ => .inl rfl, rfl⟩
theorem withOutputs {x : Table 64 Output} (h : ∀ i, (x.get i).config = (s.outputs.get i).config) : SameConfig s (s.withOutputs x) :=
  ⟨congrArg (fun c => { s.settings with outputs := c }) (Table.map_congr h), fun _ => .inl rfl, rfl⟩
theorem withZones {x : Table 32 Zone} (h : ∀ i, (x.get i).config = (s.zones.get i).config) : SameConfig s (s.withZones x) :=
  ⟨congrArg (fun c => { s.settings with zones := c }) (Table.map_congr h), fun _ => .inl rfl, rfl⟩
theorem withBlowers {x : Table 6 Blower} (h : ∀ i, (x.get i).config = (s.blowers.get i).config) : SameConfig s (s.withBlowers x) :=
  ⟨congrArg (fun c => { s.settings with blowers := c }) (Table.map_congr h), fun _ => .inl rfl, rfl⟩
theorem withReturns {x : Table 4 ReturnLine} (h : ∀ i, (x.get i).config = (s.returns.get i).config) : SameConfig s (s.withReturns x) :=
  ⟨congrArg (fun c => { s.settings with returns := c }) (Table.map_congr h), fun _ => .inl rfl, rfl⟩
theorem withLanes {x : Table 8 Lane} (h : ∀ i, (x.get i).config = (s.lanes.get i).config)
    (pending : ∀ i, (x.get i).pending = (s.lanes.get i).pending ∨ (x.get i).pending = none) : SameConfig s (s.withLanes x) :=
  ⟨congrArg (fun c => { s.settings with lanes := c }) (Table.map_congr h), pending, rfl⟩
theorem withPlant {x : Plant} (h : x.config = s.plant.config) : SameConfig s (s.withPlant x) :=
  ⟨congrArg (fun c => { s.settings with plant := c }) h, fun _ => .inl rfl, rfl⟩
theorem withAllocator {x : Allocator} (h : x.config = s.allocator.config) : SameConfig s (s.withAllocator x) :=
  ⟨congrArg (fun c => { s.settings with allocator := c }) h, fun _ => .inl rfl, rfl⟩

end SameConfig

theorem restarted_same (s : State) : SameConfig s s.restartRingAndOutputs.restartBlocks := by
  have ring : SameConfig s s.restartRingAndOutputs := by
    refine (SameConfig.withOutputs fun o => ?_).trans (.of_but (withTraffic_but _ _ _ _ _ _) (by decide))
    rw [Table.get_build]
    rfl
  refine ring.trans ?_
  generalize s.restartRingAndOutputs = s
  unfold restartBlocks
  extract_lets lanes s1 s2 s3 s4 s5 s6
  have h1 : SameConfig s s1 := .withRoutes fun i => by rw [Table.get_map]
  have h2 : SameConfig s1 s2 := .withPoints fun i => by rw [Table.get_map]; rfl
  have h3 : SameConfig s2 s3 := by
    refine SameConfig.trans (t := s2.withLanes lanes) (.withLanes (fun i => ?_) fun i => .inr ?_) (.withPlant rfl)
    · rw [show s2.lanes = s.lanes from rfl, Table.get_map]; rfl
    · rw [Table.get_map]; rfl
  have h4 : SameConfig s3 s4 := .withZones fun i => by rw [Table.get_build]; exact Zone.fresh_config ..
  have h5 : SameConfig s4 s5 := .withAllocator rfl
  have h6 : SameConfig s5 s6 := .withReturns fun i => by rw [Table.get_map]; rfl
  have h7 : SameConfig s6 (s6.withSupervision Supervision.fresh) := .of_but (s6.withSupervision_but _) (by decide)
  refine ((((((h1.trans h2).trans h3).trans h4).trans h5).trans h6).trans h7).trans (.withWatches fun w => ?_)
  rw [Table.get_map]
  unfold restartWatch
  split <;> rfl

theorem startReceiving_same (s : State) : SameConfig s s.startReceiving := by
  unfold startReceiving
  extract_lets _ s1 s2
  have h1 : SameConfig s s1 := ⟨rfl, fun _ => .inl rfl, rfl⟩
  have h2 : SameConfig s1 s2 := .withLanes (fun i => by rw [Table.get_map]; rfl) fun i => .inl (by rw [Table.get_map]; rfl)
  have h3 : SameConfig s2 s2.restartAllocation := .withAllocator rfl
  exact ((h1.trans h2).trans h3).trans (.withReturns fun i => by rw [Table.get_map]; rfl)

theorem tickTimers_same (s : State) : SameConfig s s.tickTimers := by
  refine ⟨?_, fun k => .inl ?_, rfl⟩
  · unfold settings tickTimers
    congr 1 <;> exact Table.ext_get fun i => by simp
  · have lanes : s.tickTimers.lanes = s.lanes.map fun l => { l with timer := countDown l.timer, state := l.state.tick } := rfl
    rw [lanes, Table.get_map]

end State

theorem Table.forall_set {α : Type} {n : Nat} {P : Fin n → α → Prop} {t : Table n α} {i : Fin n} {a : α} (h : ∀ j, P j (t.get j)) (new : P i a) :
    ∀ j, P j ((t.set i a).get j) := by
  intro j
  rw [Table.get_set]
  split
  · next same => exact same ▸ new
  · exact h j

/-! ### Settings that pass the checks stay so with one checked record replaced -/

namespace Settings.Sound

variable {g : Settings}

theorem set_applied (h : g.Sound) {k : LaneIdx} {p : Pending} (sound : p.Sound k g.outputs) : Settings.Sound { g with
    lanes := g.lanes.set k p.lane
    zones := Table.build fun z => if laneOf z = k then p.zones.get (placeOf z) else g.zones.get z } := by
  obtain ⟨lane, zones⟩ := sound
  refine { h with lanes := fun j => ?_, zones := fun z => ?_, valves := fun z => ?_ }
  · dsimp only
    rw [Table.get_set]
    split
    · exact lane
    · exact h.lanes j
  all_goals
    dsimp only
    rw [Table.get_build]
    split
  · exact (zones (placeOf z)).1
  · exact h.zones z
  · next mine =>
    subst mine
    have names := (zones (placeOf z)).2
    rwa [zoneAt_laneOf] at names
  · exact h.valves z

/-- No blower in service holds the rank of the one written (R113 check 3). -/
theorem set_blower (h : g.Sound) {b : BlowerIdx} {c : BlowerConfig} (sound : c.Sound)
    (ranks : c.inService = true → ∀ j, j ≠ b → (g.blowers.get j).inService = true → (g.blowers.get j).rank ≠ c.rank) :
    Settings.Sound { g with blowers := g.blowers.set b c } := by
  refine { h with blowers := Table.forall_set h.blowers sound, ranks := fun i j serves serves' same => ?_ }
  dsimp only at serves serves' same
  rw [Table.get_set] at serves serves' same
  rw [Table.get_set] at same
  by_cases hi : b = i <;> by_cases hj : b = j
  · exact hi.symm.trans hj
  · rw [if_pos hi] at serves same
    rw [if_neg hj] at serves' same
    exact absurd same.symm (ranks serves j (fun eq => hj eq.symm) serves')
  · rw [if_neg hi] at serves same
    rw [if_pos hj] at serves' same
    exact absurd same (ranks serves' i (fun eq => hi eq.symm) serves)
  · rw [if_neg hi] at serves same
    rw [if_neg hj] at serves' same
    exact h.ranks i j serves serves' same

/-- An output written with a kind and owner that suit the zones that name it (R140). -/
theorem set_output (h : g.Sound) {o : OutputIdx} {c : OutputConfig} (sound : c.Sound)
    (suits : ∀ z, (g.zones.get z).valveOutput = some o → c.kind = .zoneValve ∧ c.owner = z) :
    Settings.Sound { g with outputs := g.outputs.set o c } := by
  refine { h with outputs := Table.forall_set h.outputs sound, valves := fun z p named => ?_ }
  dsimp only
  rw [Table.get_set]
  split
  · next same => exact suits z (same ▸ named)
  · exact h.valves z p named

theorem default : Settings.default.Sound where
  routes i := by rw [show Settings.default.routes = Table.fill 64 RouteConfig.default from rfl, Table.get_fill]; decide
  points i := by rw [show Settings.default.points = Table.fill 128 PointConfig.default from rfl, Table.get_fill]; decide
  outputs i := by rw [show Settings.default.outputs = Table.fill 64 OutputConfig.default from rfl, Table.get_fill]; decide
  lanes i := by rw [show Settings.default.lanes = Table.fill 8 LaneConfig.default from rfl, Table.get_fill]; decide
  zones i := by rw [show Settings.default.zones = Table.fill 32 ZoneConfig.default from rfl, Table.get_fill]; decide
  valves z o := by
    rw [show Settings.default.zones = Table.fill 32 ZoneConfig.default from rfl, Table.get_fill]
    nofun
  blowers i := by
    rw [show Settings.default.blowers = Table.build BlowerConfig.default from rfl, Table.get_build]
    revert i
    decide
  ranks i j := by
    rw [show Settings.default.blowers = Table.build BlowerConfig.default from rfl, Table.get_build, Table.get_build]
    revert i j
    decide
  returns i := by rw [show Settings.default.returns = Table.fill 4 ReturnConfig.default from rfl, Table.get_fill]; decide
  watches i := by
    rw [show Settings.default.watches = Table.fill 32 WatchConfig.default from rfl, Table.get_fill]
    exact ⟨rfl, rfl, by decide, by decide, by decide, by decide, by decide, by decide⟩
  plant := by decide
  allocator := by decide

end Settings.Sound

namespace State.SettingsSound

variable {s t : State}

/-- A configuration write of a table other than OUTPUT that passes its checks. -/
theorem rewritten (h : s.SettingsSound) {g : Settings} (settings : t.settings = g) (sound : g.Sound) (outputs : g.outputs = s.settings.outputs)
    (lanes : t.lanes = s.lanes) (management : t.management = s.management) : t.SettingsSound := by
  refine ⟨settings ▸ sound, fun k p pending => ?_, management ▸ h.snapshot, management ▸ h.images⟩
  rw [settings, outputs]
  exact h.staged k p (lanes ▸ pending)

/-- A part that starts with checked settings, nothing pending and no commit in flight (R190). -/
theorem started (h : s.SettingsSound) {g : Settings} (settings : t.settings = g) (sound : g.Sound)
    (pending : ∀ k, (t.lanes.get k).pending = none) (commit : t.management.commit = none) (images : t.management.images = s.management.images) :
    t.SettingsSound := by
  refine ⟨settings ▸ sound, fun k p waits => ?_, fun c flight => ?_, images ▸ h.images⟩
  · rw [pending] at waits; cases waits
  · rw [commit] at flight; cases flight

theorem outputSuits_spec {o : OutputIdx} {c : OutputConfig} (suits : s.outputSuits o c = true) (z : ZoneIdx) (names : s.zoneNames z o = true) :
    c.kind = .zoneValve ∧ c.owner = z := by
  have one := List.all_eq_true.1 suits z (mem_indices z)
  simpa [names, OutputConfig.servesZone] using one

end State.SettingsSound

theorem State.get_settings_zone (s : State) (z : ZoneIdx) : s.settings.zones.get z = (s.zones.get z).config := Table.get_map Zone.config s.zones z
theorem State.get_settings_blower (s : State) (b : BlowerIdx) : s.settings.blowers.get b = (s.blowers.get b).config := Table.get_map Blower.config s.blowers b

theorem settingsSound_kept : KeptByAll [] State.SettingsSound where
  closed := by decide
  move _ m h := h.of_same m.sameConfig
  tripLane := by simp
  fire := by simp
  changeStorm := by simp
  event {_ s _} e h := by
    have but := e.but
    cases e with
    | noted o v used within => exact h.of_same (.of_output but (by decide) (State.noteValue_outputs o v s) (State.restartResend_config _))
    | supervised o leased untripped => exact h.of_same (.setOutput rfl)
    | applied k =>
      cases pending : (s.lanes.get k).pending with
      | none => rw [State.applyPending_of_none pending]; exact h
      | some p =>
        have outputs : (s.applyPending k).settings.outputs = s.settings.outputs := by rw [State.applyPending_settings pending]
        have management : (s.applyPending k).management = s.management := but .management (by decide)
        refine ⟨?_, fun j q waits => ?_, management ▸ h.snapshot, management ▸ h.images⟩
        · rw [State.applyPending_settings pending]
          exact h.inForce.set_applied (h.staged k p pending)
        · rw [outputs]
          rw [State.applyPending_lanes, Table.get_set] at waits
          split at waits
          · rw [Lane.taken_of_some pending] at waits
            cases waits
          · exact h.staged j q waits
    | period k _ => exact h.of_same (.startPeriod k s)
    | offline k _ =>
      have stopped := State.SameConfig.stopTimer k (s.changeRegime k .offline)
      exact h.of_same (((State.SameConfig.changeRegime k .offline s).trans stopped).trans (.offlineZones k _))
    | online k new _ _ _ =>
      have initial := State.SameConfig.initialZones k (s.changeRegime k new)
      exact h.of_same (((State.SameConfig.changeRegime k new s).trans initial).trans (.startPeriod k _))
    | staged k p sound =>
      have settings : (s.setLane k { s.lanes.get k with pending := some p }).settings = s.settings :=
        (s.setLane_settings k _).trans (congrArg (fun x => { s.settings with lanes := x })
          ((Table.map_set ..).symm.trans (Table.map_set_same (a := { s.lanes.get k with pending := some p }) rfl)))
      refine ⟨settings ▸ h.inForce, fun j q waits => ?_, h.snapshot, h.images⟩
      rw [settings]
      have get : (s.setLane k { s.lanes.get k with pending := some p }).lanes.get j =
        if k = j then { s.lanes.get k with pending := some p } else s.lanes.get j := Table.get_set ..
      rw [get] at waits
      split at waits
      · next same =>
        cases waits
        exact same ▸ sound h
      · exact h.staged j q waits
    | paced r l config _ _ => exact h.of_same (.setReturn config)
    | resent o _ => exact h.of_same (.resend o s)
    | rearmed w x _ config _ =>
      refine h.of_same (State.SameConfig.withWatches (ws := (s.rearm w x).watches) fun v => ?_)
      have disarm : ∀ y : Watch, (y.disarmBy w).config = y.config := fun y => by
        unfold Watch.disarmBy
        split <;> rfl
      rw [State.rearm_watches, Table.get_map, disarm, Table.get_set]
      split
      · next same => rw [← same]; exact config
      · rfl
    | managed m commit images =>
      refine ⟨h.inForce, h.staged, fun c flight => ?_, fun i image held => ?_⟩
      · obtain before | ⟨-, settings⟩ := commit c flight
        · exact h.snapshot c before
        · rw [settings]; exact h.inForce
      · obtain before | ⟨c, flight, settings⟩ := images i image held
        · exact h.images i image before
        · rw [settings]; exact h.snapshot c flight
    | routeWritten i c sound =>
      refine h.rewritten (s.setRoute_settings i _) { h.inForce with routes := Table.forall_set h.inForce.routes (sound ?_) } rfl rfl rfl
      simpa [State.settings] using h.inForce.routes i
    | pointWritten p c sound =>
      refine h.rewritten (s.setPoint_settings p _) { h.inForce with points := Table.forall_set h.inForce.points (sound ?_) } rfl rfl rfl
      simpa [State.settings] using h.inForce.points p
    | outputWritten o c sound suits =>
      have same := State.SameConfig.writeOutput o c s
      have checked : c.Sound := sound (by simpa [State.settings] using h.inForce.outputs o)
      refine State.SettingsSound.of_same (s := s.setOutput o { s.outputs.get o with config := c })
        ⟨?_, fun k p pending => ?_, h.snapshot, h.images⟩ same
      · rw [State.setOutput_settings]
        refine h.inForce.set_output checked fun z named => State.SettingsSound.outputSuits_spec suits z ?_
        rw [State.get_settings_zone] at named
        simp [State.zoneNames, named]
      · obtain ⟨lane, zones⟩ := h.staged k p pending
        refine ⟨lane, fun i => ⟨(zones i).1, fun q named => ?_⟩⟩
        rw [State.setOutput_settings]
        dsimp only
        rw [Table.get_set]
        split
        · next eq =>
          refine State.SettingsSound.outputSuits_spec suits _ ?_
          have waits : (s.lanes.get k).pending = some p := pending
          simp [State.zoneNames, State.laneOfZone, laneOf_zoneAt, placeOf_zoneAt, waits, named, eq]
        · exact (zones i).2 q named
    | blowerWritten b c sound suits =>
      refine h.rewritten (s.setBlower_settings b _) (h.inForce.set_blower (sound ?_) fun serves j other serves' => ?_) rfl rfl rfl
      · simpa [State.settings] using h.inForce.blowers b
      · rw [State.get_settings_blower] at serves' ⊢
        unfold State.rankSuits at suits
        rw [serves] at suits
        have one := List.all_eq_true.1 suits j (mem_indices j)
        simpa [other, serves'] using one
    | returnWritten r c sound =>
      have config : ((s.returns.get r).rewrite c).config = c := by
        unfold ReturnLine.rewrite
        split <;> rfl
      refine h.rewritten (s.setReturn_settings r _) { h.inForce with returns := Table.forall_set h.inForce.returns ?_ } rfl rfl rfl
      rw [config]
      exact sound (by simpa [State.settings] using h.inForce.returns r)
    | watchWritten w c sound _ =>
      refine h.rewritten (s.setWatch_settings w _) { h.inForce with watches := ?_ } rfl rfl rfl
      exact Table.forall_set (P := fun w c => WatchConfig.Sound c w) h.inForce.watches (sound (by simpa [State.settings] using h.inForce.watches w))
    | plantWritten c sound =>
      exact h.rewritten (g := { s.settings with plant := c }) rfl { h.inForce with plant := sound h.inForce.plant } rfl rfl rfl
    | allocatorWritten c sound =>
      exact h.rewritten (g := { s.settings with allocator := c }) rfl { h.inForce with allocator := sound h.inForce.allocator } rfl rfl rfl
    | restarted => exact h.of_same s.restarted_same
    | _ => exact h.of_same (.of_but but (by decide))
  received s _ _ h := h.of_same ⟨rfl, fun _ => .inl rfl, rfl⟩
  carried s _ _ _ h := h.of_same ⟨rfl, fun _ => .inl rfl, rfl⟩
  resetAssert s h := by
    refine ⟨h.inForce, h.staged, fun c flight => ?_, fun i image held => ?_⟩
    · rw [show s.assertReset.management.commit = none from KeptByCommands.abandon_commit _] at flight
      cases flight
    · have held : s.management.abandon.images.get i = some image := held
      unfold Management.abandon at held
      split at held
      · exact h.images i image held
      · dsimp only at held
        rw [Table.get_set] at held
        split at held
        · cases held
        · exact h.images i image held
  startFrom s i image straps none held h :=
    h.started (s.fullReset_settings straps image.settings) (h.images i image held)
      (fun k => congrArg Lane.pending (Table.get_map Lane.fresh ..)) rfl rfl
  startDefault s straps _ h :=
    h.started (s.fullReset_settings straps Settings.default) .default (fun k => congrArg Lane.pending (Table.get_map Lane.fresh ..)) rfl rfl
  bypassEnd s _ _ h := h.of_same s.startReceiving_same
  tick s h := by
    unfold State.tick
    split
    · exact h
    · exact h.of_same ⟨rfl, fun _ => .inl rfl, rfl⟩
    · exact State.SettingsSound.of_same (s := s.tickCount) (h.of_same ⟨rfl, fun _ => .inl rfl, rfl⟩) s.tickCount.tickTimers_same
  pending s _ h := h.of_same ⟨rfl, fun _ => .inl rfl, rfl⟩

end Sys2Proof.Machine
end

section
/-! The values the part commands, holds and asks for stay within their bounds (R36, R81, R82, R90, R126, R139). -/
namespace Sys2Proof.Machine

/-! ### Outputs -/

namespace Output

variable {out : Output}

theorem restartResend_timer (out : Output) (still : out.config.resend = 0 → out.resendTimer = none) :
    out.restartResend.resendTimer.isSome = true ↔ out.config.resend ≠ 0 := by
  unfold restartResend
  split
  · next zero => simp [still zero, zero]
  · next on => simp [on]

theorem Sound.still (h : out.Sound) (zero : out.config.resend = 0) : out.resendTimer = none := by
  obtain ⟨-, timer, -⟩ := h
  by_contra runs
  exact (timer.1 (Option.isSome_iff_ne_none.2 runs)).2 zero

/-- A sound output that sends a value within its limits is sound again (R142). -/
theorem Sound.sent (h : out.Sound) {v : Int} (within : out.config.low ≤ v ∧ v ≤ out.config.high) (used : out.config.destination ≠ 0) (u : Bool) :
    (out.sent v u).Sound := by
  refine ⟨fun w last => ?_, ?_, fun unused => ?_⟩
  · rw [Output.sent_last] at last
    cases last
    rw [Output.sent_config]
    exact within
  · rw [Output.sent_last, Output.sent_config]
    have timer := restartResend_timer { out with last := some v } h.still
    simpa [Output.sent] using timer
  · rw [Output.sent_config] at unused
    exact absurd unused used

theorem Sound.used (h : out.Sound) {l : Int} (last : out.last = some l) : out.config.destination ≠ 0 := by
  obtain ⟨-, -, unused⟩ := h
  intro zero
  rw [unused zero] at last
  cases last

/-- An output restarted with its interval stays sound. -/
theorem Sound.restartResend (h : out.Sound) (running : out.resendTimer.isSome = true) : out.restartResend.Sound := by
  obtain ⟨within, timer, unused⟩ := h
  refine ⟨?_, ?_, ?_⟩
  · rw [State.restartResend_last, State.restartResend_config]; exact within
  · rw [State.restartResend_last, State.restartResend_config, restartResend_timer out (Sound.still ⟨within, timer, unused⟩)]
    exact ⟨fun on => ⟨(timer.1 running).1, on⟩, fun both => both.2⟩
  · rw [State.restartResend_last, State.restartResend_config]; exact unused

/-- A record on the way through a write: within its limits, and its timer as it was for the interval before (R144). -/
structure Midway (e : Output) (interval : Nat) : Prop where
  within : ∀ v, e.last = some v → e.config.low ≤ v ∧ v ≤ e.config.high
  unused : e.config.destination = 0 → e.last = none
  timer : e.resendTimer.isSome = true → e.last.isSome = true
  same : interval = e.config.resend → (e.resendTimer.isSome = true ↔ e.last.isSome = true ∧ e.config.resend ≠ 0)

/-- The written interval makes a record on its way sound: the timer stops, or it starts where there is a value (R144). -/
theorem Midway.timed {e : Output} {interval : Nat} (h : e.Midway interval) : (if interval ≠ e.config.resend then e.rewriteResend else e).Sound := by
  split
  · obtain ⟨config, -, last⟩ := e.rewriteResend_keeps
    refine ⟨by rw [config, last]; exact h.within, ?_, by rw [config, last]; exact h.unused⟩
    rw [config, last]
    unfold rewriteResend
    split
    · next zero => simp [zero]
    · next on =>
      split
      · next starts => simp [starts.2.2, on]
      · next stays =>
        refine ⟨fun runs => ⟨h.timer runs, on⟩, fun ⟨value, _⟩ => ?_⟩
        have used : e.config.unused = false := by
          by_contra unused
          have none := h.unused (by simpa [OutputConfig.unused] using unused)
          rw [none] at value
          cases value
        by_contra stopped
        exact stays ⟨used, by simpa using stopped, value⟩
  · next same => exact ⟨h.within, h.same (not_not.1 same), h.unused⟩

/-- A value outside moved limits is brought within them (R144). -/
theorem midway_reclamped {d : Output} {interval : Nat} (checked : d.config.Sound) (unused : d.config.destination = 0 → d.last = none)
    (timer : d.resendTimer.isSome = true → d.last.isSome = true)
    (same : interval = d.config.resend → (d.resendTimer.isSome = true ↔ d.last.isSome = true ∧ d.config.resend ≠ 0)) (u : Bool) :
    (d.reclamped u).Midway interval := by
  unfold reclamped
  split
  · next none => exact ⟨fun v last => (by rw [none] at last; cases last), unused, timer, same⟩
  · next l last =>
    split
    · next within => exact ⟨fun v value => by
        rw [last] at value
        cases value
        rw [← within]
        exact State.OutputConfig.limit_within checked l, unused, timer, same⟩
    · have runs : (d.sent (d.config.limit l) u).resendTimer.isSome = true ↔ d.resendTimer.isSome = true ∨ d.config.resend ≠ 0 := by
        unfold sent Output.restartResend
        dsimp only
        split
        · next zero => simp [zero]
        · next on => simp [on]
      refine ⟨fun v value => ?_, fun zero => ?_, fun _ => by rw [Output.sent_last]; rfl, fun eq => ?_⟩
      · rw [Output.sent_last] at value
        cases value
        rw [Output.sent_config]
        exact State.OutputConfig.limit_within checked l
      · rw [Output.sent_config] at zero
        rw [unused zero] at last
        cases last
      · rw [Output.sent_config] at eq
        have still := same eq
        rw [last] at still
        rw [runs, still, Output.sent_last, Output.sent_config]
        simp

/-- The record of a written output is sound where the configuration passes its checks (R140, R144). -/
theorem Sound.rewritten (h : out.Sound) {c : OutputConfig} (checked : c.Sound) (r u : Bool) : (out.rewritten c r u).Sound := by
  obtain ⟨within, timer, unused⟩ := h
  have written : ∀ d : Output, d.config = c →
      ((d.last = none ∧ d.resendTimer = none) ∨ (d.last = out.last ∧ d.resendTimer = out.resendTimer ∧ out.config.destination = c.destination)) →
      (if out.config.low ≠ c.low ∨ out.config.high ≠ c.high then d.reclamped u else d).Midway out.config.resend := by
    intro d config follows
    have unused' : d.config.destination = 0 → d.last = none := fun zero => by
      obtain ⟨none, -⟩ | ⟨last, -, destination⟩ := follows
      · exact none
      · rw [last]
        exact unused (by rw [destination, ← config]; exact zero)
    have timer' : d.resendTimer.isSome = true → d.last.isSome = true := fun runs => by
      obtain ⟨-, stopped⟩ | ⟨last, same, -⟩ := follows
      · rw [stopped] at runs; cases runs
      · rw [last]
        exact (timer.1 (same ▸ runs)).1
    have same' : out.config.resend = d.config.resend → (d.resendTimer.isSome = true ↔ d.last.isSome = true ∧ d.config.resend ≠ 0) := fun eq => by
      obtain ⟨none, stopped⟩ | ⟨last, same, -⟩ := follows
      · simp [none, stopped]
      · rw [last, same, ← eq]
        exact timer
    split
    · exact midway_reclamped (config ▸ checked) unused' timer' same' u
    · next limits =>
      refine ⟨fun v value => ?_, unused', timer', same'⟩
      obtain ⟨none, -⟩ | ⟨last, -, -⟩ := follows
      · rw [none] at value; cases value
      · obtain ⟨low, high⟩ := not_or.1 limits
        rw [config, ← not_not.1 low, ← not_not.1 high]
        exact within v (last ▸ value)
  have timed : ∀ e : Output, e.config = c → e.Midway out.config.resend →
      (if out.config.resend ≠ c.resend then e.rewriteResend else e).Sound := by
    rintro e rfl midway
    exact midway.timed
  refine timed _ ?_ (written _ ?_ ?_)
  · split
    · rw [reclamped_config]
      split <;> split <;> rfl
    · split <;> split <;> rfl
  · split <;> split <;> rfl
  · by_cases moved : moves out.config c
    · refine .inl ?_
      rw [if_pos moved]
      split <;> exact ⟨rfl, rfl⟩
    · refine .inr ?_
      rw [if_neg moved]
      have destination : out.config.destination = c.destination := not_not.1 (not_or.1 moved).1
      split <;> exact ⟨rfl, rfl, destination⟩

end Output

/-- Every output is sound, and every configuration checked. -/
structure State.OutputsSound (s : State) : Prop where
  settings : s.SettingsSound
  outputs : ∀ o, (s.outputs.get o).Sound

namespace State.OutputsSound

variable {s t : State}

theorem of_same (h : s.OutputsSound) (settings : t.SettingsSound) (same : t.outputs = s.outputs) : t.OutputsSound :=
  ⟨settings, by rw [same]; exact h.outputs⟩

theorem set_output (h : s.OutputsSound) (settings : t.SettingsSound) {o : OutputIdx} {out : Output} (outputs : t.outputs = s.outputs.set o out)
    (sound : (s.outputs.get o).config.Sound → (s.outputs.get o).Sound → out.Sound) : t.OutputsSound := by
  have checked : (s.outputs.get o).config.Sound := by simpa [State.settings] using h.settings.inForce.outputs o
  refine ⟨settings, ?_⟩
  rw [outputs]
  exact Table.forall_set (P := fun _ out => Output.Sound out) h.outputs (sound checked (h.outputs o))

theorem anew (settings : s.SettingsSound) {c : OutputIdx → OutputConfig} (fresh : ∀ o, s.outputs.get o = Output.fresh (c o)) : s.OutputsSound := by
  refine ⟨settings, fun o => ?_⟩
  rw [fresh]
  exact ⟨nofun, ⟨nofun, nofun⟩, fun _ => rfl⟩

end State.OutputsSound

theorem outputsSound_kept : KeptByAll [] State.OutputsSound where
  closed := by decide
  move {_ _ s _} apart m h := by
    have settings := settingsSound_kept.move apart m h.settings
    have but := m.but
    cases m with
    | offered o v used =>
      obtain ⟨u, outputs⟩ := State.sendValue_outputs o ((s.outputs.get o).config.limit v) s
      exact h.set_output settings outputs fun checked sound => sound.sent (State.OutputConfig.limit_within checked v) (by simpa [OutputConfig.unused] using used) u
    | released o => exact h.set_output settings rfl fun _ sound => sound
    | _ => exact h.of_same settings (but .outputs (by decide))
  tripLane := by simp
  fire := by simp
  changeStorm := by simp
  event {_ s _} e h := by
    have settings := settingsSound_kept.event e h.settings
    have but := e.but
    cases e with
    | noted o v used within =>
      refine h.set_output settings (State.noteValue_outputs o v s) fun checked sound => ?_
      have value : (Output.sent { s.outputs.get o with unsent := false } v false).Sound :=
        Output.Sound.sent (out := { s.outputs.get o with unsent := false }) sound (within checked) (by simpa [OutputConfig.unused] using used) false
      unfold Output.sent Output.restartResend at value
      unfold Output.restartResend
      split
      · next zero => simpa only [if_pos zero] using value
      · next on => simpa only [if_neg on] using value
    | supervised o leased untripped => exact h.set_output settings rfl fun _ sound => sound
    | resent o running =>
      have sound := h.outputs o
      unfold State.resend at settings ⊢
      dsimp only at settings ⊢
      split at settings
      · next l auto last =>
        obtain ⟨u, outputs⟩ := State.sendValue_outputs o l s
        obtain ⟨within, -, -⟩ := sound
        exact h.set_output settings outputs fun _ sound => sound.sent (within l last) (sound.used last) u
      · next auto none => exact h.set_output settings rfl fun _ ⟨within, _, unused⟩ => ⟨within, by simp [none], unused⟩
      · exact h.set_output settings rfl fun _ sound => sound.restartResend running
    | outputWritten o c sound suits =>
      obtain ⟨u, outputs⟩ := State.writeOutput_outputs o c s
      exact h.set_output settings outputs fun checked old => old.rewritten (sound checked) _ u
    | restarted =>
      refine ⟨settings, fun o => ?_⟩
      have outputs : s.restartRingAndOutputs.restartBlocks.outputs = Table.build fun o => (s.outputs.get o).restart (s.ring.hasCommand o) := rfl
      obtain ⟨within, timer, unused⟩ := h.outputs o
      rw [outputs, Table.get_build]
      refine ⟨within, ?_, unused⟩
      unfold Output.restart
      dsimp only
      split
      · next starts => exact ⟨fun _ => starts, fun _ => rfl⟩
      · next stays => exact ⟨nofun, fun starts => absurd starts stays⟩
    | _ => exact h.of_same settings (but .outputs (by decide))
  received s bytes running h := h.of_same (settingsSound_kept.received s bytes running h.settings) rfl
  carried s p q stopped h := h.of_same (settingsSound_kept.carried s p q stopped h.settings) rfl
  resetAssert s h := h.of_same (settingsSound_kept.resetAssert s h.settings) rfl
  startFrom s i image straps none held h :=
    .anew (settingsSound_kept.startFrom s i image straps none held h.settings) (c := fun o => image.settings.outputs.get o) fun o => Table.get_map ..
  startDefault s straps none h :=
    .anew (settingsSound_kept.startDefault s straps none h.settings) (c := fun o => Settings.default.outputs.get o) fun o => Table.get_map ..
  bypassEnd s bypass clear h := h.of_same (settingsSound_kept.bypassEnd s bypass clear h.settings) rfl
  tick s h := by
    have settings := settingsSound_kept.tick s h.settings
    unfold State.tick at settings ⊢
    split at settings
    · exact h
    · exact h.of_same settings rfl
    · refine ⟨settings, fun o => ?_⟩
      have outputs : s.tickCount.tickTimers.outputs = s.outputs.map fun o => { o with resendTimer := countDown o.resendTimer } := rfl
      obtain ⟨within, timer, unused⟩ := h.outputs o
      rw [outputs, Table.get_map]
      refine ⟨within, ?_, unused⟩
      rw [countDown_isSome]
      exact timer
  pending s commands h := h.of_same (settingsSound_kept.pending s commands h.settings) rfl

end Sys2Proof.Machine
end

section
/-! The targets of the return lines and the values of the zones stay within their bounds, and an idle zone asks for no air (R81, R82, R90, R126). -/
namespace Sys2Proof.Machine

/-! ### Return lines -/

theorem ReturnLine.fresh_sound {c : ReturnConfig} (checked : c.Sound) (timer : Option Nat) :
    ReturnLine.Sound { ReturnLine.fresh c with timer := timer } := ⟨le_rfl, checked.1⟩

theorem ReturnLine.rewrite_sound {l : ReturnLine} {c : ReturnConfig} (checked : c.Sound) (sound : l.Sound) : (l.rewrite c).Sound := by
  obtain ⟨order, -⟩ := checked
  have limited : ∀ t, c.minFlow ≤ c.limit t ∧ c.limit t ≤ c.maxFlow := fun t => clampNat_bounds t order
  unfold ReturnLine.Sound at sound
  unfold ReturnLine.rewrite
  split
  · next stopped =>
    rw [stopped] at sound
    unfold ReturnLine.Sound
    rw [stopped]
    exact sound
  · next h held =>
    rw [held] at sound
    exact ⟨by rw [sound.1], limited h⟩
  · next state => unfold ReturnLine.Sound; rw [state]; exact limited _
  · next state => unfold ReturnLine.Sound; rw [state]; exact limited _
  · next state => unfold ReturnLine.Sound; rw [state]; exact limited _

/-- Every return line is sound, and every configuration checked. -/
structure State.ReturnsSound (s : State) : Prop where
  settings : s.SettingsSound
  returns : ∀ r, (s.returns.get r).Sound

namespace State.ReturnsSound

variable {s t : State}

theorem of_same (h : s.ReturnsSound) (settings : t.SettingsSound) (same : t.returns = s.returns) : t.ReturnsSound :=
  ⟨settings, by rw [same]; exact h.returns⟩

theorem checked (h : s.ReturnsSound) (r : LineIdx) : (s.returns.get r).config.Sound := by
  simpa [State.settings] using h.settings.inForce.returns r

theorem set_return (h : s.ReturnsSound) {r : LineIdx} {l : ReturnLine} (settings : (s.setReturn r l).SettingsSound) (sound : l.Sound) :
    (s.setReturn r l).ReturnsSound :=
  ⟨settings, Table.forall_set (P := fun _ l => ReturnLine.Sound l) h.returns sound⟩

end State.ReturnsSound

theorem returnsSound_kept : KeptByAll [] State.ReturnsSound where
  closed := by decide
  move apart m h := h.of_same (settingsSound_kept.move apart m h.settings) (m.but .returns (by cases m <;> decide))
  tripLane := by simp
  fire := by simp
  changeStorm := by simp
  event {_ s _} e h := by
    have settings := settingsSound_kept.event e h.settings
    have but := e.but
    cases e with
    | paced r l config timer sound => exact h.set_return settings (sound (h.checked r) (h.returns r))
    | returnWritten r c sound => exact h.set_return settings (ReturnLine.rewrite_sound (sound (h.checked r)) (h.returns r))
    | restarted =>
      refine ⟨settings, fun r => ?_⟩
      have returns : s.restartRingAndOutputs.restartBlocks.returns = s.returns.map fun r => (ReturnLine.fresh r.config).startTimer := rfl
      rw [returns, Table.get_map]
      exact ReturnLine.fresh_sound (h.checked r) _
    | _ => exact h.of_same settings (but .returns (by decide))
  received s bytes running h := h.of_same (settingsSound_kept.received s bytes running h.settings) rfl
  carried s p q stopped h := h.of_same (settingsSound_kept.carried s p q stopped h.settings) rfl
  resetAssert s h := h.of_same (settingsSound_kept.resetAssert s h.settings) rfl
  startFrom s i image straps none held h := by
    refine ⟨settingsSound_kept.startFrom s i image straps none held h.settings, fun r => ?_⟩
    have returns : (s.startFrom i image straps).returns.get r = ReturnLine.fresh (image.settings.returns.get r) := Table.get_map ..
    rw [returns]
    exact ReturnLine.fresh_sound ((h.settings.images i image held).returns r) _
  startDefault s straps none h := by
    have settings := settingsSound_kept.startDefault s straps none h.settings
    refine ⟨settings, fun r => ?_⟩
    have returns : ∀ m, ((s.fullReset straps Settings.default).withManagement m).returns.get r = ReturnLine.fresh (Settings.default.returns.get r) :=
      fun m => Table.get_map ..
    rw [returns]
    exact ReturnLine.fresh_sound (Settings.Sound.default.returns r) _
  bypassEnd s bypass clear h := by
    refine ⟨settingsSound_kept.bypassEnd s bypass clear h.settings, fun r => ?_⟩
    have returns : s.startReceiving.returns = s.returns.map ReturnLine.startTimer := rfl
    rw [returns, Table.get_map]
    exact h.returns r
  tick s h := by
    have settings := settingsSound_kept.tick s h.settings
    unfold State.tick at settings ⊢
    split at settings
    · exact h
    · exact h.of_same settings rfl
    · refine ⟨settings, fun r => ?_⟩
      have returns : s.tickCount.tickTimers.returns = s.returns.map fun r => { r with timer := countDown r.timer } := rfl
      rw [returns, Table.get_map]
      exact h.returns r
  pending s commands h := h.of_same (settingsSound_kept.pending s commands h.settings) rfl

/-! ### Zones -/

theorem Zone.initial_sound {c : ZoneConfig} (checked : c.Sound) : (Zone.initial c).Sound := by
  obtain ⟨low, high, -, -, -, order, top, -⟩ := checked
  exact ⟨low, high, (clampNat_bounds _ order).2.trans top, nofun⟩

theorem Zone.fresh_sound {c : ZoneConfig} (checked : c.Sound) (l : Lane) (p : Fin 4) : (Zone.fresh l p c).Sound := by
  obtain ⟨low, high, demand, grant⟩ := Zone.initial_sound checked
  obtain ⟨-, -, -, -, -, -, -, -, trip, -⟩ := checked
  unfold Zone.fresh
  split
  · exact ⟨low, high, Nat.zero_le _, grant⟩
  · split
    · exact ⟨low, high, trip, grant⟩
    all_goals exact ⟨low, high, demand, grant⟩

theorem Zone.fresh_idle {l : Lane} {p : Fin 4} (c : ZoneConfig) (idle : l.idles p = true) : (Zone.fresh l p c).demand = 0 := by
  unfold Zone.fresh
  rw [if_pos idle]

theorem Zone.applied_sound {zn : Zone} {c : ZoneConfig} (checked : c.Sound) (sound : zn.Sound) (was is : Bool) : (zn.applied c was is).Sound := by
  obtain ⟨low, high, demand, grant⟩ := sound
  unfold Zone.applied
  dsimp only
  split
  · exact ⟨low, high, Nat.zero_le _, grant⟩
  · split
    · exact Zone.initial_sound checked
    · exact ⟨low, high, demand, grant⟩

theorem Zone.applied_idle {zn : Zone} (c : ZoneConfig) {was is : Bool} (idle : is = true) (before : was = true → zn.demand = 0) :
    (zn.applied c was is).demand = 0 := by
  unfold Zone.applied
  cases was with
  | true => simp [idle, before rfl]
  | false => simp [idle, Zone.withDemand]

theorem Lane.idles_iff (l : Lane) (p : Fin 4) : l.idles p = true ↔ l.state.regime = .offline ∨ l.config.zoneCount ≤ p.val := by
  cases state : l.state <;> simp [Lane.idles, state, LaneState.regime]

theorem Lane.idles_congr {l m : Lane} (regime : m.state.regime = .offline ↔ l.state.regime = .offline)
    (count : m.config.zoneCount = l.config.zoneCount) (p : Fin 4) : m.idles p = l.idles p := by
  rw [Bool.eq_iff_iff, Lane.idles_iff, Lane.idles_iff, regime, count]

/-- Every zone is sound, an idle one asks for no air, and every configuration is checked. -/
structure State.ZonesSound (s : State) : Prop where
  settings : s.SettingsSound
  zones : ∀ z, (s.zones.get z).Sound
  idle : ∀ z, s.isIdle z = true → (s.zones.get z).demand = 0

namespace State

variable {s t : State}

theorem eachWorking_zones (k : LaneIdx) (f : Zone → Zone) (s : State) (z : ZoneIdx) :
    (s.eachWorking k f).zones.get z = if laneOf z = k ∧ s.isIdle z = false then f (s.zones.get z) else s.zones.get z := by
  have one : ∀ z u, (fun u : State => u.lanes = s.lanes) u → (if u.isIdle z then u else u.setZone z (f (u.zones.get z))).zones =
      u.zones.set z (if s.isIdle z = false then f (u.zones.get z) else u.zones.get z) := by
    intro z u lanes
    rw [isIdle_of_lane lanes]
    cases s.isIdle z with
    | true => exact (Table.set_get u.zones z).symm
    | false => rfl
  unfold eachWorking
  rw [each_table_of State.zones (I := fun u => u.lanes = s.lanes) (g := fun z zn => if s.isIdle z = false then f zn else zn) one
    (fun z u lanes => ?_) _ (zonesOf_nodup k) rfl]
  · simp only [mem_zonesOf]
    by_cases mine : laneOf z = k <;> simp [mine]
  · split
    · exact lanes
    · exact lanes

theorem offlineZones_zones (k : LaneIdx) (s : State) (z : ZoneIdx) :
    (s.offlineZones k).zones.get z = if laneOf z = k then (s.zones.get z).withDemand 0 else s.zones.get z := by
  unfold offlineZones
  rw [each_table State.zones (g := fun _ zn => zn.withDemand 0) (fun _ _ => rfl) _ (zonesOf_nodup k)]
  simp only [mem_zonesOf]

/-- Two states' zones hold the same setpoints, demands and grants. -/
def SameAir (s t : State) : Prop := ∀ z, (t.zones.get z).setpoint = (s.zones.get z).setpoint ∧
  (t.zones.get z).demand = (s.zones.get z).demand ∧ (t.zones.get z).grant = (s.zones.get z).grant

namespace SameAir

theorem of_zones (h : t.zones = s.zones) : SameAir s t := fun z => by rw [h]; exact ⟨rfl, rfl, rfl⟩

theorem trans {u : State} (h : SameAir s t) (k : SameAir t u) : SameAir s u := fun z => by
  obtain ⟨a, b, c⟩ := h z
  obtain ⟨a', b', c'⟩ := k z
  exact ⟨a'.trans a, b'.trans b, c'.trans c⟩

theorem each {α : Type} {f : α → State → State} (one : ∀ a s, SameAir s (f a s)) (l : List α) (s : State) : SameAir s (s.each l f) := by
  induction l generalizing s with
  | nil => exact of_zones rfl
  | cons a l ih => exact (one a s).trans (ih (f a s))

theorem decideMode (z : ZoneIdx) (s : State) : SameAir s (s.decideMode z) := by
  unfold State.decideMode
  extract_lets zn m
  split
  · exact of_zones rfl
  · intro y
    have get : ∀ e, ((s.setZone z { zn with mode := m, reseed := zn.reseed || m == .doControl }).capture e).zones.get y =
        if z = y then { zn with mode := m, reseed := zn.reseed || m == .doControl } else s.zones.get y := fun e => Table.get_set ..
    rw [get]
    split
    · next same => rw [← same]; exact ⟨rfl, rfl, rfl⟩
    · exact ⟨rfl, rfl, rfl⟩

theorem changeOutput (o : OutputIdx) (new : OutputState) (s : State) : SameAir s (s.changeOutput o new) := by
  unfold State.changeOutput
  extract_lets out
  split
  · exact of_zones rfl
  · refine SameAir.trans (t := (s.setOutput o { out with state := new }).capture (.override o out.state new)) (of_zones rfl)
      (.each (fun z u => ?_) _ _)
    split
    · exact decideMode z u
    · exact of_zones rfl

theorem writeOutput (o : OutputIdx) (c : OutputConfig) (s : State) : SameAir s (s.writeOutput o c) := by
  unfold State.writeOutput
  extract_lets old _ s1 s2 s3 s4
  have h1 : SameAir s s1 := of_zones rfl
  have h2 : SameAir s1 s2 := by
    simp only [s2]
    split
    · unfold reassignOutput
      extract_lets _ cleared
      have detached : SameAir s1 (cleared.withRing (cleared.ring.detach o)) := of_zones rfl
      exact detached.trans (changeOutput o .auto _)
    · exact of_zones rfl
  have h3 : SameAir s2 s3 := by
    simp only [s3]
    split
    · exact changeOutput o .auto s2
    · exact of_zones rfl
  have h4 : SameAir s3 s4 := by
    simp only [s4]
    split
    · exact of_zones (s3.reclampOutput_but o .zones (by decide))
    · exact of_zones rfl
  refine ((h1.trans h2).trans h3).trans (h4.trans ?_)
  split <;> exact of_zones rfl

end SameAir

theorem changeRegime_zones (k : LaneIdx) (new : LaneState) (s : State) :
    (s.changeRegime k new).zones = (if (s.lanes.get k).state.isEconomy then s.endCycle k else s).zones := by
  unfold changeRegime
  rfl

theorem fullReset_zones (straps : BitVec 8) (g : Settings) (s : State) (z : ZoneIdx) : (s.fullReset straps g).zones.get z =
    Zone.fresh ((s.fullReset straps g).lanes.get (laneOf z)) (placeOf z) ((s.fullReset straps g).zones.get z).config := by
  have zones : (s.fullReset straps g).zones.get z = Zone.fresh ((g.lanes.map Lane.fresh).get (laneOf z)) (placeOf z) (g.zones.get z) :=
    Table.get_build ..
  rw [zones, Zone.fresh_config]
  rfl

namespace ZonesSound

theorem of_same (h : s.ZonesSound) (settings : t.SettingsSound) (zones : t.zones = s.zones)
    (idle : ∀ z, t.isIdle z = true → s.isIdle z = true) : t.ZonesSound :=
  ⟨settings, by rw [zones]; exact h.zones, fun z is => by rw [zones]; exact h.idle z (idle z is)⟩

theorem checked (h : s.ZonesSound) (z : ZoneIdx) : (s.zones.get z).config.Sound := by
  rw [← get_settings_zone]
  exact h.settings.inForce.zones z

/-- One lane's record moves on, OFFLINE and zone count as they were. -/
theorem set_lane (h : s.ZonesSound) {k : LaneIdx} {l : Lane} (settings : t.SettingsSound) (zones : t.zones = s.zones)
    (lanes : t.lanes = s.lanes.set k l) (regime : l.state.regime = .offline ↔ (s.lanes.get k).state.regime = .offline)
    (count : l.config.zoneCount = (s.lanes.get k).config.zoneCount) : t.ZonesSound := by
  refine h.of_same settings zones fun z is => ?_
  unfold isIdle laneOfZone at is ⊢
  rw [lanes, Table.get_set] at is
  split at is
  · next same =>
    rw [Lane.idles_congr regime count] at is
    rw [← same]
    exact is
  · exact is

theorem map_lanes (h : s.ZonesSound) {f : Lane → Lane} (settings : t.SettingsSound) (zones : t.zones = s.zones)
    (lanes : t.lanes = s.lanes.map f) (regime : ∀ l, (f l).state.regime = l.state.regime) (config : ∀ l, (f l).config = l.config) :
    t.ZonesSound := by
  refine h.of_same settings zones fun z is => ?_
  unfold isIdle laneOfZone at is ⊢
  rw [lanes, Table.get_map] at is
  rwa [Lane.idles_congr (l := s.lanes.get (laneOf z)) (by rw [regime]) (by rw [config])] at is

theorem anew (settings : s.SettingsSound) (zones : ∀ z, s.zones.get z = Zone.fresh (s.lanes.get (laneOf z)) (placeOf z) (s.zones.get z).config) :
    s.ZonesSound := by
  have checked : ∀ z, (s.zones.get z).config.Sound := fun z => by
    rw [← get_settings_zone]
    exact settings.inForce.zones z
  refine ⟨settings, fun z => ?_, fun z is => ?_⟩
  · rw [zones]
    exact Zone.fresh_sound (checked z) _ _
  · rw [zones]
    exact Zone.fresh_idle _ is

end ZonesSound
end State

/-- Every move keeps the zones sound. -/
theorem zonesSound_move {g : Gap} {c : List Part} {s t : State} (m : Move g c s t) (h : s.ZonesSound) : t.ZonesSound := by
  have settings := h.settings.of_same m.sameConfig
  have but := m.but
  cases m with
  | zone z zn follows =>
    refine ⟨settings, Table.forall_set (P := fun _ zn => Zone.Sound zn) h.zones (follows.sound (h.checked z) (h.zones z)), ?_⟩
    refine Table.forall_set (P := fun y (zn : Zone) => s.isIdle y = true → zn.demand = 0) h.idle fun idle => ?_
    exact follows.idle idle (h.idle z idle)
  | lane g k l follows trips agrees => exact h.set_lane settings rfl rfl follows.offline (by rw [follows.config])
  | _ => exact h.of_same settings (but .zones (by decide)) fun z => by rw [State.isIdle_of_lane (but .lanes (by decide))]; exact id

theorem zonesSound_moves : Kept [] State.ZonesSound where
  closed := by decide
  move _ m h := zonesSound_move m h
  tripLane := by simp
  fire := by simp
  changeStorm := by simp

theorem zonesSound_kept : KeptByAll [] State.ZonesSound where
  toKept := zonesSound_moves
  event {_ s _} e h := by
    have settings := settingsSound_kept.event e h.settings
    have but := e.but
    cases e with
    | applied k =>
      cases pending : (s.lanes.get k).pending with
      | none => rw [State.applyPending_of_none pending]; exact h
      | some p =>
        obtain ⟨lane, zones⟩ := h.settings.staged k p pending
        have get := State.applyPending_zones pending
        refine ⟨settings, fun z => ?_, fun z idle => ?_⟩
        · rw [get]
          split
          · exact Zone.applied_sound (zones _).1 (h.zones z) _ _
          · exact h.zones z
        · unfold State.isIdle State.laneOfZone at idle
          rw [State.applyPending_lanes, Table.get_set] at idle
          rw [get]
          split
          · next mine =>
            subst mine
            rw [if_pos rfl] at idle
            exact Zone.applied_idle _ idle fun was => h.idle z was
          · next other =>
            rw [if_neg fun eq => other eq.symm] at idle
            exact h.idle z idle
    | period k _ => exact h.set_lane settings rfl rfl .rfl rfl
    | offline k working =>
      have ended : (if (s.lanes.get k).state.isEconomy then s.endCycle k else s).ZonesSound := by
        split
        · exact zonesSound_moves.endCycle h k
        · exact h
      have lanes : (if (s.lanes.get k).state.isEconomy then s.endCycle k else s).lanes = s.lanes := by
        split
        · exact State.endCycle_but k s .lanes (by decide)
        · rfl
      have get : ∀ z, (((s.changeRegime k .offline).setLane k
          { (s.changeRegime k .offline).lanes.get k with timer := none }).offlineZones k).zones.get z = if laneOf z = k then
          ((if (s.lanes.get k).state.isEconomy then s.endCycle k else s).zones.get z).withDemand 0
          else (if (s.lanes.get k).state.isEconomy then s.endCycle k else s).zones.get z := fun z => by
        rw [State.offlineZones_zones]
        rfl
      refine ⟨settings, fun z => ?_, fun z idle => ?_⟩
      · obtain ⟨low, high, demand, grant⟩ := ended.zones z
        rw [get]
        split
        · exact ⟨low, high, Nat.zero_le _, grant⟩
        · exact ⟨low, high, demand, grant⟩
      · rw [get]
        split
        · rfl
        · next other =>
          refine ended.idle z ?_
          unfold State.isIdle State.laneOfZone at idle ⊢
          rw [State.offline_lanes, Table.get_set, if_neg fun eq => other eq.symm] at idle
          rw [lanes]
          exact idle
    | online k new old working agrees =>
      have same : (s.changeRegime k new).zones = s.zones := by
        rw [State.changeRegime_zones, if_neg fun economy => by rw [(State.isEconomy_iff _).1 economy] at old; cases old]
      have get : ∀ z, (((s.changeRegime k new).initialZones k).startPeriod k).zones.get z =
          if laneOf z = k ∧ (s.changeRegime k new).isIdle z = false then Zone.initial (s.zones.get z).config else s.zones.get z := fun z => by
        rw [State.startPeriod_but k _ .zones (by decide)]
        unfold State.initialZones
        rw [State.eachWorking_zones, same]
      refine ⟨settings, fun z => ?_, fun z idle => ?_⟩
      · rw [get]
        split
        · exact Zone.initial_sound (h.checked z)
        · exact h.zones z
      · rw [get]
        have stays : (s.changeRegime k new).isIdle z = true := by
          unfold State.isIdle State.laneOfZone at idle ⊢
          rw [State.online_lanes, Table.get_set] at idle
          rw [State.changeRegime_lanes, Table.get_set]
          split at idle
          · next mine => rw [if_pos mine]; exact idle
          · next other => rw [if_neg other]; exact idle
        rw [if_neg fun both => by rw [stays] at both; cases both.2]
        refine h.idle z ?_
        unfold State.isIdle State.laneOfZone at stays ⊢
        rw [State.changeRegime_lanes, Table.get_set] at stays
        split at stays
        · next mine => exact (Lane.idles_iff _ _).2 (.inl (mine ▸ old))
        · exact stays
    | staged k p _ => exact h.set_lane settings rfl rfl .rfl rfl
    | outputWritten o c sound suits =>
      have air := State.SameAir.writeOutput o c s
      refine ⟨settings, fun z => ?_, fun z idle => ?_⟩
      · obtain ⟨setpoint, demand, grant⟩ := air z
        unfold Zone.Sound
        rw [setpoint, demand, grant]
        exact h.zones z
      · obtain ⟨-, demand, -⟩ := air z
        rw [demand]
        rw [State.isIdle_of_lane (but .lanes (by decide))] at idle
        exact h.idle z idle
    | restarted =>
      refine .anew settings fun z => ?_
      have lanes : s.restartRingAndOutputs.restartBlocks.lanes = s.lanes.map Lane.restart := rfl
      have zones : s.restartRingAndOutputs.restartBlocks.zones = Table.build fun z =>
          Zone.fresh ((s.lanes.map Lane.restart).get (laneOf z)) (placeOf z) (s.zones.get z).config := rfl
      rw [lanes, zones, Table.get_build, Zone.fresh_config]
    | _ => exact h.of_same settings (but .zones (by decide)) fun z => by rw [State.isIdle_of_lane (but .lanes (by decide))]; exact id
  received s bytes running h := h.of_same (settingsSound_kept.received s bytes running h.settings) rfl fun _ => id
  carried s p q stopped h := h.of_same (settingsSound_kept.carried s p q stopped h.settings) rfl fun _ => id
  resetAssert s h := h.of_same (settingsSound_kept.resetAssert s h.settings) rfl fun _ => id
  startFrom s i image straps none held h := .anew (settingsSound_kept.startFrom s i image straps none held h.settings)
    (s.fullReset_zones straps image.settings)
  startDefault s straps none h := .anew (settingsSound_kept.startDefault s straps none h.settings)
    (s.fullReset_zones straps Settings.default)
  bypassEnd s bypass clear h :=
    h.map_lanes (f := Lane.startTimer) (settingsSound_kept.bypassEnd s bypass clear h.settings) rfl rfl (fun _ => rfl) fun _ => rfl
  tick s h := by
    have settings := settingsSound_kept.tick s h.settings
    unfold State.tick at settings ⊢
    split at settings
    · exact h
    · exact h.of_same settings rfl fun _ => id
    · exact h.map_lanes (f := fun l => { l with timer := countDown l.timer, state := l.state.tick }) settings rfl rfl
        (fun l => LaneState.tick_regime _) fun _ => rfl
  pending s commands h := h.of_same (settingsSound_kept.pending s commands h.settings) rfl fun _ => id

theorem State.valuesSound_iff (s : State) : s.ValuesSound ↔ s.OutputsSound ∧ s.ReturnsSound ∧ s.ZonesSound :=
  ⟨fun h => ⟨⟨h.settings, h.outputs⟩, ⟨h.settings, h.returns⟩, ⟨h.settings, h.zones, h.idle⟩⟩,
    fun ⟨o, r, z⟩ => ⟨o.settings, o.outputs, r.returns, z.zones, z.idle⟩⟩

/-- Settles O57: moves keep every configuration and its values, writes and applied pending sets put checked values in their place. -/
theorem stepsKeepSettingsAndValuesSound : Obligations.StepsKeepSettingsAndValuesSound := by
  intro s t next
  rw [State.valuesSound_iff, State.valuesSound_iff]
  exact ⟨fun h => settingsSound_kept.step h next, fun ⟨outputs, returns, zones⟩ =>
    ⟨outputsSound_kept.step outputs next, returnsSound_kept.step returns next, zonesSound_kept.step zones next⟩⟩

end Sys2Proof.Machine
end

section
/-! Steps, the passing of time, the fall of RESETn and start-up (R2, R190). -/
namespace Sys2Proof.Machine

/-- Settles O1: the step of a state with a command at the front of its queue. -/
theorem stepRunsFrontCommand : Obligations.StepRunsFrontCommand := by
  intro s c rest queued
  simp only [step, queued]

/-! ### Commands outside a running part -/

/-- The queue of commands is no part of any move, event, byte or reset. -/
theorem pending_kept (queue : List Instr) : KeptByCommands [] (fun s => s.pending = queue) where
  closed := by decide
  move _ m h := (m.but .pending (by cases m <;> decide)).trans h
  tripLane := by simp
  fire := by simp
  changeStorm := by simp
  event e h := (e.but .pending (by cases e <;> decide)).trans h
  received _ _ _ h := h
  carried _ _ _ _ h := h
  resetAssert _ h := h
  startFrom _ _ _ _ _ _ h := h
  startDefault _ _ _ h := h
  bypassEnd _ _ _ h := h

namespace State

variable {s : State}

theorem requestArrives_of_stopped (stopped : s.power ≠ .running) (src : Addr) (code tag : Byte) (r : Option Request) :
    s.requestArrives src code tag r = s := by
  unfold requestArrives
  split
  · exact absurd ‹_› stopped
  all_goals rfl

theorem expire_of_stopped (stopped : s.power ≠ .running) (running : Bool) (f : State → State) : s.expire running f = s := by
  unfold expire
  split
  · exact absurd ‹_› stopped
  all_goals rfl

theorem receive_of_stopped (stopped : s.power ≠ .running) (bytes : List Byte) : s.receive bytes = s.passThrough bytes := by
  unfold receive
  split
  · exact absurd ‹_› stopped
  all_goals rfl

theorem receiveBroken_of_stopped (stopped : s.power ≠ .running) (bytes : List Byte) : s.receiveBroken bytes = s.passBroken bytes := by
  unfold receiveBroken
  split
  · exact absurd ‹_› stopped
  all_goals rfl

/-- A command that no part of the reset and bypass reacts to leaves a part that does not run alone (log entries 4 and 20). -/
theorem exec_of_stopped (stopped : s.power ≠ .running) (c : Instr) (noAssert : c ≠ .resetAssert) (noStart : ∀ straps, c ≠ .startUp straps)
    (noEnd : c ≠ .bypassEnd) (noSent : c ≠ .frameSent) (noCommit : ∀ ok, c ≠ .commitCompletion ok)
    (noBytes : ∀ bytes, c ≠ .frameArrival bytes ∧ c ≠ .ringInIdleInFrame bytes) : exec c s = .next s := by
  have request : ∀ src code tag r, Host.Outcome.next (s.requestArrives src code tag r) = (.next s : Host.Outcome State Fault Refusal) :=
    fun src code tag r => congrArg Host.Outcome.next (requestArrives_of_stopped stopped ..)
  have expiry : ∀ running f, Host.Outcome.next (s.expire running f) = (.next s : Host.Outcome State Fault Refusal) :=
    fun running f => congrArg Host.Outcome.next (expire_of_stopped stopped ..)
  cases c
  case resetAssert => exact absurd rfl noAssert
  case startUp straps => exact absurd rfl (noStart straps)
  case bypassEnd => exact absurd rfl noEnd
  case frameSent => exact absurd rfl noSent
  case commitCompletion ok => exact absurd rfl (noCommit ok)
  case frameArrival bytes => exact absurd rfl (noBytes bytes).1
  case ringInIdleInFrame bytes => exact absurd rfl (noBytes bytes).2
  all_goals first | exact request _ _ _ _ | exact expiry _ _

end State

/-- Settles O2: each command's outcome keeps the queue, which nothing touches; outside a running part the bytes pass. -/
theorem commandsEndAndKeepTheQueue : Obligations.CommandsEndAndKeepTheQueue := by
  intro c s
  have ends : ∃ t, exec c s = .next t := by cases c <;> exact ⟨_, rfl⟩
  obtain ⟨t, next⟩ := ends
  refine ⟨⟨t, next, (pending_kept s.pending).exec rfl c next⟩, fun stopped => ⟨fun bytes => ⟨?_, ?_⟩, s.exec_of_stopped stopped c⟩⟩
  · rintro rfl
    exact congrArg Host.Outcome.next (State.receive_of_stopped stopped bytes)
  · rintro rfl
    exact congrArg Host.Outcome.next (State.receiveBroken_of_stopped stopped bytes)

/-! ### Time -/

theorem isDue_iff (t : Option Nat) : isDue t = true ↔ t = some 0 := by simp [isDue]

theorem mem_dueAt {n : Nat} (timer : Fin n → Option Nat) (i : Fin n) : i ∈ dueAt n timer ↔ timer i = some 0 := by
  simp [dueAt, isDue_iff]

theorem mem_map_dueAt {n : Nat} (timer : Fin n → Option Nat) (f : Fin n → Instr) (e : Instr) :
    e ∈ (dueAt n timer).map f ↔ ∃ i, e = f i ∧ timer i = some 0 := by
  simp only [List.mem_map, mem_dueAt]
  exact ⟨fun ⟨i, due, same⟩ => ⟨i, same.symm, due⟩, fun ⟨i, same, due⟩ => ⟨i, due, same.symm⟩⟩

theorem mem_one_due (t : Option Nat) (i e : Instr) : (e ∈ if isDue t then [i] else []) ↔ e = i ∧ t = some 0 := by
  by_cases due : t = some 0 <;> simp [isDue, due]

namespace State

variable {s : State}

theorem dueExpiries_of_stopped (stopped : s.power ≠ .running) : s.dueExpiries = [] := by
  unfold dueExpiries
  split
  · rfl
  · rfl
  · exact absurd ‹_› stopped

theorem idle_of_none (none : s.dueExpiries = []) : idle s = .next s.tick := by
  unfold idle
  simp only [none]
  rfl

theorem idle_of_one {e : Instr} (one : s.dueExpiries = [e]) : idle s = exec e s := by
  unfold idle
  simp only [one]
  rfl

theorem choose_of_several {n : Nat} (several : 2 ≤ n) : (s.choose n).2 = s.withFreeIndex (s.freeIndex + 1) := by
  unfold choose
  rw [if_neg (by omega)]

theorem idle_of_several (several : 2 ≤ s.dueExpiries.length) :
    ∃ e ∈ s.dueExpiries, idle s = exec e (s.withFreeIndex (s.freeIndex + 1)) := by
  have within : (s.choose s.dueExpiries.length).1 < s.dueExpiries.length := s.choose_lt (by omega)
  refine ⟨s.dueExpiries[(s.choose s.dueExpiries.length).1], List.getElem_mem within, ?_⟩
  unfold idle
  simp only [List.getElem?_eq_getElem within, choose_of_several several]

theorem mem_dueExpiries (running : s.power = .running) (e : Instr) : e ∈ s.dueExpiries ↔
    (e = .ringSilenceExpiry ∧ s.ring.silence = some 0) ∨
    (∃ p, e = .ageExpiry p ∧ (s.points.get p).age = some 0) ∨
    (e = .exitHoldExpiry ∧ s.plant.exitHold = some 0) ∨
    (∃ k, e = .lanePeriodExpiry k ∧ (s.lanes.get k).timer = some 0) ∨
    (∃ k, e = .phaseExpiry k ∧ (s.lanes.get k).state.phaseTimer = some 0) ∨
    (e = .allocationExpiry ∧ s.allocator.timer = some 0) ∨
    (∃ b, e = .warmUpExpiry b ∧ (s.blowers.get b).warmUpTimer = some 0) ∨
    (∃ b, e = .startTimeoutExpiry b ∧ (s.blowers.get b).timeoutTimer = some 0) ∨
    (∃ b, e = .rundownExpiry b ∧ (s.blowers.get b).rundownTimer = some 0) ∨
    (∃ r, e = .pacingExpiry r ∧ (s.returns.get r).timer = some 0) ∨
    (∃ o, e = .resendExpiry o ∧ (s.outputs.get o).resendTimer = some 0) ∨
    (e = .countdownExpiry ∧ s.supervision.countdown = some 0) ∨
    (∃ w, e = .holdExpiry w ∧ (s.watches.get w).state.hold? = some 0) := by
  unfold dueExpiries
  simp only [running, List.mem_append, mem_map_dueAt, mem_one_due, or_assoc]

end State

theorem LaneState.tick_phaseTimer (l : LaneState) : l.tick.phaseTimer = l.phaseTimer.map (· - 1) := by cases l <;> rfl

theorem Blower.tick_timers (b : Blower) : ({ b with state := b.state.tick } : Blower).warmUpTimer = b.warmUpTimer.map (· - 1) ∧
    ({ b with state := b.state.tick } : Blower).timeoutTimer = b.timeoutTimer.map (· - 1) ∧
    ({ b with state := b.state.tick } : Blower).rundownTimer = b.rundownTimer.map (· - 1) ∧ b.state.tick.status = b.state.status := by
  obtain ⟨config, state⟩ := b
  cases state <;> exact ⟨rfl, rfl, rfl, rfl⟩

theorem WatchState.tick_hold (w : WatchState) : w.tick.hold? = w.hold?.map (· - 1) ∧ w.tick.isFired = w.isFired := by
  cases w <;> exact ⟨rfl, rfl⟩

theorem State.tick_of_running {s : State} (running : s.power = .running) : s.tick = s.tickCount.tickTimers := by
  simp only [tick, running]

/-- Settles O3: the idle step by the number of due expiries, a tick by the power, the due expiries timer by timer. -/
theorem idleStepTakesExpiryOrTicks : Obligations.IdleStepTakesExpiryOrTicks := by
  refine ⟨fun s idles => ?_, fun s => ⟨?_, ?_, ?_⟩, fun s => ⟨State.dueExpiries_of_stopped, fun running e => State.mem_dueExpiries running e⟩⟩
  · have step : step s = idle s := by simp only [step, idles]
    rw [step]
    exact ⟨State.idle_of_none, fun e => State.idle_of_one, State.idle_of_several⟩
  · intro low
    simp only [State.tick, low]
  · intro bypass
    simp only [State.tick, bypass]
    rfl
  · intro running
    rw [State.tick_of_running running]
    refine ⟨rfl, rfl, fun p => Table.get_map .., rfl, fun k => ?_, rfl, fun b => ?_, fun r => Table.get_map .., fun o => Table.get_map .., rfl,
      fun w => ?_, ?_, rfl, rfl, rfl, rfl, rfl, running ▸ rfl, rfl⟩
    · have lane : s.tickCount.tickTimers.lanes.get k =
          { s.lanes.get k with timer := countDown (s.lanes.get k).timer, state := (s.lanes.get k).state.tick } := Table.get_map ..
      rw [lane]
      exact ⟨rfl, LaneState.tick_phaseTimer _, LaneState.tick_regime _, rfl⟩
    · have blower : s.tickCount.tickTimers.blowers.get b = { s.blowers.get b with state := (s.blowers.get b).state.tick } := Table.get_map ..
      rw [blower]
      exact Blower.tick_timers _
    · have watch : s.tickCount.tickTimers.watches.get w = { s.watches.get w with state := (s.watches.get w).state.tick } := Table.get_map ..
      rw [watch]
      obtain ⟨hold, fired⟩ := WatchState.tick_hold (s.watches.get w).state
      exact ⟨hold, fired, rfl⟩
    · exact s.tickCount.tickTimers_same.settings

/-! ### Reset -/

theorem reset_settings : State.reset.settings = Settings.default := by
  unfold State.settings State.reset
  congr 1

theorem reset_settingsSound : State.reset.SettingsSound where
  inForce := reset_settings ▸ .default
  staged k p pending := by
    rw [show State.reset.lanes.get k = Lane.fresh (Settings.default.lanes.get k) from Table.get_map ..] at pending
    cases pending
  snapshot := nofun
  images i image held := by
    rw [show State.reset.management.images = Table.fill 2 none from rfl, Table.get_fill] at held
    cases held

theorem reset_valuesSound : State.reset.ValuesSound := by
  rw [State.valuesSound_iff]
  refine ⟨.anew reset_settingsSound (c := fun o => Settings.default.outputs.get o) fun o => Table.get_map .., ⟨reset_settingsSound, fun r => ?_⟩,
    .anew reset_settingsSound fun z => ?_⟩
  · rw [show State.reset.returns.get r = ReturnLine.fresh (Settings.default.returns.get r) from Table.get_map ..]
    exact ReturnLine.fresh_sound (Settings.Sound.default.returns r) _
  · rw [show State.reset.zones.get z = Zone.fresh (Lane.fresh (Settings.default.lanes.get (laneOf z))) (placeOf z) (Settings.default.zones.get z)
      from Table.get_build .., Zone.fresh_config,
      show State.reset.lanes.get (laneOf z) = Lane.fresh (Settings.default.lanes.get (laneOf z)) from Table.get_map ..]

/-- Settles O4: each invariant of the state that every record's full-reset value makes. -/
theorem invariantsHoldAtReset : Obligations.InvariantsHoldAtReset := by
  refine ⟨reset_settingsSound, ?_, ?_, reset_valuesSound, ?_, ?_, ?_, ⟨?_, rfl⟩, ?_⟩
  · exact ⟨Nat.zero_le _, Nat.zero_le _, Nat.zero_le _, .nil, fun _ => ⟨rfl, rfl⟩, nofun, fun _ => rfl⟩
  · refine ⟨by decide, fun i inside => ?_⟩
    have first : i = 0 := Nat.lt_one_iff.1 inside
    subst first
    rfl
  · exact .anew (c := fun k => Settings.default.lanes.get k) (fun k => Table.get_map ..) rfl
  · exact .of_auto (fun o => congrArg Output.state (Table.get_map Output.fresh ..)) nofun
  · exact .of_unknown fun b => congrArg Blower.state (Table.get_map Blower.fresh ..)
  · exact State.EachWatchSound.anew (c := fun w => Settings.default.watches.get w) fun w => Table.get_map ..
  · exact .of_stopped nofun rfl rfl

theorem Management.abandon_images (m : Management) : m.abandon = { m with
    commit := none
    images := match m.commit with
      | none => m.images
      | some c => m.images.set c.target none } := by
  obtain ⟨commit, generation, images, current⟩ := m
  cases commit <;> rfl

/-- Settles O5: the fall of RESETn, field by field. -/
theorem resetAssertBypassesTheRing : Obligations.ResetAssertBypassesTheRing := by
  intro s
  refine ⟨s.assertReset, rfl, fun k => rfl, ?_⟩
  unfold State.assertReset State.passageAtReset
  rw [Management.abandon_images]
  cases s.power <;> rfl

end Sys2Proof.Machine
end

section
/-! Ring-out: the arbiter, the transmit queue and the ring-silence timer (R11 to R16). -/
namespace Sys2Proof.Machine

/-! ### The arbiter -/

namespace Ring

variable {r : Ring} {own : Addr}

theorem startNext_nothing (transmit : r.transmit = []) (forward : r.forward = []) : r.startNext own = { r with line := none } := by
  simp only [startNext, transmit, forward]

theorem startNext_forwarded {f : Frame} {fs : List Frame} (transmit : r.transmit = []) (forward : r.forward = f :: fs) :
    r.startNext own = { r with line := some f, forward := fs, runCount := 0 } := by
  simp only [startNext, transmit, forward]

theorem startNext_passing {f : Frame} {fs : List Frame} (transmit : r.transmit ≠ []) (forward : r.forward = f :: fs)
    (run : r.runCount ≠ 4) : r.startNext own = { r with line := some f, forward := fs, runCount := r.runCount + 1 } := by
  obtain ⟨q, qs, waits⟩ := List.exists_cons_of_ne_nil transmit
  simp only [startNext, waits, forward, if_neg run]

theorem startNext_originated {q : Queued} {qs : List Queued} (transmit : r.transmit = q :: qs) (turn : r.forward = [] ∨ r.runCount = 4) :
    r.startNext own =
      { r with line := some (q.frame own r.sequence), transmit := qs, runCount := 0, sequence := r.sequence + 1 } := by
  cases forward : r.forward with
  | nil => simp only [startNext, transmit, forward]
  | cons f fs =>
    have run : r.runCount = 4 := turn.resolve_left (by simp [forward])
    simp only [startNext, transmit, forward, if_pos run]

theorem arbitrate_of_busy (busy : r.line.isSome = true) : r.arbitrate own = r := by
  obtain ⟨f, line⟩ := Option.isSome_iff_exists.1 busy
  simp only [arbitrate, line]

theorem arbitrate_of_idle (idle : r.line = none) : r.arbitrate own = r.startNext own := by simp only [arbitrate, idle]

theorem join_of_busy (busy : r.line.isSome = true) (q : Queued) : r.join own q = { r with transmit := r.transmit ++ [q] } :=
  arbitrate_of_busy busy

theorem join_of_idle (idle : r.line = none) (transmit : r.transmit = []) (forward : r.forward = []) (q : Queued) :
    r.join own q = { r with line := some (q.frame own r.sequence), runCount := 0, sequence := r.sequence + 1 } := by
  have first : ({ r with transmit := r.transmit ++ [q] } : Ring).transmit = q :: [] := by simp [transmit]
  have joined : ({ r with transmit := r.transmit ++ [q] } : Ring).line = none := idle
  refine (arbitrate_of_idle joined).trans ((startNext_originated first (.inl forward)).trans ?_)
  rw [← transmit]

end Ring

namespace State

variable {s : State}

theorem finishFrame_of_busy (busy : s.ring.line.isSome = true) : s.finishFrame = s.withRing (s.ring.startNext s.ownAddress) := by
  obtain ⟨f, line⟩ := Option.isSome_iff_exists.1 busy
  simp only [finishFrame, line]

theorem finishFrame_of_idle (idle : s.ring.line = none) : s.finishFrame = s := by simp only [finishFrame, idle]

end State

/-- Settles O14: the arbiter's decisions, case by case. -/
theorem frameSentStartsTheNextFrame : Obligations.FrameSentStartsTheNextFrame := by
  intro s
  have ends (busy : s.ring.line.isSome = true) {r : Ring} (starts : s.ring.startNext s.ownAddress = r) :
      exec .frameSent s = .next (s.withRing r) :=
    congrArg Host.Outcome.next (starts ▸ State.finishFrame_of_busy busy)
  refine ⟨fun idle => congrArg Host.Outcome.next (State.finishFrame_of_idle idle), fun busy => ⟨fun forward transmit => ?_,
    fun f fs forward => ⟨fun transmit => ?_, fun transmit run => ?_⟩, fun q qs transmit turn => ?_⟩⟩
  · exact ends busy (Ring.startNext_nothing transmit forward)
  · exact ends busy (Ring.startNext_forwarded transmit forward)
  · exact ends busy (Ring.startNext_passing transmit forward run)
  · exact ends busy (Ring.startNext_originated transmit turn)

/-! ### The transmit queue -/

namespace State

variable {s : State}

theorem enqueue_of_room (room : s.ring.transmit.length < 16) (q : Queued) :
    s.enqueue q = (s.withRing (s.ring.join s.ownAddress q), true) := if_pos room

theorem enqueue_of_full (full : 16 ≤ s.ring.transmit.length) (q : Queued) :
    s.enqueue q = (s.raise (.event .queueOverflow), false) := if_neg (Nat.not_lt.2 full)

end State

theorem Ring.hasCommand_iff (r : Ring) (o : OutputIdx) : r.hasCommand o = true ↔ ∃ q ∈ r.transmit, q.body.owner = some o := by
  simp [Ring.hasCommand, Queued.isOwnedBy]

/-- The replacement of R13 case 1, frame by frame. -/
theorem Queued.coalesce_eq (q : Queued) (o : OutputIdx) (v : Int) : (if q.isOwnedBy o then q.withValue v else q) =
    match q.body with
    | .command (some p) ch w => if p = o then { q with body := .command (some p) ch v } else { q with body := .command (some p) ch w }
    | _ => q := by
  obtain ⟨dst, body⟩ := q
  match body with
  | .command (some p) ch w => by_cases same : p = o <;> simp [Queued.isOwnedBy, Body.owner, Queued.withValue, same]
  | .command none ch w => simp [Queued.isOwnedBy, Body.owner]
  | .notice _ _ _ _ => simp [Queued.isOwnedBy, Body.owner]
  | .reply _ _ _ _ => simp [Queued.isOwnedBy, Body.owner]

/-- Settles O15: coalescing, joining and dropping. -/
theorem transmitQueueAnswersOffers : Obligations.TransmitQueueAnswersOffers := by
  intro s
  refine ⟨fun o v waits => ?_, fun o v absent => ?_, fun q => ⟨fun room busy => ?_, fun transmit forward idle => ?_,
    fun full => State.enqueue_of_full full q⟩⟩
  · have coalesces : s.sendCommand o v = (s.withRing (s.ring.coalesce o v), true) := if_pos (s.ring.hasCommand_iff o |>.2 waits)
    exact coalesces.trans (congrArg (fun waiting => (s.withRing { s.ring with transmit := waiting }, true))
      (List.map_congr_left fun q _ => q.coalesce_eq o v))
  · have waits : ¬ s.ring.hasCommand o = true := fun waits => by
      obtain ⟨q, mem, owned⟩ := (s.ring.hasCommand_iff o).1 waits
      exact absent q mem owned
    exact if_neg waits
  · rw [State.enqueue_of_room room, Ring.join_of_busy busy]
  · rw [State.enqueue_of_room (by simp [transmit]), Ring.join_of_idle idle transmit forward]
    rfl

/-! ### The ring-silence timer -/

namespace State

variable {s : State}

theorem expire_of_running {running : Bool} {f : State → State} (power : s.power = .running) (runs : running = true) :
    s.expire running f = (f s).drain := by
  simp only [expire, power, runs, if_true]

theorem expire_of_unset {running : Bool} {f : State → State} (stopped : running = false) : s.expire running f = s := by
  unfold expire
  split
  · rw [if_neg (by simp [stopped])]
  all_goals rfl

theorem setLevel_of_ne {c : Level} {b : Bool} (changes : s.level c ≠ b) :
    s.setLevel c b = ((s.writeLevel c b).capture (levelEntry c (!b) b)).raise (.level c b) := if_neg changes

theorem setLevel_of_eq {c : Level} {b : Bool} (same : s.level c = b) : s.setLevel c b = s := if_pos same

end State

/-- Settles O16: RING_SILENT set as the timer stops. -/
theorem silenceExpiryMakesTheRingSilent : Obligations.SilenceExpiryMakesTheRingSilent := by
  intro s running
  refine ⟨fun runs audible => congrArg Host.Outcome.next ?_, fun stopped => congrArg Host.Outcome.next ?_⟩
  · refine (State.expire_of_running running runs).trans (congrArg State.drain ?_)
    exact State.setLevel_of_ne (c := .ringSilent) (b := true) (by simp [State.level, audible])
  · exact State.expire_of_unset (by simp [stopped])

end Sys2Proof.Machine
end

section
/-! Points (R36 to R48): what an item does to its point, ageing, forcing, and what an update event leaves as it was. -/
namespace Sys2Proof.Machine

namespace Point

variable {pt : Point} {seq : Byte}

theorem accepts_iff : pt.accepts seq = true ↔ pt.lastSeq ≠ some seq ∧ pt.state.quality ≠ .forced := by simp [accepts]

theorem take_fault {flags : Byte} (fault : flags.getLsbD 0 = true) (raw : Int) :
    pt.take seq (.sample flags raw) = { pt with state := .bad pt.state.reading, lastSeq := some seq } := by
  simp only [take, takeSample, fault, if_true, takeFault]

/-- A CALIBRATING item turns GOOD into SUSPECT and nothing else (R40). -/
theorem take_calibrating {flags : Byte} (sound : flags.getLsbD 0 = false) (calibrating : flags.getLsbD 1 = true) (raw : Int) :
    pt.take seq (.sample flags raw) = { pt with
      state := (match pt.state with
        | .good r => .suspect r
        | other => other)
      lastSeq := some seq } := by
  simp only [take, takeSample, sound, calibrating, if_true, Bool.false_eq_true, if_false, takeCalibrating]
  obtain ⟨config, state, age, last⟩ := pt
  cases state <;> rfl

/-- The filter floors the division as Euclid does, the divisor being positive (R36, R39). -/
theorem filter_eq (v : Int) : pt.filter v = match pt.config.kind, pt.state with
    | .equipment, _ => v
    | _, .good r => r.filtered + (v - r.filtered) / 2 ^ pt.config.shift
    | _, .suspect r => r.filtered + (v - r.filtered) / 2 ^ pt.config.shift
    | _, _ => v := by
  have floors (x : Int) : x.fdiv (2 ^ pt.config.shift) = x / 2 ^ pt.config.shift :=
    Int.fdiv_eq_ediv_of_nonneg x (by positivity)
  unfold filter
  by_cases equipment : pt.config.kind = .equipment
  · rw [if_pos equipment, equipment]
  · rw [if_neg equipment]
    simp only [floors]
    cases kind : pt.config.kind <;> first | exact absurd kind equipment | cases pt.state <;> rfl

theorem take_reading {flags : Byte} (sound : flags.getLsbD 0 = false) (measuring : flags.getLsbD 1 = false) (raw : Int) :
    pt.take seq (.sample flags raw) =
      let v := clampInt pt.config.low pt.config.high raw
      { pt with
        state := if v ≠ raw ∨ flags.getLsbD 2 = true then .suspect { value := v, filtered := pt.filter v }
          else .good { value := v, filtered := pt.filter v }
        age := pt.config.startAge
        lastSeq := some seq } := by
  simp only [take, takeSample, sound, measuring, Bool.false_eq_true, if_false, takeReading]
  rfl

theorem take_status {code : Byte} (known : code.toNat ≤ 3) : pt.take seq (.status code) = { pt with
    state := .good { value := code.toNat, filtered := code.toNat }, age := pt.config.startAge, lastSeq := some seq } :=
  if_pos known

theorem take_status_of_gt {code : Byte} (unknown : 3 < code.toNat) :
    pt.take seq (.status code) = { pt with state := .bad pt.state.reading, lastSeq := some seq } :=
  if_neg (Nat.not_le.2 unknown)

end Point

/-- Settles O18: each kind of item by its own equation. -/
theorem pointTakesItems : Obligations.PointTakesItems := by
  intro pt seq
  refine ⟨Point.accepts_iff, fun flags raw _ => ⟨fun fault => Point.take_fault fault raw,
    fun sound calibrating => Point.take_calibrating sound calibrating raw, fun sound measuring => ?_⟩,
    fun code => ⟨Point.take_status, Point.take_status_of_gt⟩⟩
  refine (Point.take_reading sound measuring raw).trans ?_
  simp only [Point.filter_eq]
  rfl

/-! ### What an update event leaves -/

/-- The configurations and the pending sets are those of a state. -/
structure State.SameStaged (s t : State) : Prop where
  settings : t.settings = s.settings
  staged : ∀ k, (t.lanes.get k).pending = (s.lanes.get k).pending

theorem Move.staged {g : Gap} {c : List Part} {s t : State} (m : Move g c s t) (k : LaneIdx) :
    (t.lanes.get k).pending = (s.lanes.get k).pending := by
  have but := m.but
  cases m with
  | lane g j l follows trips agrees =>
    show ((s.lanes.set j l).get k).pending = _
    rw [Table.get_set]
    split
    · next same => rw [← same]; exact follows.pending
    · rfl
  | _ => exact congrArg (fun ls => (ls.get k).pending) (but .lanes (by decide))

/-- The moves of an event keep every configuration and every pending set. -/
theorem sameStaged_kept (s : State) : Kept [] (State.SameStaged s) where
  closed := by decide
  move _ m h := ⟨m.sameConfig.settings.trans h.settings, fun k => (m.staged k).trans (h.staged k)⟩
  tripLane := by simp
  fire := by simp
  changeStorm := by simp

namespace State

variable {s t u : State} {p : PointIdx}

theorem SameStaged.refl (s : State) : s.SameStaged s := ⟨rfl, fun _ => rfl⟩

/-- An operation on some of the parts that an update event may touch, its configurations and pending sets kept, is as an update event is. -/
theorem UpdateKeeps.of_but {c : List Part} (but : s.SameBut c t)
    (apart : ∀ q ∈ [Part.power, .ownAddress, .timeCount, .received, .passing, .silence, .silent, .returns, .supervision, .management, .pending],
      q ∉ c) (same : s.SameStaged t) : s.UpdateKeeps t where
  power := but .power (apart _ (by decide))
  ownAddress := but .ownAddress (apart _ (by decide))
  timeCount := but .timeCount (apart _ (by decide))
  received := but .received (apart _ (by decide))
  passing := (but .passing (apart _ (by decide))).1
  inPassage := (but .passing (apart _ (by decide))).2
  silence := but .silence (apart _ (by decide))
  silent := but .silent (apart _ (by decide))
  returns := but .returns (apart _ (by decide))
  supervision := but .supervision (apart _ (by decide))
  management := but .management (apart _ (by decide))
  settings := same.settings
  staged := same.staged
  pending := but .pending (apart _ (by decide))

theorem SameStaged.setPoint {pt : Point} (same : pt.config = (s.points.get p).config) : s.SameStaged (s.setPoint p pt) :=
  ⟨(SameConfig.setPoint same).settings, fun _ => rfl⟩

theorem updateEvent_points (p : PointIdx) (s : State) : (s.updateEvent p).points = s.points := s.updateEvent_but p .points (by decide)
theorem updateEvent_routes (p : PointIdx) (s : State) : (s.updateEvent p).routes = s.routes := s.updateEvent_but p .routes (by decide)
theorem drain_points (s : State) : s.drain.points = s.points := s.drain_but .points (by decide)
theorem drain_routes (s : State) : s.drain.routes = s.routes := s.drain_but .routes (by decide)

/-- A point without dependants has none in any state of its record (R45). -/
theorem NoDependants.dependants (alone : s.NoDependants p) : s.dependants p = [] := by
  have watches : s.watches.rows.any (fun w => w.state != .off && w.config.subject == .point p) = false := by
    rw [← Bool.not_eq_true, Table.any_rows]
    rintro ⟨w, on⟩
    obtain off | other := alone.watches w <;> simp_all
  have storm : (s.plant.config.influentPoint == some p) = false := by simpa using alone.influent
  have ammonia : s.lanes.rows.any (·.wakesByAmmonia p) = false := by
    rw [← Bool.not_eq_true, Table.any_rows]
    rintro ⟨k, wakes⟩
    have names : (s.lanes.get k).config.ammoniaPoint = some p := by
      simp only [Lane.wakesByAmmonia, Bool.and_eq_true, beq_iff_eq] at wakes
      exact wakes.2
    exact alone.ammonia k names
  simp only [State.dependants, watches, storm, ammonia, Bool.false_and, Bool.and_false, Bool.false_eq_true, if_false, List.append_nil]

theorem NoDependants.updateEvent (alone : s.NoDependants p) : s.updateEvent p = s := by
  simp only [State.updateEvent, alone.dependants, List.length_nil, takeUpdates]

theorem NoDependants.withPoints (alone : s.NoDependants p) (points : Table 128 Point) : (s.withPoints points).NoDependants p :=
  ⟨alone.watches, alone.influent, alone.ammonia⟩

/-- An update event at a point just written, taken to its end. -/
theorem updateKeeps_of_update {pt : Point} (same : pt.config = (s.points.get p).config) : s.UpdateKeeps ((s.setPoint p pt).updateEvent p).drain := by
  have but : s.SameBut (.points :: updateParts) ((s.setPoint p pt).updateEvent p).drain :=
    (((s.withPointTable_but _).mono (by simp)).trans ((updateEvent_but p _).mono (by simp +contextual))).trans
      ((drain_but _).mono (by simp +contextual))
  exact .of_but but (by decide) ((sameStaged_kept s).drain ((sameStaged_kept s).updateEvent (.setPoint same) p))

theorem drained_update_points (pt : Point) : ((s.setPoint p pt).updateEvent p).drain.points = s.points.set p pt := by
  rw [drain_points, updateEvent_points]
  rfl

theorem drained_update_routes (pt : Point) : ((s.setPoint p pt).updateEvent p).drain.routes = s.routes := by
  rw [drain_routes, updateEvent_routes]
  rfl

end State

/-! ### Ageing -/

/-- The point record once its age timer has expired (R43). -/
def Point.aged (pt : Point) : Point :=
  { pt with
    state := (match pt.state with
      | .good r => .stale r
      | .suspect r => .stale r
      | other => other)
    age := none }

namespace State

variable {s : State} {p : PointIdx}

/-- A GOOD or SUSPECT point becomes STALE with its update event (R43, R44). -/
theorem agePoint_of_fresh (fresh : (s.points.get p).state.quality = .good ∨ (s.points.get p).state.quality = .suspect) :
    s.agePoint p = (s.setPoint p (s.points.get p).aged).updateEvent p := by
  cases quality : (s.points.get p).state with
  | good r | suspect r => simp only [agePoint, Point.aged, quality]
  | empty | stale _ | bad _ | forced _ => simp [PointState.quality, quality] at fresh

theorem agePoint_of_not_fresh (held : ¬((s.points.get p).state.quality = .good ∨ (s.points.get p).state.quality = .suspect)) :
    s.agePoint p = s.setPoint p (s.points.get p).aged := by
  cases quality : (s.points.get p).state with
  | good r | suspect r => simp [PointState.quality, quality] at held
  | empty | stale _ | bad _ | forced _ => simp only [agePoint, Point.aged, quality]

theorem exec_ageExpiry (running : s.power = .running) (ages : (s.points.get p).age.isSome = true) :
    exec (.ageExpiry p) s = .next (s.agePoint p).drain := congrArg Host.Outcome.next (expire_of_running running ages)

end State

/-- Settles O19: the expiry at a point of each quality. -/
theorem ageExpiryMakesThePointStale : Obligations.AgeExpiryMakesThePointStale := by
  intro s p running
  refine ⟨fun stopped => congrArg Host.Outcome.next (State.expire_of_unset (by simp [stopped])), fun raised ages => ?_⟩
  have expires := State.exec_ageExpiry running ages
  have kept : (s.setPoint p (s.points.get p).aged).drain = s.setPoint p (s.points.get p).aged := State.drain_of_raised_nil raised
  by_cases fresh : (s.points.get p).state.quality = .good ∨ (s.points.get p).state.quality = .suspect
  · rw [State.agePoint_of_fresh fresh] at expires
    refine ⟨⟨_, expires, State.drained_update_points _, State.drained_update_routes _, State.updateKeeps_of_update rfl⟩, fun _ => expires, ?_⟩
    rintro (alone | held)
    · refine expires.trans (congrArg Host.Outcome.next ?_)
      exact (congrArg State.drain (alone.withPoints _).updateEvent).trans kept
    · exact absurd fresh held
  · rw [State.agePoint_of_not_fresh fresh, kept] at expires
    exact ⟨⟨_, expires, rfl, rfl, .of_but (s.withPointTable_but _) (by decide) (.setPoint rfl)⟩, fun isFresh => absurd isFresh fresh, fun _ => expires⟩

end Sys2Proof.Machine
end

section
/-! No operation of the watch unit looks at the arrivals that wait: it only adds to them (R155, R160). -/
namespace Sys2Proof.Machine

namespace State

variable {s t : State} (l : List Change)

/-- The state with arrivals waiting before its own. -/
def behind (l : List Change) (s : State) : State := s.withRaised (l ++ s.raised)

/-! ### What reads the state does not read the arrivals -/

@[simp] theorem behind_raised (s : State) : (s.behind l).raised = l ++ s.raised := rfl
@[simp] theorem behind_power (s : State) : (s.behind l).power = s.power := rfl
@[simp] theorem behind_ownAddress (s : State) : (s.behind l).ownAddress = s.ownAddress := rfl
@[simp] theorem behind_timeCount (s : State) : (s.behind l).timeCount = s.timeCount := rfl
@[simp] theorem behind_ring (s : State) : (s.behind l).ring = s.ring := rfl
@[simp] theorem behind_routes (s : State) : (s.behind l).routes = s.routes := rfl
@[simp] theorem behind_points (s : State) : (s.behind l).points = s.points := rfl
@[simp] theorem behind_plant (s : State) : (s.behind l).plant = s.plant := rfl
@[simp] theorem behind_lanes (s : State) : (s.behind l).lanes = s.lanes := rfl
@[simp] theorem behind_zones (s : State) : (s.behind l).zones = s.zones := rfl
@[simp] theorem behind_allocator (s : State) : (s.behind l).allocator = s.allocator := rfl
@[simp] theorem behind_blowers (s : State) : (s.behind l).blowers = s.blowers := rfl
@[simp] theorem behind_returns (s : State) : (s.behind l).returns = s.returns := rfl
@[simp] theorem behind_outputs (s : State) : (s.behind l).outputs = s.outputs := rfl
@[simp] theorem behind_supervision (s : State) : (s.behind l).supervision = s.supervision := rfl
@[simp] theorem behind_watches (s : State) : (s.behind l).watches = s.watches := rfl
@[simp] theorem behind_history (s : State) : (s.behind l).history = s.history := rfl
@[simp] theorem behind_management (s : State) : (s.behind l).management = s.management := rfl
@[simp] theorem behind_freeIndex (s : State) : (s.behind l).freeIndex = s.freeIndex := rfl
@[simp] theorem behind_pending (s : State) : (s.behind l).pending = s.pending := rfl

@[simp] theorem behind_usable (p : Option PointIdx) (s : State) : (s.behind l).usable p = s.usable p := rfl
@[simp] theorem behind_isIdle (z : ZoneIdx) (s : State) : (s.behind l).isIdle z = s.isIdle z := rfl
@[simp] theorem behind_modeOf (c : ZoneConfig) (s : State) : (s.behind l).modeOf c = s.modeOf c := rfl
@[simp] theorem behind_follows (z : ZoneIdx) (s : State) : (s.behind l).follows z = s.follows z := rfl
@[simp] theorem behind_valvesOf (k : LaneIdx) (s : State) : (s.behind l).valvesOf k = s.valvesOf k := rfl
@[simp] theorem behind_level (c : Level) (s : State) : (s.behind l).level c = s.level c := by cases c <;> rfl
@[simp] theorem behind_driveReading (p : Option PointIdx) (s : State) : (s.behind l).driveReading p = s.driveReading p := rfl
@[simp] theorem behind_runningBlowers (s : State) : (s.behind l).runningBlowers = s.runningBlowers := rfl
@[simp] theorem behind_speedFor (G : Nat) (s : State) : (s.behind l).speedFor G = s.speedFor G := rfl
@[simp] theorem behind_takingPart (s : State) : (s.behind l).takingPart = s.takingPart := rfl
@[simp] theorem behind_totalDemand (s : State) : (s.behind l).totalDemand = s.totalDemand := rfl
@[simp] theorem behind_totalFloor (s : State) : (s.behind l).totalFloor = s.totalFloor := rfl
@[simp] theorem behind_totalGrant (D C F : Nat) (s : State) : (s.behind l).totalGrant D C F = s.totalGrant D C F := rfl
@[simp] theorem behind_capacity (s : State) : (s.behind l).capacity = s.capacity := rfl
@[simp] theorem behind_lowestRank (bs : List BlowerIdx) (s : State) : (s.behind l).lowestRank bs = s.lowestRank bs :=
  ((s.behind l).lowestRank_eq_leastBy bs).trans (s.lowestRank_eq_leastBy bs).symm
@[simp] theorem behind_highestRank (bs : List BlowerIdx) (s : State) : (s.behind l).highestRank bs = s.highestRank bs :=
  ((s.behind l).highestRank_eq_leastBy bs).trans (s.highestRank_eq_leastBy bs).symm
@[simp] theorem behind_stageUp (D C : Nat) (s : State) : (s.behind l).stageUp D C = s.stageUp D C := by
  simp only [stageUp, candidate, behind_blowers, behind_lowestRank, behind_allocator]
@[simp] theorem behind_surplus (D C : Nat) (s : State) : (s.behind l).surplus D C = s.surplus D C := by
  simp only [surplus, behind_runningBlowers, behind_highestRank, behind_blowers, behind_allocator] <;> rfl
@[simp] theorem behind_spreads (k : LaneIdx) (s : State) : (s.behind l).spreads k = s.spreads k := rfl
@[simp] theorem behind_wakesLane (c : WatchConfig) (s : State) : (s.behind l).wakesLane c = s.wakesLane c := rfl
@[simp] theorem behind_answer (x : Watch) (ch : Change) (s : State) : (s.behind l).answer x ch = s.answer x ch := rfl

/-! ### What writes the state writes it before or after -/

@[simp] theorem behind_setZone (z : ZoneIdx) (r : Zone) (s : State) : (s.behind l).setZone z r = (s.setZone z r).behind l := rfl
@[simp] theorem behind_setLane (k : LaneIdx) (r : Lane) (s : State) : (s.behind l).setLane k r = (s.setLane k r).behind l := rfl
@[simp] theorem behind_setOutput (o : OutputIdx) (r : Output) (s : State) : (s.behind l).setOutput o r = (s.setOutput o r).behind l := rfl
@[simp] theorem behind_setWatch (w : WatchIdx) (r : Watch) (s : State) : (s.behind l).setWatch w r = (s.setWatch w r).behind l := rfl
@[simp] theorem behind_withRing (r : Ring) (s : State) : (s.behind l).withRing r = (s.withRing r).behind l := rfl
@[simp] theorem behind_withHistory (h : History) (s : State) : (s.behind l).withHistory h = (s.withHistory h).behind l := rfl
@[simp] theorem behind_withAllocator (a : Allocator) (s : State) : (s.behind l).withAllocator a = (s.withAllocator a).behind l := rfl
@[simp] theorem behind_withFreeIndex (n : Nat) (s : State) : (s.behind l).withFreeIndex n = (s.withFreeIndex n).behind l := rfl
@[simp] theorem behind_capture (e : HistoryEvent) (s : State) : (s.behind l).capture e = (s.capture e).behind l := rfl
@[simp] theorem behind_changeBlower (b : BlowerIdx) (new : BlowerState) (s : State) :
    (s.behind l).changeBlower b new = (s.changeBlower b new).behind l := rfl
@[simp] theorem behind_setCounts (up down : Nat) (s : State) : (s.behind l).setCounts up down = (s.setCounts up down).behind l := rfl
@[simp] theorem behind_writeSums (D C G : Nat) (s : State) : (s.behind l).writeSums D C G = (s.writeSums D C G).behind l := rfl
@[simp] theorem behind_restartAllocation (s : State) : (s.behind l).restartAllocation = s.restartAllocation.behind l := rfl
@[simp] theorem behind_armLinked (w : WatchIdx) (s : State) : (s.behind l).armLinked w = (s.armLinked w).behind l := rfl
@[simp] theorem behind_freeze (s : State) : (s.behind l).freeze = s.freeze.behind l := rfl
@[simp] theorem behind_writeLevel (c : Level) (b : Bool) (s : State) : (s.behind l).writeLevel c b = (s.writeLevel c b).behind l := by
  cases c <;> rfl

@[simp] theorem behind_raise (c : Change) (s : State) : (s.behind l).raise c = (s.raise c).behind l := by
  simp only [raise, behind, withRaised_withRaised, withRaised_raised, List.append_assoc]

theorem ite_behind (c : Prop) [Decidable c] (a b : State) : (if c then a else b).behind l = if c then a.behind l else b.behind l :=
  apply_ite (behind l) c a b

theorem each_behind {α : Type} {f : α → State → State} (one : ∀ a s, f a (s.behind l) = (f a s).behind l) (as : List α) (s : State) :
    (s.behind l).each as f = (s.each as f).behind l := by
  induction as generalizing s with
  | nil => rfl
  | cons a as ih => exact (congrArg (fun u => State.each as f u) (one a s)).trans (ih (f a s))

/-! ### Outputs -/

@[simp] theorem behind_enqueue (q : Queued) (s : State) : (s.behind l).enqueue q = ((s.enqueue q).1.behind l, (s.enqueue q).2) := by
  unfold enqueue
  simp only [behind_ring, behind_ownAddress, behind_withRing, behind_raise]
  split <;> rfl

@[simp] theorem behind_send (dst : Addr) (b : Body) (s : State) : (s.behind l).send dst b = (s.send dst b).behind l := by
  simp only [send, behind_enqueue]

@[simp] theorem behind_sendCommand (o : OutputIdx) (v : Int) (s : State) :
    (s.behind l).sendCommand o v = ((s.sendCommand o v).1.behind l, (s.sendCommand o v).2) := by
  unfold sendCommand
  simp only [behind_outputs, behind_ring, behind_withRing, behind_enqueue]
  split <;> rfl

@[simp] theorem behind_sendValue (o : OutputIdx) (v : Int) (s : State) : (s.behind l).sendValue o v = (s.sendValue o v).behind l := by
  simp only [sendValue, behind_outputs, behind_setOutput, behind_sendCommand]

@[simp] theorem behind_offer (o : OutputIdx) (v : Int) (s : State) : (s.behind l).offer o v = (s.offer o v).behind l := by
  unfold offer
  simp only [behind_outputs, behind_sendValue, ite_behind]
  split
  · rfl
  · cases (s.outputs.get o).state with
    | supervised => rfl
    | auto => exact (ite_behind l ..).symm

@[simp] theorem behind_offerTo (o : Option OutputIdx) (v : Int) (s : State) : (s.behind l).offerTo o v = (s.offerTo o v).behind l := by
  cases o with
  | none => rfl
  | some o => exact behind_offer l o v s

@[simp] theorem behind_forcedOffer (o : OutputIdx) (v : Int) (s : State) : (s.behind l).forcedOffer o v = (s.forcedOffer o v).behind l := by
  unfold forcedOffer
  simp only [behind_outputs, behind_sendValue, ite_behind]
  split
  · rfl
  · cases (s.outputs.get o).state with
    | supervised => rfl
    | auto => exact (ite_behind l ..).symm

@[simp] theorem behind_decideMode (z : ZoneIdx) (s : State) : (s.behind l).decideMode z = (s.decideMode z).behind l := by
  simp only [decideMode, behind_zones, behind_modeOf, behind_setZone, behind_capture, ite_behind]
  congr

@[simp] theorem behind_reportOutput (o : OutputIdx) (s : State) : (s.behind l).reportOutput o = (s.reportOutput o).behind l :=
  each_behind l (fun z u => by simp only [behind_zones, behind_isIdle, behind_decideMode, ite_behind]) _ s

@[simp] theorem behind_changeOutput (o : OutputIdx) (new : OutputState) (s : State) :
    (s.behind l).changeOutput o new = (s.changeOutput o new).behind l := by
  simp only [changeOutput, behind_outputs, behind_setOutput, behind_capture, behind_reportOutput, ite_behind]

@[simp] theorem behind_tripOutputs (k : LaneIdx) (s : State) : (s.behind l).tripOutputs k = (s.tripOutputs k).behind l :=
  each_behind l (fun o u => by simp only [behind_changeOutput, behind_outputs, behind_forcedOffer]) _ s

/-! ### Zones, lanes and trips -/

@[simp] theorem behind_eachWorking (k : LaneIdx) (f : Zone → Zone) (s : State) : (s.behind l).eachWorking k f = (s.eachWorking k f).behind l :=
  each_behind l (fun z u => by simp only [behind_zones, behind_isIdle, behind_setZone, ite_behind]; congr) _ s

@[simp] theorem behind_endCycle (k : LaneIdx) (s : State) : (s.behind l).endCycle k = (s.endCycle k).behind l :=
  each_behind l (fun z u => by simp only [behind_zones, behind_follows, behind_setZone, ite_behind]; congr) _ s

@[simp] theorem behind_changeRegime (k : LaneIdx) (new : LaneState) (s : State) :
    (s.behind l).changeRegime k new = (s.changeRegime k new).behind l := by
  simp only [changeRegime, behind_lanes, behind_endCycle, ← ite_behind, behind_setLane, behind_capture]

@[simp] theorem behind_tripLane (k : LaneIdx) (cause : WatchIdx) (s : State) : (s.behind l).tripLane k cause = (s.tripLane k cause).behind l := by
  simp only [tripLane, behind_capture, behind_changeRegime, tripZones, behind_eachWorking, behind_tripOutputs]

@[simp] theorem behind_tripIfWorking (k : LaneIdx) (cause : WatchIdx) (s : State) :
    (s.behind l).tripIfWorking k cause = (s.tripIfWorking k cause).behind l := by
  simp only [tripIfWorking, behind_lanes, behind_tripLane, ite_behind]

@[simp] theorem behind_tripRequest (k : LaneIdx) (cause : WatchIdx) (s : State) :
    (s.behind l).tripRequest k cause = (s.tripRequest k cause).behind l := by
  have spread (s : State) : (s.behind l).each (indices 8) (fun j s =>
      if j ≠ k ∧ (s.lanes.get j).config.tripGroup = (s.lanes.get k).config.tripGroup then s.tripIfWorking j cause else s) = _ :=
    each_behind l (fun j u => by simp only [behind_lanes, behind_tripIfWorking, ite_behind]) _ s
  simp only [tripRequest, behind_tripIfWorking, behind_spreads, spread, ite_behind]

/-! ### Blowers and the allocation -/

@[simp] theorem behind_offerRun (b : BlowerIdx) (v : Int) (s : State) : (s.behind l).offerRun b v = (s.offerRun b v).behind l :=
  behind_offerTo l _ v s

@[simp] theorem behind_offerSpeed (b : BlowerIdx) (v : Int) (s : State) : (s.behind l).offerSpeed b v = (s.offerSpeed b v).behind l :=
  behind_offerTo l _ v s

@[simp] theorem behind_failStart (b : BlowerIdx) (s : State) : (s.behind l).failStart b = (s.failStart b).behind l := by
  simp only [failStart, behind_changeBlower, behind_offerRun, behind_raise]

@[simp] theorem behind_tripRunning (b : BlowerIdx) (s : State) : (s.behind l).tripRunning b = (s.tripRunning b).behind l := by
  simp only [tripRunning, behind_changeBlower, behind_offerRun, behind_offerSpeed, behind_raise]

@[simp] theorem behind_tripStopping (b : BlowerIdx) (s : State) : (s.behind l).tripStopping b = (s.tripStopping b).behind l := by
  simp only [tripStopping, behind_changeBlower, behind_offerRun, behind_raise]

@[simp] theorem behind_adopt (b : BlowerIdx) (r : DriveReading) (s : State) : (s.behind l).adopt b r = (s.adopt b r).behind l := by
  cases r <;> rfl

@[simp] theorem behind_review (b : BlowerIdx) (r : DriveReading) (s : State) : (s.behind l).review b r = (s.review b r).behind l := by
  unfold review
  simp only [behind_blowers, behind_adopt, behind_changeBlower, behind_failStart, behind_tripRunning, behind_tripStopping]
  split <;> rfl

@[simp] theorem behind_reviewBlower (b : BlowerIdx) (s : State) : (s.behind l).reviewBlower b = (s.reviewBlower b).behind l := by
  unfold reviewBlower
  simp only [behind_driveReading, behind_blowers, behind_review]
  split <;> rfl

@[simp] theorem behind_setLevel (c : Level) (b : Bool) (s : State) : (s.behind l).setLevel c b = (s.setLevel c b).behind l := by
  simp only [setLevel, behind_level, behind_writeLevel, behind_capture, behind_raise, ite_behind]

@[simp] theorem behind_startBlower (b : BlowerIdx) (s : State) : (s.behind l).startBlower b = (s.startBlower b).behind l := by
  simp only [startBlower, behind_blowers, behind_changeBlower, behind_offerSpeed, behind_offerRun, behind_setCounts]

@[simp] theorem behind_stopBlower (b : BlowerIdx) (s : State) : (s.behind l).stopBlower b = (s.stopBlower b).behind l := by
  simp only [stopBlower, behind_blowers, behind_changeBlower, behind_offerSpeed, behind_setCounts]

@[simp] theorem behind_stageDown (D C up : Nat) (s : State) : (s.behind l).stageDown D C up = (s.stageDown D C up).behind l := by
  unfold stageDown
  simp only [behind_surplus, behind_allocator, behind_setCounts, behind_stopBlower]
  split
  · rfl
  · exact (ite_behind l ..).symm

@[simp] theorem behind_stage (D C : Nat) (s : State) : (s.behind l).stage D C = (s.stage D C).behind l := by
  unfold stage
  simp only [behind_highestRank, behind_blowers, behind_stageUp, behind_stopBlower, behind_startBlower, behind_stageDown]
  split
  · rfl
  · split
    · rfl
    · split <;> rfl

@[simp] theorem behind_writeGrants (D C F : Nat) (s : State) : (s.behind l).writeGrants D C F = (s.writeGrants D C F).behind l :=
  each_behind l (fun z u => by simp only [behind_zones, behind_setZone]) _ s

@[simp] theorem behind_offerCommonSpeed (G : Nat) (s : State) : (s.behind l).offerCommonSpeed G = (s.offerCommonSpeed G).behind l :=
  each_behind l (fun b u => by simp only [behind_speedFor, behind_offerSpeed]) _ s

@[simp] theorem behind_allocate (s : State) : (s.behind l).allocate = s.allocate.behind l := by
  simp only [allocate, behind_restartAllocation, each_behind l (behind_reviewBlower l), behind_totalDemand, behind_capacity, behind_totalFloor,
    behind_totalGrant, behind_writeGrants, behind_writeSums, behind_setLevel, behind_offerCommonSpeed, behind_stage]

/-! ### Firing and evaluation -/

@[simp] theorem behind_sendNotice (w : WatchIdx) (v : Int) (s : State) : (s.behind l).sendNotice w v = (s.sendNotice w v).behind l := by
  simp only [sendNotice, behind_plant, behind_watches, behind_timeCount, behind_send, ite_behind]

@[simp] theorem behind_choose (n : Nat) (s : State) : (s.behind l).choose n = ((s.choose n).1, (s.choose n).2.behind l) := by
  unfold choose
  simp only [behind_freeIndex, behind_withFreeIndex]
  split <;> rfl

@[simp] theorem behind_actFreeze (c : WatchConfig) (s : State) : (s.behind l).actFreeze c = (s.actFreeze c).behind l := by
  simp only [actFreeze, behind_freeze, ite_behind]

@[simp] theorem behind_actWakeAndFreeze (w : WatchIdx) (c : WatchConfig) (s : State) :
    (s.behind l).actWakeAndFreeze w c = (s.actWakeAndFreeze w c).behind l := by
  unfold actWakeAndFreeze
  cases c.doesFreeze <;> simp only [behind_wakesLane, behind_changeRegime, behind_choose, behind_allocate, behind_armLinked, behind_actFreeze,
    Bool.false_eq_true, if_true, if_false, ite_behind]

@[simp] theorem behind_fire (w : WatchIdx) (v : Int) (s : State) : (s.behind l).fire w v = (s.fire w v).behind l := by
  simp only [fire, behind_watches, behind_setWatch, behind_capture, actNotice, actTrip, behind_sendNotice, behind_tripRequest, ← ite_behind,
    behind_actWakeAndFreeze]

@[simp] theorem behind_count (w : WatchIdx) (truth : Bool) (v : Int) (s : State) : (s.behind l).count w truth v = (s.count w truth v).behind l := by
  simp only [count, behind_watches, behind_fire, behind_setWatch, ite_behind]

/-- An evaluation does not look at the arrivals that wait, and adds behind them. -/
@[simp] theorem behind_evaluateWatch (ch : Change) (w : WatchIdx) (s : State) :
    (s.behind l).evaluateWatch ch w = (s.evaluateWatch ch w).behind l := by
  unfold evaluateWatch
  simp only [behind_watches, behind_answer, behind_setWatch, behind_count]
  split
  · rfl
  · split
    · rfl
    · exact (ite_behind l ..).symm

@[simp] theorem behind_evaluate (ch : Change) (s : State) : (s.behind l).evaluate ch = (s.evaluate ch).behind l :=
  each_behind l (behind_evaluateWatch l ch) _ s

end State
end Sys2Proof.Machine
end

section
/-! The watch unit takes the arrivals one after another, in the order they arose (R155, R160). -/
namespace Sys2Proof.Machine

namespace State

variable {s t : State}

theorem behind_of_taken (l : List Change) (s : State) : (s.withRaised []).behind l = s.withRaised l := by
  unfold behind
  rw [withRaised_withRaised, withRaised_raised, List.append_nil]

theorem withRaised_behind (l m : List Change) (s : State) : (s.behind l).withRaised m = s.withRaised m := withRaised_withRaised ..

theorem each_cons {α : Type} (s : State) (a : α) (l : List α) (f : α → State → State) : s.each (a :: l) f = (f a s).each l f := rfl

theorem each_append {α : Type} (s : State) (l m : List α) (f : α → State → State) : s.each (l ++ m) f = (s.each l f).each m f :=
  List.foldl_append ..

theorem eq_behind (s : State) : s = (s.withRaised []).behind s.raised := (behind_of_taken s.raised s).symm

/-! ### Rounds -/

/-- One round of the watch unit: every arrival that waits is evaluated, in order. -/
def round (s : State) : State := (s.withRaised []).each s.raised State.evaluate

theorem drainRounds_succ (n : Nat) (s : State) : s.drainRounds (n + 1) = if s.raised = [] then s else s.round.drainRounds n := by
  rw [drainRounds]
  split
  · next none => rw [if_pos none]
  · next some => rw [if_neg some]; rfl

theorem round_of_none (none : s.raised = []) : s.round = s := by
  have same : s.withRaised [] = s := none ▸ withRaised_self s
  rw [round, none, same]
  rfl

theorem round_advances (s : State) : Advances (s.withRaised []) s.round := .each evaluate_advances _ _

/-- Rounds beyond those needed do nothing. -/
theorem drainRounds_eq {n m : Nat} (enough : s.unfired.card < n) (enough' : s.unfired.card < m) : s.drainRounds n = s.drainRounds m := by
  induction n generalizing s m with
  | zero => exact absurd enough (Nat.not_lt_zero _)
  | succ n ih =>
    obtain ⟨m, rfl⟩ : ∃ k, m = k + 1 := ⟨m - 1, by omega⟩
    rw [drainRounds_succ, drainRounds_succ]
    split
    · rfl
    · obtain none | fewer := s.round_advances.raises
      · have settled : s.round.raised = [] := none
        have still (k : Nat) : s.round.drainRounds k = s.round := by
          cases k with
          | zero => rfl
          | succ k => rw [drainRounds_succ, if_pos settled]
        rw [still, still]
      · have less : s.round.unfired.card < s.unfired.card := Finset.card_lt_card fewer
        exact ih (by omega) (by omega)

theorem unfired_card_lt (s : State) : s.unfired.card < 33 := by
  have all : s.unfired.card ≤ (Finset.univ : Finset WatchIdx).card := Finset.card_filter_le _ _
  have watches : (Finset.univ : Finset WatchIdx).card = 32 := by simp
  omega

theorem drain_round (s : State) : s.drain = s.round.drain := by
  by_cases none : s.raised = []
  · rw [round_of_none none]
  · have first : s.drainRounds 34 = s.round.drainRounds 33 := (drainRounds_succ 33 s).trans (if_neg none)
    have enough := s.unfired_card_lt
    exact (drainRounds_eq enough (by omega)).trans first

/-! ### One arrival after another -/

/-- The first arrival may be evaluated alone: what it raises waits behind the others and is taken after them. -/
abbrev TakesFirst (s : State) : Prop := ∀ ch rest, s.raised = ch :: rest → s.drain = ((s.withRaised rest).evaluate ch).drain

theorem drain_behind (n : Nat) (first : ∀ u : State, u.unfired.card < n → u.TakesFirst) (l : List Change) (s : State)
    (few : s.unfired.card < n) : (s.behind l).drain = (s.each l State.evaluate).drain := by
  induction l generalizing s with
  | nil => rfl
  | cons ch l ih =>
    have one : (s.behind (ch :: l)).drain = ((s.withRaised (l ++ s.raised)).evaluate ch).drain :=
      withRaised_behind (ch :: l) (l ++ s.raised) s ▸ first (s.behind (ch :: l)) few ch (l ++ s.raised) (behind_raised ..)
    have less : (s.evaluate ch).unfired.card ≤ s.unfired.card := Finset.card_le_card (evaluate_advances ch s).stays
    rw [one, ← behind, behind_evaluate, each_cons]
    exact ih _ (by omega)

/-- By rounds: the round of the state is the arrivals raised by its first evaluation, behind the evaluations of the others; and the rest of
the work is done by fewer watches, for to raise anything the first evaluation fires one. -/
theorem takesFirst_of_card (n : Nat) (s : State) (few : s.unfired.card < n) : s.TakesFirst := by
  induction n generalizing s with
  | zero => exact absurd few (Nat.not_lt_zero _)
  | succ n ih =>
    intro ch rest waiting
    obtain ⟨u, evaluated⟩ : ∃ u, (s.withRaised []).evaluate ch = u := ⟨_, rfl⟩
    obtain ⟨v, others⟩ : ∃ v, (u.withRaised []).each rest State.evaluate = v := ⟨_, rfl⟩
    have taken : (s.withRaised rest).evaluate ch = u.behind rest := by rw [← behind_of_taken, behind_evaluate, evaluated]
    have mine : s.round = v.behind u.raised := by
      rw [round, waiting, each_cons, evaluated, ← others, ← each_behind u.raised (behind_evaluate u.raised), ← eq_behind]
    have other : (u.behind rest).round = v.each u.raised State.evaluate := by
      rw [round, withRaised_behind, behind_raised, each_append, others]
    rw [taken, drain_round s, drain_round (u.behind rest), mine, other]
    have steps : Advances (s.withRaised []) u := evaluated ▸ evaluate_advances ch _
    obtain quiet | fewer := steps.raises
    · rw [show u.raised = [] from quiet]
      rfl
    · have left : v.unfired.card ≤ u.unfired.card :=
        others ▸ Finset.card_le_card (Advances.each evaluate_advances rest (u.withRaised [])).stays
      have less : u.unfired.card < s.unfired.card := Finset.card_lt_card fewer
      exact drain_behind n ih u.raised v (by omega)

theorem drain_of_cons {ch : Change} {rest : List Change} (waiting : s.raised = ch :: rest) :
    s.drain = ((s.withRaised rest).evaluate ch).drain := takesFirst_of_card 33 s s.unfired_card_lt ch rest waiting

/-- No watch that is not OFF has the change as its subject. -/
abbrev Unheard (s : State) (ch : Change) : Prop := ∀ w, (s.watches.get w).state = .off ∨ (s.watches.get w).config.subject ≠ ch.subject

theorem evaluate_of_unheard {ch : Change} (unheard : s.Unheard ch) : s.evaluate ch = s :=
  each_induction (P := (· = s)) _ (fun w _ u same => by subst same; exact evaluateWatch_of_passed_over (unheard w)) rfl

theorem drain_of_unheard (unheard : ∀ ch ∈ s.raised, s.Unheard ch) : s.drain = s.withRaised [] := by
  induction waiting : s.raised generalizing s with
  | nil =>
    rw [drain_of_raised_nil waiting, ← waiting, withRaised_self]
  | cons ch rest ih =>
    rw [waiting] at unheard
    have quiet : (s.withRaised rest).evaluate ch = s.withRaised rest := evaluate_of_unheard (unheard ch (List.mem_cons_self ..))
    rw [drain_of_cons waiting, quiet]
    exact ih (fun c mem => unheard c (List.mem_cons_of_mem ch mem)) rfl

end State

/-- Settles O38: one arrival after another by `State.drain_of_cons`, an evaluation's own arrivals behind by `State.behind_evaluateWatch`. -/
theorem watchUnitTakesEveryArrival : Obligations.WatchUnitTakesEveryArrival := by
  refine ⟨State.drain_takes, fun s => State.drain_of_raised_nil, fun s ch rest => State.drain_of_cons, fun s ch rest w => ?_,
    fun s ch one => ?_, fun s => State.drain_of_unheard⟩
  · refine ⟨((s.withRaised []).evaluateWatch ch w).raised, ?_⟩
    rw [← State.behind_of_taken, State.behind_evaluateWatch]
    rfl
  · exact fun settled => (State.drain_of_cons one).trans (State.drain_of_raised_nil settled)

end Sys2Proof.Machine
end

section
/-! Requests that are served, with effects that the reply follows (R182): points forced and released, watches acknowledged, the lease, the store
and the history. -/
namespace Sys2Proof.Machine

namespace State

variable {s t : State} {src : Addr}

/-! ### Replies -/

theorem Calm.unheard_event (calm : s.Calm) (e : EventCondition) : s.Unheard (.event e) := fun w =>
  (calm.points w).imp_right fun ⟨p, subject⟩ => by rw [subject]; exact nofun

theorem Calm.unheard_level (calm : s.Calm) (c : Level) (b : Bool) : s.Unheard (.level c b) := fun w =>
  (calm.points w).imp_right fun ⟨p, subject⟩ => by rw [subject]; exact nofun

/-- A change that concerns no watch is handed over and gone. -/
theorem drain_raise_of_unheard (raised : s.raised = []) {c : Change} (unheard : s.Unheard c) : (s.raise c).drain = s := by
  have waiting : (s.raise c).raised = [c] := by rw [raise, withRaised_raised, raised]; rfl
  rw [drain_of_unheard fun ch mem => by rw [waiting, List.mem_singleton] at mem; exact mem ▸ unheard]
  rw [raise, withRaised_withRaised, ← raised, withRaised_self]

/-- The reply joins the queue once the watch unit has taken what the request raised. -/
theorem reply_of_drained (taken : t.drain = s) (room : s.ring.transmit.length < 16) (code tag : Byte) (result : Result) (data : List Byte) :
    reply src code tag (t, some (result, data)) = s.withRing (s.ring.join s.ownAddress { dst := src, body := .reply code tag result data }) := by
  have settled : s.raised = [] := taken ▸ drain_takes t
  rw [← reply_of_room settled room]
  simp only [reply, taken, drain_of_raised_nil settled]

/-- A reply that finds no room is lost; its QUEUE_OVERFLOW concerns no watch. -/
theorem reply_of_full (raised : s.raised = []) (unheard : s.Unheard (.event .queueOverflow)) (full : 16 ≤ s.ring.transmit.length)
    (code tag : Byte) (result : Result) (data : List Byte) : reply src code tag (s, some (result, data)) = s := by
  have lost : s.send src (.reply code tag result data) = s.raise (.event .queueOverflow) := congrArg Prod.fst (enqueue_of_full full _)
  simp only [reply, drain_of_raised_nil raised, lost]
  exact drain_raise_of_unheard raised unheard

theorem reply_but (src : Addr) (code tag : Byte) (a : Answered) : a.1.SameBut watchParts (reply src code tag a) := by
  unfold reply
  split
  · exact drain_but _
  · exact (drain_but _).trans (((send_but _ _ _).mono (by simp +contextual)).trans (drain_but _))

/-! A served command is its request's effects on the hearing state and then the reply. -/

theorem exec_forcePoint (serves : s.Serves src) (tag point : Byte) (value : Word32) :
    exec (.forcePoint src tag point value) s = .next (reply src 7 tag (s.hearing.forcePoint point value).answered) :=
  congrArg Host.Outcome.next (requestArrives_of_serves serves 7 tag (.forcePoint point value))

theorem exec_releasePoint (serves : s.Serves src) (tag point : Byte) :
    exec (.releasePoint src tag point) s = .next (reply src 8 tag (s.hearing.releasePoint point).answered) :=
  congrArg Host.Outcome.next (requestArrives_of_serves serves 8 tag (.releasePoint point))

theorem exec_acknowledge (serves : s.Serves src) (tag watch : Byte) :
    exec (.acknowledge src tag watch) s = .next (reply src 11 tag (s.hearing.acknowledge watch).answered) :=
  congrArg Host.Outcome.next (requestArrives_of_serves serves 11 tag (.acknowledge watch))

theorem exec_refresh (serves : s.Serves src) (tag seconds : Byte) :
    exec (.refresh src tag seconds) s = .next (reply src 13 tag (s.hearing.refresh seconds).answered) :=
  congrArg Host.Outcome.next (requestArrives_of_serves serves 13 tag (.refresh seconds))

theorem exec_readHistory (serves : s.Serves src) (tag count : Byte) :
    exec (.readHistory src tag count) s = .next (reply src 14 tag (s.hearing.readHistory count)) :=
  congrArg Host.Outcome.next (requestArrives_of_serves serves 14 tag (.readHistory count))

theorem exec_commitStore (serves : s.Serves src) (tag : Byte) :
    exec (.commitStore src tag) s = .next (reply src 4 tag (s.hearing.commitStore src tag)) :=
  congrArg Host.Outcome.next (requestArrives_of_serves serves 4 tag .commitStore)

/-- A request refused for its index. -/
theorem reply_of_le {n : Nat} {i : Byte} (serves : s.Serves src) (outside : n ≤ i.toNat) (f : Fin n → Outcome) (code tag : Byte) :
    reply src code tag (s.hearing.atIndex n i f).answered = s.replied src code tag .badIndex [] := by
  rw [atIndex_of_le outside]
  exact reply_hearing serves ..

/-! ### FORCE_POINT and RELEASE_POINT -/

end State

/-- A point forced to a value (R46). -/
def Point.forced (pt : Point) (raw : Int) : Point :=
  { pt with
    state := .forced { value := clampInt pt.config.low pt.config.high raw, filtered := clampInt pt.config.low pt.config.high raw }
    age := none }

namespace State

variable {s t : State} {src : Addr}

theorem reply_update_points {p : PointIdx} {pt : Point} (result : Result) (code tag : Byte) :
    (reply src code tag ((s.setPoint p pt).updateEvent p, some (result, []))).points = s.points.set p pt :=
  (reply_but src code tag _ .points (by decide)).trans (updateEvent_points ..)

theorem reply_update_routes {p : PointIdx} {pt : Point} (result : Result) (code tag : Byte) :
    (reply src code tag ((s.setPoint p pt).updateEvent p, some (result, []))).routes = s.routes :=
  (reply_but src code tag _ .routes (by decide)).trans (updateEvent_routes ..)

theorem updateKeeps_of_reply {p : PointIdx} {pt : Point} (same : pt.config = (s.points.get p).config) (result : Result) (code tag : Byte) :
    s.UpdateKeeps (reply src code tag ((s.setPoint p pt).updateEvent p, some (result, []))) := by
  have but : s.SameBut (.points :: updateParts) (reply src code tag ((s.setPoint p pt).updateEvent p, some (result, []))) :=
    (((s.withPointTable_but _).mono (by simp)).trans ((updateEvent_but p _).mono (by simp +contextual))).trans
      ((reply_but src code tag _).mono (by simp +contextual))
  exact .of_but but (by decide) ((sameStaged_kept s).reply ((sameStaged_kept s).updateEvent (.setPoint same) p) src code tag)

/-- A served request that changes the point table alone. -/
theorem reply_hearing_withPoints (serves : s.Serves src) (points : Table 128 Point) (code tag : Byte) (result : Result) (data : List Byte) :
    reply src code tag (s.hearing.withPoints points, some (result, data)) = (s.replied src code tag result data).withPoints points :=
  reply_of_room (s := s.hearing.withPoints points) serves.raised serves.room code tag result data

theorem forcePoint_of_index {point : Byte} {p : PointIdx} (index : point.toNat = p.val) (value : Word32) :
    s.forcePoint point value = ((s.setPoint p ((s.points.get p).forced value.toInt)).updateEvent p,
      if clampInt (s.points.get p).config.low (s.points.get p).config.high value.toInt = value.toInt then .ok else .okClamped) := by
  refine (atIndex_of_eq index _).trans (congrArg (Prod.mk _) ?_)
  unfold Result.done
  split <;> simp_all

theorem releasePoint_of_forced {point : Byte} {p : PointIdx} (index : point.toNat = p.val)
    (forced : (s.points.get p).state.quality = .forced) :
    s.releasePoint point = ((s.setPoint p (Point.fresh (s.points.get p).config)).updateEvent p, .ok) :=
  (atIndex_of_eq index _).trans (congrArg (·, Result.ok) (if_pos forced))

theorem releasePoint_of_free {point : Byte} {p : PointIdx} (index : point.toNat = p.val)
    (free : (s.points.get p).state.quality ≠ .forced) : s.releasePoint point = (s, .ok) :=
  (atIndex_of_eq index _).trans (congrArg (·, Result.ok) (if_neg free))

theorem NoDependants.hearing {p : PointIdx} (alone : s.NoDependants p) : s.hearing.NoDependants p :=
  ⟨alone.watches, alone.influent, alone.ammonia⟩

end State

namespace State

variable {s : State} {src : Addr} {p : PointIdx}

/-- What a request with an update event does, and does alone where the point has no dependants. -/
theorem exec_update {c : Instr} {pt : Point} {code tag : Byte} {result : Result} (serves : s.Serves src)
    (updates : exec c s = .next (reply src code tag ((s.hearing.setPoint p pt).updateEvent p, some (result, []))))
    (same : pt.config = (s.points.get p).config) :
    (∃ t, exec c s = .next t ∧ t.points = s.points.set p pt ∧ t.routes = s.routes ∧ s.hearing.UpdateKeeps t) ∧
    (s.NoDependants p → exec c s = .next ((s.replied src code tag result []).withPoints (s.points.set p pt))) := by
  refine ⟨⟨_, updates, reply_update_points (s := s.hearing) .., reply_update_routes (s := s.hearing) .., updateKeeps_of_reply (s := s.hearing) same ..⟩, fun alone => ?_⟩
  have quiet : (s.hearing.setPoint p pt).updateEvent p = s.hearing.setPoint p pt := (alone.hearing.withPoints _).updateEvent
  rw [updates, quiet]
  exact congrArg Host.Outcome.next (reply_hearing_withPoints serves ..)

end State

/-- Settles O20: the effects of each request on the hearing state, and its reply behind them. -/
theorem forceAndReleasePoint : Obligations.ForceAndReleasePoint := by
  intro s src tag point value serves
  have forces := State.exec_forcePoint serves tag point value
  have releases := State.exec_releasePoint serves tag point
  refine ⟨fun outside => ?_, fun p index => ?_⟩
  · rw [forces, releases]
    exact ⟨congrArg Host.Outcome.next (State.reply_of_le (n := 128) serves outside ..),
      congrArg Host.Outcome.next (State.reply_of_le (n := 128) serves outside ..)⟩
  rw [State.forcePoint_of_index index, Outcome.answered] at forces
  obtain ⟨forced, alone⟩ := State.exec_update serves forces rfl
  refine ⟨forced, forces, alone, fun held => ?_, fun free => ?_⟩
  · rw [State.releasePoint_of_forced (s := s.hearing) index held, Outcome.answered] at releases
    obtain ⟨released, alone⟩ := State.exec_update serves releases rfl
    exact ⟨released, releases, alone⟩
  · rw [State.releasePoint_of_free (s := s.hearing) index free, Outcome.answered] at releases
    exact releases.trans (congrArg Host.Outcome.next (State.reply_hearing serves ..))

/-! ### The supervision lease -/

namespace State

variable {s t : State} {src : Addr}

/-- The lease a REFRESH loads (R148). -/
def leaseOf (seconds : Byte) : Supervision := { countdown := some (max 5 seconds.toNat * 10), lost := false }

theorem refresh_eq (seconds : Byte) (s : State) : s.refresh seconds =
    ((s.withSupervision { s.supervision with countdown := some (max 5 seconds.toNat * 10) }).setLevel .supervisionLost false,
      if seconds.toNat < 5 then .okClamped else .ok) := by
  unfold refresh Result.done
  simp only [decide_eq_true_eq]
  rfl

theorem refresh_of_kept (kept : s.supervision.lost = false) (seconds : Byte) :
    s.refresh seconds = (s.withSupervision (leaseOf seconds), if seconds.toNat < 5 then .okClamped else .ok) := by
  have lease : { s.supervision with countdown := some (max 5 seconds.toNat * 10) } = leaseOf seconds := by rw [leaseOf, ← kept]
  rw [refresh_eq, lease, setLevel_of_eq (by rfl)]

theorem refresh_of_lost (lost : s.supervision.lost = true) (seconds : Byte) : s.refresh seconds =
    (((s.withSupervision (leaseOf seconds)).capture (.supervision true false)).raise (.level .supervisionLost false),
      if seconds.toNat < 5 then .okClamped else .ok) := by
  have changes : (s.withSupervision { s.supervision with countdown := some (max 5 seconds.toNat * 10) }).level .supervisionLost ≠ false := by
    rw [level, withSupervision_supervision, lost]
    decide
  rw [refresh_eq, setLevel_of_ne changes]
  rfl

theorem reply_hearing_withSupervision (serves : s.Serves src) (x : Supervision) (code tag : Byte) (result : Result) (data : List Byte) :
    reply src code tag (s.hearing.withSupervision x, some (result, data)) = (s.replied src code tag result data).withSupervision x :=
  reply_of_room (s := s.hearing.withSupervision x) serves.raised serves.room code tag result data

/-- The expiry of the countdown releases every output (R149). -/
theorem releaseAll_outputs (s : State) (o : OutputIdx) :
    (s.each (indices 64) fun o u => u.changeOutput o .auto).outputs.get o = { s.outputs.get o with state := .auto } := by
  have each (l : List OutputIdx) (u : State) : (u.each l fun o u => u.changeOutput o .auto).outputs.get o =
      if o ∈ l then { u.outputs.get o with state := .auto } else u.outputs.get o := by
    induction l generalizing u with
    | nil => rfl
    | cons p l ih =>
      rw [each_cons, ih, changeOutput_outputs, Table.get_set]
      by_cases same : p = o
      · subst same
        simp
      · simp [same, Ne.symm same]
  rw [each, if_pos (mem_indices o)]

theorem releaseAll_supervision (s : State) : (s.each (indices 64) fun o u => u.changeOutput o .auto).supervision = s.supervision :=
  SameBut.each _ (fun o u => u.changeOutput_but o .auto) _ s .supervision (by decide)

/-- The expiry where SUPERVISION_LOST is not active yet (R149). -/
theorem countdownExpires_eq (kept : s.supervision.lost = false) : s.countdownExpires =
    (((s.each (indices 64) fun o u => u.changeOutput o .auto).withSupervision { countdown := none, lost := true }).capture
      (.supervision false true)).raise (.level .supervisionLost true) := by
  have same := s.releaseAll_supervision
  unfold countdownExpires
  generalize s.each (indices 64) (fun o u => u.changeOutput o .auto) = released at same ⊢
  have changes : (released.withSupervision { released.supervision with countdown := none }).level .supervisionLost ≠ true := by
    rw [level, withSupervision_supervision, same, kept]
    decide
  exact setLevel_of_ne changes

end State

/-- Settles O34: the lease loaded, SUPERVISION_LOST cleared or set by its change, the outputs released one by one. -/
theorem refreshAndCountdownExpiry : Obligations.RefreshAndCountdownExpiry := by
  refine ⟨fun s src tag seconds serves => ?_, fun s running => ⟨fun stopped => ?_, fun runs kept => ?_⟩⟩
  · have loads := State.exec_refresh serves tag seconds
    refine ⟨fun kept => ?_, fun lost calm => ?_, fun lost => ?_⟩
    · rw [State.refresh_of_kept (s := s.hearing) kept, Outcome.answered] at loads
      exact loads.trans (congrArg Host.Outcome.next (State.reply_hearing_withSupervision serves ..))
    · rw [State.refresh_of_lost (s := s.hearing) lost, Outcome.answered] at loads
      have taken := State.drain_raise_of_unheard
        (s := (s.hearing.withSupervision (State.leaseOf seconds)).capture (.supervision true false)) serves.raised
        (calm.unheard_level .supervisionLost false)
      exact loads.trans (congrArg Host.Outcome.next (State.reply_of_drained taken serves.room ..))
    · rw [State.refresh_of_lost (s := s.hearing) lost, Outcome.answered] at loads
      exact loads
  · exact congrArg Host.Outcome.next (State.expire_of_unset (by simp [stopped]))
  · exact ⟨(congrArg Host.Outcome.next (State.expire_of_running running runs)).trans
      (congrArg (fun u => Host.Outcome.next (State.drain u)) (State.countdownExpires_eq kept)), s.releaseAll_outputs⟩

/-! ### Watches that leave FIRED -/

namespace State

variable {s t : State} {src : Addr}

/-- The watches linked to one that leaves FIRED wait again (R164). -/
theorem disarmLinked_eq (w : WatchIdx) (ws : Table 32 Watch) : (ws.map (·.disarmBy w)) = ws.map fun y =>
    if y.config.stage = some w ∧ y.state = .armed then { y with state := .waiting, count := y.config.persistence - 1 } else y := rfl

theorem restState_eq (c : WatchConfig) (s : State) : (if s.stageFired c then WatchState.armed else .waiting) =
    if ∀ j, c.stage = some j → (s.watches.get j).state.isFired = true then .armed else .waiting := by
  simp only [stageFired_iff]

theorem rearm_eq (w : WatchIdx) (x : Watch) (s : State) : s.rearm w x = s.withWatches
    ((s.watches.set w { x with
        state := if ∀ j, x.config.stage = some j → (s.watches.get j).state.isFired = true then .armed else .waiting }).map (·.disarmBy w)) := by
  rw [← restState_eq]
  rfl

theorem reply_hearing_withWatches (serves : s.Serves src) (ws : Table 32 Watch) (code tag : Byte) (result : Result) (data : List Byte) :
    reply src code tag (s.hearing.withWatches ws, some (result, data)) = (s.replied src code tag result data).withWatches ws :=
  reply_of_room (s := s.hearing.withWatches ws) serves.raised serves.room code tag result data

theorem acknowledge_of_fired {watch : Byte} {w : WatchIdx} (index : watch.toNat = w.val) (fired : (s.watches.get w).state.isFired = true) :
    s.acknowledge watch = (s.rearm w { s.watches.get w with count := (s.watches.get w).config.persistence - 1, occurrence := false }, .ok) :=
  (atIndex_of_eq index _).trans (congrArg (·, Result.ok) (if_pos fired))

theorem acknowledge_of_unfired {watch : Byte} {w : WatchIdx} (index : watch.toNat = w.val) (unfired : (s.watches.get w).state.isFired = false) :
    s.acknowledge watch = (s.setWatch w { s.watches.get w with occurrence := false }, .ok) :=
  (atIndex_of_eq index _).trans (congrArg (·, Result.ok) (if_neg (by simp [unfired])))

end State

/-- Settles O39: a rearm by the stage link, and what the reply finds. -/
theorem holdExpiryAndAcknowledge : Obligations.HoldExpiryAndAcknowledge := by
  intro s w
  refine ⟨fun running raised => ⟨fun none => ?_, fun holds => ?_⟩, fun src tag watch serves => ⟨fun outside => ?_, fun index =>
    ⟨fun fired => ?_, fun unfired => ?_⟩⟩⟩
  · exact congrArg Host.Outcome.next (State.expire_of_unset (by simp [none]))
  · refine congrArg Host.Outcome.next ((State.expire_of_running running holds).trans ?_)
    rw [State.holdExpires, State.rearm_eq]
    exact State.drain_of_raised_nil raised
  · exact (State.exec_acknowledge serves tag watch).trans (congrArg Host.Outcome.next (State.reply_of_le (n := 32) serves outside ..))
  · rw [State.exec_acknowledge serves, State.acknowledge_of_fired (s := s.hearing) index fired, Outcome.answered, State.rearm_eq]
    exact congrArg Host.Outcome.next (State.reply_hearing_withWatches serves ..)
  · rw [State.exec_acknowledge serves, State.acknowledge_of_unfired (s := s.hearing) index unfired, Outcome.answered]
    exact congrArg Host.Outcome.next (State.reply_hearing_withWatches serves ..)

end Sys2Proof.Machine
end

section
/-! The store's commit (R187, R188) and the event history (R175 to R179). -/
namespace Sys2Proof.Machine

namespace State

variable {s t : State} {src : Addr}

/-! ### Commits -/

theorem commitStore_of_flight (flight : s.management.commit.isSome = true) (tag : Byte) : s.commitStore src tag = (s, some (.busy, [])) := by
  obtain ⟨c, held⟩ := Option.isSome_iff_exists.1 flight
  simp only [commitStore, held]
  rfl

theorem commitStore_of_none (none : s.management.commit = none) (tag : Byte) : s.commitStore src tag =
    (s.withManagement { s.management with
      commit := some { settings := s.settings, target := if s.management.current = some 0 then 1 else 0, source := src, tag := tag } }, .none) := by
  simp only [commitStore, none]
  rfl

theorem reply_of_none (raised : t.raised = []) (code tag : Byte) : reply src code tag (t, none) = t := drain_of_raised_nil raised

/-- An offer and a write to the store do not touch each other. -/
theorem enqueue_withManagement (m : Management) (q : Queued) (s : State) :
    (s.withManagement m).enqueue q = ((s.enqueue q).1.withManagement m, (s.enqueue q).2) := by
  unfold enqueue
  rw [withManagement_ring, withManagement_ownAddress]
  split <;> rfl

theorem send_withManagement (m : Management) (dst : Addr) (b : Body) (s : State) :
    (s.withManagement m).send dst b = (s.send dst b).withManagement m := by
  rw [send, enqueue_withManagement]
  rfl

theorem send_management (dst : Addr) (b : Body) (s : State) : (s.send dst b).management = s.management :=
  s.send_but dst b .management (by decide)

/-- The commit is over and done with whether its reply is offered before or after (R188). -/
theorem commitSucceeds_eq (c : Commit) (s : State) : s.commitSucceeds c =
    (s.withManagement { commit := none, generation := s.management.generation + 1, current := some c.target
                        images := s.management.images.set c.target
                          (some { generation := s.management.generation + 1, settings := c.settings }) }).send c.source
      (.reply 4 c.tag .ok (bytes16 (s.management.generation + 1))) := by
  unfold commitSucceeds
  dsimp only
  rw [send_withManagement, send_withManagement, withManagement_management, withManagement_withManagement]
  rfl

theorem commitFails_eq (c : Commit) (s : State) : s.commitFails c =
    ((((s.withManagement { s.management with commit := none, images := s.management.images.set c.target none }).capture
      (.store 1 s.management.generation)).send c.source (.reply 4 c.tag .storeFault [])).raise (.event .storeFault)) := by
  have apart (m : Management) (e : HistoryEvent) : (s.withManagement m).capture e = (s.capture e).withManagement m := rfl
  unfold commitFails
  dsimp only
  rw [apart, apart, send_withManagement, send_withManagement, withManagement_management, withManagement_withManagement]
  rfl

theorem completeCommit_of_none (none : s.management.commit = none) (ok : Bool) : s.completeCommit ok = s := by
  simp only [completeCommit, none]

theorem completeCommit_of_some {c : Commit} (flight : s.management.commit = some c) (ok : Bool) :
    s.completeCommit ok = if ok then s.commitSucceeds c else s.commitFails c := by
  simp only [completeCommit, flight]

end State

/-- Settles O51: the snapshot kept, and the completion of each outcome. -/
theorem commitKeepsAndWritesASnapshot : Obligations.CommitKeepsAndWritesASnapshot := by
  refine ⟨fun s src tag serves => ⟨fun flight => ?_, fun none => ?_⟩, fun s => ⟨fun none raised ok => ?_, fun c flight => ⟨?_, ?_⟩⟩⟩
  · rw [State.exec_commitStore serves, State.commitStore_of_flight (s := s.hearing) flight]
    exact congrArg Host.Outcome.next (State.reply_hearing serves ..)
  · rw [State.exec_commitStore serves, State.commitStore_of_none (s := s.hearing) none]
    exact congrArg Host.Outcome.next (State.reply_of_none (t := s.hearing.withManagement _) serves.raised ..)
  · refine congrArg Host.Outcome.next ?_
    rw [State.completeCommit_of_none none]
    exact State.drain_of_raised_nil raised
  · refine congrArg (fun u => Host.Outcome.next (State.drain u)) ?_
    rw [State.completeCommit_of_some flight, if_pos rfl, State.commitSucceeds_eq]
    rfl
  · refine congrArg (fun u => Host.Outcome.next (State.drain u)) ?_
    rw [State.completeCommit_of_some flight, if_neg Bool.false_ne_true, State.commitFails_eq]
    rfl

/-! ### The history -/

namespace History

variable {h : History}

theorem capture_of_frozen (frozen : h.frozen = true) (time : BitVec 32) (e : HistoryEvent) : h.capture time e = h := if_pos frozen

theorem capture_of_capturing (capturing : h.frozen = false) (time : BitVec 32) (e : HistoryEvent) : h.capture time e =
    { h with
      entries := (if h.entries.length < 64 then h.entries else h.entries.tail) ++ [{ number := h.next, time := time, event := e }]
      next := h.next + 1 } := if_neg (by simp [capturing])

end History

theorem historyCount_eq (count : Byte) : historyCount count = min 3 (max 1 count.toNat) := by
  unfold historyCount clampNat
  split
  · omega
  · split <;> omega

namespace State

variable {s : State} {src : Addr}

theorem readHistory_eq (count : Byte) (s : State) : s.readHistory count =
    (s.withHistory { s.history with entries := s.history.entries.drop (min 3 (max 1 count.toNat)) },
      some (if 1 ≤ count.toNat ∧ count.toNat ≤ 3 then .ok else .okClamped,
        BitVec.ofNat 8 (s.history.entries.take (min 3 (max 1 count.toNat))).length ::
          (s.history.entries.take (min 3 (max 1 count.toNat))).flatMap Entry.bytes)) := by
  have within : (Result.done (decide (min 3 (max 1 count.toNat) ≠ count.toNat))) =
      if 1 ≤ count.toNat ∧ count.toNat ≤ 3 then Result.ok else .okClamped := by
    unfold Result.done
    split <;> split <;> simp_all
    all_goals omega
  unfold readHistory
  simp only [historyCount_eq, within]

/-- A permitted request of another node that arrives at a full queue is carried out on the hearing state. -/
theorem requestArrives_of_permitted (power : s.power = .running) (other : src ≠ s.ownAddress) (permitted : s.isSupervisor src = true)
    (heard : s.ring.silent = false) (raised : s.raised = []) (code tag : Byte) (r : Request) :
    s.requestArrives src code tag (some r) = reply src code tag (s.hearing.perform src tag r) := by
  have allowed : s.hearing.isSupervisor src = true := permitted
  have foreign : src ≠ s.hearing.ownAddress := other
  simp only [requestArrives, power, heard_of_quiet heard raised, if_neg foreign, agent, check, allowed, Bool.true_eq_false, if_false]

end State

/-- Settles O54: a capture, a read with and without room for its reply, and the row of each kind of entry. -/
theorem historyIsCapturedAndRead : Obligations.HistoryIsCapturedAndRead := by
  refine ⟨fun h time e => ⟨fun frozen => History.capture_of_frozen frozen time e, fun capturing => ?_⟩, fun s src tag count => ⟨fun serves => ?_,
    fun calm power other permitted heard full => ?_⟩, fun number time e => ?_⟩
  · rw [History.capture_of_capturing capturing]
    refine ⟨rfl, capturing, fun room => ?_, fun old rest entries full => ?_⟩
    · rw [if_pos room]
    · rw [if_neg (by omega), entries, List.tail_cons]
  · rw [State.exec_readHistory serves, State.readHistory_eq]
    exact congrArg Host.Outcome.next (State.reply_hearing_withHistory serves ..)
  · have arrives := State.requestArrives_of_permitted power other permitted heard calm.raised 14 tag (.readHistory count)
    refine congrArg Host.Outcome.next (arrives.trans ?_)
    rw [State.perform, State.readHistory_eq]
    exact State.reply_of_full (s := s.hearing.withHistory _) calm.raised (calm.unheard_event .queueOverflow) full ..
  · cases e with
    | condition c old new => cases c <;> rfl
    | _ => rfl

end Sys2Proof.Machine
end

section
/-! The framing of bytes (R3, R4): which bytes the receiver and the bypass hold, when a frame is complete, and what its bytes spell. -/
namespace Sys2Proof.Machine

/-! ### Held bytes and whole frames -/

/-- The beginning of a frame that has not ended and is not overlong: what the receiver holds after it (R4). -/
structure Held (bytes : List Byte) : Prop where
  delimiter : bytes.head? = some 0x7E
  short : ∀ len, bytes[7]? = some len → len.toNat ≤ 48 ∧ bytes.length < 10 + len.toNat

/-- The bytes of one whole frame of at most 48 payload bytes (R3, R4). -/
structure Framed (bytes : List Byte) (n : Nat) : Prop where
  delimiter : bytes.head? = some 0x7E
  fits : n ≤ 48
  counts : bytes[7]? = some (BitVec.ofNat 8 n)
  length : bytes.length = 10 + n

theorem toNat_ofNat_of_fits {n : Nat} (fits : n ≤ 48) : (BitVec.ofNat 8 n).toNat = n := by
  rw [BitVec.toNat_ofNat]
  omega

theorem Framed.held_take {bytes : List Byte} {n m : Nat} (framed : Framed bytes n) (some : 0 < m) (part : m < 10 + n) : Held (bytes.take m) := by
  obtain ⟨b, rest, rfl⟩ := List.exists_cons_of_length_pos (l := bytes) (by rw [framed.length]; omega)
  obtain ⟨k, rfl⟩ : ∃ k, m = k + 1 := ⟨m - 1, by omega⟩
  refine ⟨framed.delimiter, fun len at7 => ?_⟩
  rw [List.getElem?_take] at at7
  split at at7
  · rw [framed.counts] at at7
    obtain rfl := Option.some.inj at7
    rw [toNat_ofNat_of_fits framed.fits, List.length_take]
    exact ⟨framed.fits, by omega⟩
  · cases at7

theorem receiveByte_of_held {held : List Byte} {b : Byte} (holds : Held (held ++ [b])) : receiveByte held b = .waiting (held ++ [b]) := by
  unfold receiveByte
  split
  · have delimiter : b = 0x7E := Option.some.inj holds.delimiter
    rw [delimiter]
    rfl
  · dsimp only
    split
    · rfl
    · next len at7 =>
      obtain ⟨fits, short⟩ := holds.short len at7
      rw [if_neg (by omega), if_neg (by omega)]

theorem receiveByte_of_framed {held : List Byte} {b : Byte} {n : Nat} (whole : Framed (held ++ [b]) n) :
    receiveByte held b = .complete (held ++ [b]) := by
  unfold receiveByte
  have length := whole.length
  split
  · rw [List.length_append, List.length_singleton, List.length_nil] at length
    omega
  · dsimp only
    rw [whole.counts]
    dsimp only
    rw [toNat_ofNat_of_fits whole.fits, if_neg (by have := whole.fits; omega), if_pos length]

/-- A length byte above 48 ends the reception: the receiver hunts again (R4). -/
theorem receiveByte_of_overlong {held : List Byte} {len : Byte} (header : held.length = 7) (overlong : 48 < len.toNat) :
    receiveByte held len = .waiting [] := by
  obtain ⟨b, rest, rfl⟩ := List.exists_cons_of_length_pos (l := held) (by omega)
  have at7 : (b :: rest ++ [len])[7]? = some len := by
    rw [List.getElem?_append_right (by omega), header]
    rfl
  unfold receiveByte
  dsimp only
  rw [at7]
  exact if_pos overlong

theorem receiveByte_hunting {b : Byte} (other : b ≠ 0x7E) : receiveByte [] b = .waiting [] := by
  unfold receiveByte
  rw [if_neg (by simpa using other)]

theorem Held.of_short {bytes : List Byte} (delimiter : bytes.head? = some 0x7E) (short : bytes.length ≤ 7) : Held bytes :=
  ⟨delimiter, fun len at7 => absurd (List.getElem?_eq_some_iff.1 at7).1 (by omega)⟩

theorem Held.of_append {p q : List Byte} (holds : Held (p ++ q)) (some : p ≠ []) : Held p := by
  obtain ⟨b, rest, rfl⟩ := List.exists_cons_of_ne_nil some
  refine ⟨holds.delimiter, fun len at7 => ?_⟩
  have within := (List.getElem?_eq_some_iff.1 at7).1
  obtain ⟨fits, short⟩ := holds.short len (by rw [List.getElem?_append_left within]; exact at7)
  exact ⟨fits, by rw [List.length_append] at short; omega⟩

/-! ### The bypass follows the frames -/

theorem passageAfter_of_held {p q : List Byte} (holds : Held (p ++ q)) (rest : List Byte) : passageAfter p (q ++ rest) = passageAfter (p ++ q) rest := by
  induction q generalizing p with
  | nil => rw [List.append_nil, List.nil_append]
  | cons b q ih =>
    have grown : p ++ b :: q = (p ++ [b]) ++ q := by simp
    have step : receiveByte p b = .waiting (p ++ [b]) := receiveByte_of_held ((grown ▸ holds).of_append (by simp))
    rw [grown, ← ih (grown ▸ holds), List.cons_append, passageAfter, step]

theorem passageAfter_of_framed {p : List Byte} {b : Byte} {n : Nat} (whole : Framed (p ++ [b]) n) (rest : List Byte) :
    passageAfter p (b :: rest) = passageAfter [] rest := by
  rw [passageAfter, receiveByte_of_framed whole]

/-! ### The receiver -/

namespace State

variable {s : State}

theorem feed_append (a b : List Byte) (s : State) : s.feed (a ++ b) = (s.feed a).feed b := by
  induction a generalizing s with
  | nil => rfl
  | cons x a ih =>
    rw [List.cons_append, feed, feed]
    split
    · exact ih _
    · exact ih _

theorem withReceived_withReceived (a b : List Byte) (s : State) : (s.withReceived a).withReceived b = s.withReceived b := rfl

theorem withReceived_self {a : List Byte} (held : s.ring.received = a) : s.withReceived a = s := by rw [← held]; rfl

theorem feed_waiting {p q : List Byte} {b : Byte} (held : s.ring.received = p) (waits : receiveByte p b = .waiting q) (rest : List Byte) :
    s.feed (b :: rest) = (s.withReceived q).feed rest := by
  rw [feed, held, waits]

theorem feed_complete {p q : List Byte} {b : Byte} (held : s.ring.received = p) (completes : receiveByte p b = .complete q) (rest : List Byte) :
    s.feed (b :: rest) = ((s.withReceived []).takeComplete q).feed rest := by
  rw [feed, held, completes]

/-- Bytes of a frame that has not ended stay held (R4). -/
theorem feed_of_held {p q : List Byte} (received : s.ring.received = p) (holds : Held (p ++ q)) (rest : List Byte) :
    s.feed (q ++ rest) = (s.withReceived (p ++ q)).feed rest := by
  induction q generalizing s p with
  | nil => rw [List.append_nil, List.nil_append, withReceived_self received]
  | cons b q ih =>
    have grown : p ++ b :: q = (p ++ [b]) ++ q := by simp
    have step : receiveByte p b = .waiting (p ++ [b]) := receiveByte_of_held ((grown ▸ holds).of_append (by simp))
    rw [List.cons_append, feed_waiting received step, ih (p := p ++ [b]) rfl (grown ▸ holds), grown, withReceived_withReceived]

end State

/-- The part of a frame that is still to come, taken apart at its last byte: the bytes before it stay held, and it ends the frame. -/
theorem Framed.rest_eq {bytes : List Byte} {n m : Nat} (framed : Framed bytes n) (part : m < 10 + n) : ∃ q b, bytes.drop m = q ++ [b] ∧
    Held (bytes.take m ++ q) ∧ (bytes.take m ++ q) ++ [b] = bytes := by
  have length := framed.length
  have nonempty : bytes.drop m ≠ [] := by rw [Ne, List.drop_eq_nil_iff]; omega
  have whole : bytes.take m ++ (bytes.drop m).dropLast = bytes.take (9 + n) := by
    rw [List.dropLast_eq_take, List.length_drop, length, ← List.take_add]
    congr 1
    omega
  refine ⟨_, _, (List.dropLast_append_getLast nonempty).symm, ?_, ?_⟩
  · rw [whole]
    exact framed.held_take (by omega) (by omega)
  · rw [List.append_assoc, List.dropLast_append_getLast, List.take_append_drop]

theorem take_append_part {α : Type} (l : List α) (m n : Nat) : l.take m ++ (l.drop m).take n = l.take (m + n) := List.take_add.symm

/-- The rest of a frame, whatever part of it the receiver held before, completes it (R4). -/
theorem State.feed_of_framed {s : State} {bytes : List Byte} {n m : Nat} (framed : Framed bytes n) (part : m < 10 + n)
    (received : s.ring.received = bytes.take m) (rest : List Byte) :
    s.feed (bytes.drop m ++ rest) = ((s.withReceived []).takeComplete bytes).feed rest := by
  obtain ⟨q, b, parts, holds, whole⟩ := framed.rest_eq part
  have completes := receiveByte_of_framed (n := n) (whole.symm ▸ framed)
  rw [parts, List.append_assoc, feed_of_held received holds, List.singleton_append, feed_complete rfl completes, whole]
  rfl

theorem passageAfter_of_whole {bytes : List Byte} {n m : Nat} (framed : Framed bytes n) (part : m < 10 + n) (rest : List Byte) :
    passageAfter (bytes.take m) (bytes.drop m ++ rest) = passageAfter [] rest := by
  obtain ⟨q, b, parts, holds, whole⟩ := framed.rest_eq part
  rw [parts, List.append_assoc, passageAfter_of_held holds]
  exact passageAfter_of_framed (n := n) (whole.symm ▸ framed) rest

/-! ### What a whole frame spells (R3) -/

/-- A frame's bytes with a check that may be wrong. -/
def Frame.bytesWith (f : Frame) (check : BitVec 16) : List Byte := 0x7E :: (f.covered ++ bytes16 check)

theorem Frame.wire_eq (f : Frame) : f.wire = f.bytesWith (checkOf f.covered) := rfl

theorem Frame.bytesWith_eq (f : Frame) (check : BitVec 16) : f.bytesWith check =
    0x7E :: f.dst.extractLsb' 8 8 :: f.dst.extractLsb' 0 8 :: f.src.extractLsb' 8 8 :: f.src.extractLsb' 0 8 :: (f.kind ++ f.hops) :: f.seq ::
      BitVec.ofNat 8 f.payload.length :: (f.payload ++ bytes16 check) := rfl

theorem Frame.bytesWith_framed {f : Frame} (fits : f.payload.length ≤ 48) (check : BitVec 16) : Framed (f.bytesWith check) f.payload.length where
  delimiter := rfl
  fits := fits
  counts := rfl
  length := by rw [bytesWith_eq]; simp [bytes16]; omega

theorem word16_extract (w : BitVec 16) : word16 (w.extractLsb' 8 8) (w.extractLsb' 0 8) = w := BitVec.extractLsb'_append_extractLsb' (w := 8)

theorem word32_extract (w : BitVec 32) :
    word32 (w.extractLsb' 24 8) (w.extractLsb' 16 8) (w.extractLsb' 8 8) (w.extractLsb' 0 8) = w := by
  unfold word32
  rw [BitVec.extractLsb'_append_extractLsb'_eq_extractLsb' (start₁ := 16) (len₁ := 8) rfl,
    BitVec.extractLsb'_append_extractLsb'_eq_extractLsb' (start₁ := 8) (len₁ := 8) rfl,
    BitVec.extractLsb'_append_extractLsb'_eq_extractLsb' (start₁ := 0) (len₁ := 8) rfl]
  exact BitVec.extractLsb'_eq_self

theorem kind_extract (k h : BitVec 4) : (k ++ h : BitVec 8).extractLsb' 4 4 = k :=
  (BitVec.extractLsb'_append_eq_of_le (Nat.le_refl 4)).trans BitVec.extractLsb'_eq_self

theorem hops_extract (k h : BitVec 4) : (k ++ h : BitVec 8).extractLsb' 0 4 = h :=
  (BitVec.extractLsb'_append_eq_of_add_le (Nat.le_refl 4)).trans BitVec.extractLsb'_eq_self

theorem parseFrame_bytesWith {f : Frame} (fits : f.payload.length ≤ 48) (check : BitVec 16) : parseFrame (f.bytesWith check) = some (f, check) := by
  rw [Frame.bytesWith_eq]
  unfold parseFrame
  simp only [toNat_ofNat_of_fits fits, List.drop_left, List.take_left, bytes16, word16_extract, kind_extract, hops_extract]

namespace State

variable {s : State} {f : Frame}

/-- A frame whose check or layout fails has no effect (R6). -/
theorem takeComplete_of_malformed {check : BitVec 16} (fits : f.payload.length ≤ 48) (malformed : check ≠ checkOf f.covered ∨ f.itemsFit = false) :
    s.takeComplete (f.bytesWith check) = s := by
  unfold takeComplete
  rw [parseFrame_bytesWith fits]
  refine if_neg fun valid => ?_
  obtain wrong | unfit := malformed
  · exact wrong valid.1
  · rw [unfit] at valid
    exact absurd valid.2 (by decide)

theorem takeComplete_of_valid (carried : f.Carried) : s.takeComplete f.wire = s.takeValid f := by
  unfold takeComplete
  rw [Frame.wire_eq, parseFrame_bytesWith carried.1]
  exact if_pos ⟨rfl, carried.2⟩

theorem exec_frameArrival (power : s.power = .running) (bytes : List Byte) : exec (.frameArrival bytes) s = .next (s.feed bytes) := by
  refine congrArg Host.Outcome.next ?_
  simp only [receive, power]

theorem exec_ringInIdle (power : s.power = .running) (bytes : List Byte) :
    exec (.ringInIdleInFrame bytes) s = .next ((s.feed bytes).withReceived []) := by
  refine congrArg Host.Outcome.next ?_
  simp only [receiveBroken, power]

/-- A frame received whole, whatever part of it was held before. -/
theorem feed_rest {check : BitVec 16} {m : Nat} (fits : f.payload.length ≤ 48) (part : m < 10 + f.payload.length)
    (received : s.ring.received = (f.bytesWith check).take m) :
    s.feed ((f.bytesWith check).drop m) = (s.withReceived []).takeComplete (f.bytesWith check) := by
  have whole := feed_of_framed (f.bytesWith_framed fits check) part received []
  rw [List.append_nil] at whole
  exact whole

/-- A part of a frame stays held (R4). -/
theorem feed_part {m n : Nat} (fits : f.payload.length ≤ 48) (part : m + n < 10 + f.payload.length)
    (received : s.ring.received = f.wire.take m) : s.feed ((f.wire.drop m).take n) = s.withReceived (f.wire.take (m + n)) := by
  by_cases none : m + n = 0
  · obtain ⟨rfl, rfl⟩ : m = 0 ∧ n = 0 := by omega
    exact (withReceived_self received).symm
  · have holds : Held (f.wire.take m ++ (f.wire.drop m).take n) := by
      rw [take_append_part]
      exact (f.bytesWith_framed fits _).held_take (by omega) part
    have fed := feed_of_held received holds []
    rw [List.append_nil, take_append_part] at fed
    exact fed

/-- A header with a length byte above 48 is gone, and the receiver hunts (R4). -/
theorem feed_overlong {p q : List Byte} {len : Byte} (received : s.ring.received = p) (header : (p ++ q).length = 7)
    (delimiter : (p ++ q).head? = some 0x7E) (long : 48 < len.toNat) (rest : List Byte) :
    s.feed (q ++ len :: rest) = (s.withReceived []).feed rest := by
  rw [feed_of_held received (.of_short delimiter (by omega)), feed_waiting rfl (receiveByte_of_overlong header long)]
  rfl

/-- A valid frame received whole (R6). -/
theorem feed_valid (received : s.ring.received = []) (carried : f.Carried) : s.feed f.wire = s.takeValid f := by
  have whole := feed_rest (m := 0) (check := checkOf f.covered) carried.1 (by omega) received
  rw [List.drop_zero, withReceived_self received, ← Frame.wire_eq, takeComplete_of_valid carried] at whole
  exact whole

theorem feed_running (power : s.power = .running) (bytes : List Byte) : (s.feed bytes).power = .running :=
  ((pending_kept s.pending).feed rfl power bytes).2

end State

/-! ### Malformed, overlong and broken frames -/

/-- Settles O9: each frame's bytes by what the receiver holds of them. -/
theorem malformedFramesLeaveNoTrace : Obligations.MalformedFramesLeaveNoTrace := by
  intro s power
  have arrives := fun bytes => State.exec_frameArrival power bytes
  have breaks := fun bytes => State.exec_ringInIdle power bytes
  refine ⟨fun hunts => ⟨fun f check fits malformed => ?_, fun d1 d0 s1 s0 k q len rest long => ?_, fun f n fits part => ?_⟩,
    fun f m fits part received => ⟨fun n rest => ⟨?_, ?_⟩, ?_⟩, fun f check m fits part malformed received => ?_,
    fun d1 d0 s1 s0 k q len m rest long received => ?_, fun a => ⟨_, arrives a, State.feed_running power a, fun b => ⟨?_, ?_⟩⟩,
    fun bytes => ⟨_, breaks bytes, rfl⟩⟩
  · rw [arrives]
    have fed := State.feed_rest (m := 0) (check := check) fits (by omega) hunts
    rw [State.takeComplete_of_malformed fits malformed, State.withReceived_self hunts] at fed
    exact congrArg Host.Outcome.next fed
  · rw [arrives, arrives, ← State.withReceived_self hunts]
    exact congrArg Host.Outcome.next (State.feed_overlong (p := []) (q := [0x7E, d1, d0, s1, s0, k, q]) rfl rfl rfl long rest)
  · have fed := State.feed_part (m := 0) (n := n) fits (by omega) hunts
    rw [List.drop_zero] at fed
    rw [breaks, fed, State.withReceived_withReceived, State.withReceived_self hunts]
  · rw [breaks, State.feed_part fits rest received]
    rfl
  · rw [arrives, State.feed_part fits rest received]
    rfl
  · have emptied : (s.withRing { s.ring with received := [] }).power = .running := power
    rw [arrives, State.exec_frameArrival emptied]
    refine congrArg Host.Outcome.next ((State.feed_rest fits part received).trans ?_)
    exact (State.feed_rest (s := s.withReceived []) (m := 0) fits (by omega) rfl).symm
  · rw [arrives]
    have fed := State.feed_rest (check := check) fits part received
    rw [State.takeComplete_of_malformed fits malformed] at fed
    exact congrArg Host.Outcome.next fed
  · have emptied : (s.withRing { s.ring with received := [] }).power = .running := power
    rw [arrives, State.exec_frameArrival emptied]
    refine congrArg Host.Outcome.next (State.feed_overlong received ?_ ?_ long rest)
    all_goals rw [List.take_append_drop]; rfl
  · rw [arrives, State.feed_append, State.exec_frameArrival (State.feed_running power a)]
  · rw [breaks, State.feed_append, State.exec_ringInIdle (State.feed_running power a)]

/-! ### The end of the bypass -/

theorem LaneState.eq_offline_iff (l : LaneState) : l = .offline ↔ l.regime = .offline := by
  cases l <;> simp [LaneState.regime]

theorem Lane.startTimer_eq : Lane.startTimer = fun l =>
    { l with timer := if l.state.regime = .offline then none else some (l.config.period * 10) } := by
  funext l
  simp only [Lane.startTimer, LaneState.eq_offline_iff]
  rfl

/-- Settles O8: the end of the bypass by the frame in passage, which is followed as the receiver would. -/
theorem bypassEndStartsTimers : Obligations.BypassEndStartsTimers := by
  refine ⟨fun s => ⟨fun bypass ended => congrArg Host.Outcome.next ?_, fun bypass passes => congrArg Host.Outcome.next ?_, fun other => congrArg Host.Outcome.next ?_⟩,
    fun f m fits part => ⟨fun n rest => ?_, fun rest => ?_⟩, fun b rest other => ?_⟩
  · simp only [State.endBypass, bypass]
    rw [if_pos ended, State.startReceiving, Lane.startTimer_eq]
    rfl
  · simp only [State.endBypass, bypass]
    rw [if_neg passes]
  · unfold State.endBypass
    split
    · exact absurd ‹_› other
    all_goals rfl
  · by_cases none : m + n = 0
    · obtain ⟨rfl, rfl⟩ : m = 0 ∧ n = 0 := by omega
      rfl
    · have holds : Held (f.wire.take m ++ (f.wire.drop m).take n) := by
        rw [take_append_part]
        exact (f.bytesWith_framed fits _).held_take (by omega) rest
      have passed := passageAfter_of_held holds []
      rw [List.append_nil, take_append_part] at passed
      exact passed
  · exact passageAfter_of_whole (f.bytesWith_framed fits _) part rest
  · rw [passageAfter, receiveByte_hunting other]

end Sys2Proof.Machine
end

section
/-! Start-up (R190): the image chosen, the full-reset state of every block, and the defaults. -/
namespace Sys2Proof.Machine

/-- Image 1 is newer than image 0 by one to 32767 generations (R190). -/
theorem Image.newer_iff (a b : Image) :
    b.newer a = true ↔ 1 ≤ (b.generation - a.generation).toNat ∧ (b.generation - a.generation).toNat ≤ 32767 := by
  simp only [Image.newer, Bool.and_eq_true, decide_eq_true_eq]

namespace Management

variable {m : Management} {i : Fin 2} {image : Image}

theorem chooseImage_of_both {a b : Image} (first : m.images.get 0 = some a) (second : m.images.get 1 = some b) :
    m.chooseImage = if b.newer a then some (1, b) else some (0, a) := by
  simp only [chooseImage, first, second]

theorem chooseImage_of_one (valid : m.images.get i = some image) (other : ∀ j, j ≠ i → m.images.get j = none) :
    m.chooseImage = some (i, image) := by
  match i with
  | 0 => simp only [chooseImage, valid, other 1 (by decide)]
  | 1 => simp only [chooseImage, valid, other 0 (by decide)]

theorem chooseImage_of_none (none : ∀ i, m.images.get i = .none) : m.chooseImage = .none := by
  simp only [chooseImage, none 0, none 1]

/-- The image loaded: the newer of two valid ones, or the only one (R190). -/
theorem chooseImage_of_valid (valid : (∃ a b, m.images.get 0 = some a ∧ m.images.get 1 = some b ∧
        (1 ≤ (b.generation - a.generation).toNat ∧ (b.generation - a.generation).toNat ≤ 32767 → i = 1 ∧ image = b) ∧
        (¬(1 ≤ (b.generation - a.generation).toNat ∧ (b.generation - a.generation).toNat ≤ 32767) → i = 0 ∧ image = a)) ∨
      (m.images.get i = some image ∧ ∀ j, j ≠ i → m.images.get j = none)) : m.chooseImage = some (i, image) := by
  obtain ⟨a, b, first, second, newer, older⟩ | ⟨valid, other⟩ := valid
  · rw [chooseImage_of_both first second]
    by_cases is : b.newer a = true
    · obtain ⟨rfl, rfl⟩ := newer ((Image.newer_iff a b).1 is)
      exact if_pos is
    · obtain ⟨rfl, rfl⟩ := older (fun h => is ((Image.newer_iff a b).2 h))
      exact if_neg is
  · exact chooseImage_of_one valid other

theorem abandon_commit (m : Management) : m.abandon.commit = none := by rw [abandon_images]

end Management

/-- A zone of a lane that is not TRIPPED, after a reset (R102). -/
theorem Zone.fresh_of_not_tripped {l : Lane} (untripped : l.state.regime ≠ .tripped) (p : Fin 4) (c : ZoneConfig) :
    Zone.fresh l p c = { Zone.initial c with demand := if l.idles p then 0 else clampNat c.minAir c.maxAir c.fixedAir } := by
  unfold Zone.fresh
  by_cases idle : l.idles p = true
  · rw [if_pos idle, if_pos idle]
  · rw [if_neg idle, if_neg idle]
    cases state : l.state with
    | tripped w => exact absurd (congrArg LaneState.regime state) untripped
    | offline | normal | economy _ | storm => rfl

theorem Lane.fresh_untripped (c : LaneConfig) : (Lane.fresh c).state.regime ≠ .tripped := by
  unfold Lane.fresh LaneConfig.startState
  dsimp only
  split <;> exact nofun

namespace State

variable {s t : State}

/-- Every block's records are those of a full reset. -/
theorem FullReset.of_fresh {g : Settings} (power : t.power = .bypass) (time : t.timeCount = 0)
    (ring : t.ring = { Ring.fresh with passing := t.ring.passing, inPassage := t.ring.inPassage })
    (routes : t.routes = g.routes.map Route.fresh) (points : t.points = g.points.map Point.fresh) (plant : t.plant = Plant.fresh g.plant)
    (lanes : t.lanes = g.lanes.map Lane.fresh)
    (zones : ∀ z, t.zones.get z = Zone.fresh (t.lanes.get (laneOf z)) (placeOf z) (g.zones.get z))
    (allocator : t.allocator = Allocator.fresh g.allocator) (blowers : t.blowers = g.blowers.map Blower.fresh)
    (returns : t.returns = g.returns.map ReturnLine.fresh) (outputs : t.outputs = g.outputs.map Output.fresh)
    (supervision : t.supervision = Supervision.fresh) (watches : t.watches = g.watches.map Watch.fresh) : t.FullReset where
  power := power
  time := time
  ring := ring
  routes i := by rw [routes, Table.get_map]; exact ⟨rfl, rfl⟩
  points p := by rw [points, Table.get_map]; exact ⟨rfl, rfl, rfl⟩
  plant := by rw [plant]; exact ⟨rfl, rfl⟩
  lanes k := by rw [lanes, Table.get_map]; exact ⟨rfl, rfl, rfl, rfl⟩
  zones z := by
    have untripped : (t.lanes.get (laneOf z)).state.regime ≠ .tripped := by
      rw [lanes, Table.get_map]
      exact Lane.fresh_untripped _
    rw [zones z, Zone.fresh_of_not_tripped untripped]
    rfl
  allocator := by rw [allocator]; rfl
  blowers b := by rw [blowers, Table.get_map]; rfl
  returns r := by rw [returns, Table.get_map]; exact ⟨rfl, rfl, rfl⟩
  outputs o := by rw [outputs, Table.get_map]; exact ⟨rfl, rfl, rfl, rfl⟩
  supervision := supervision
  watches w := by
    rw [watches, Table.get_map]
    refine ⟨?_, rfl, rfl, rfl⟩
    unfold Watch.fresh WatchConfig.rest
    dsimp only
    cases (g.watches.get w).stage <;> simp

theorem startFrom_fullReset (i : Fin 2) (image : Image) (straps : BitVec 8) (s : State) : (s.startFrom i image straps).FullReset :=
  .of_fresh (g := image.settings) rfl rfl rfl rfl rfl rfl rfl (fun _ => Table.get_build ..) rfl rfl rfl rfl rfl rfl

/-- The own address: 0xFE00 plus the straps, below 0xFF00 (R1). -/
theorem ownAddress_toNat (straps : BitVec 8) : (0xFE00 + straps.setWidth 16 : BitVec 16).toNat = 0xFE00 + straps.toNat := by
  rw [BitVec.toNat_add, BitVec.toNat_setWidth]
  have := straps.isLt
  simp
  omega

theorem startUp_of_some {i : Fin 2} {image : Image} (chosen : s.management.abandon.chooseImage = some (i, image)) (straps : BitVec 8) :
    s.startUp straps = (s.withManagement s.management.abandon).startFrom i image straps := by
  unfold startUp
  dsimp only
  rw [withManagement_management, chosen]

theorem startUp_of_none (none : s.management.abandon.chooseImage = .none) (straps : BitVec 8) :
    s.startUp straps = (s.withManagement s.management.abandon).startDefault straps := by
  unfold startUp
  dsimp only
  rw [withManagement_management, none]

end State

/-- Settles O6: the image chosen, and the fields of the state it makes. -/
theorem startUpLoadsNewerImage : Obligations.StartUpLoadsNewerImage := by
  intro s straps i image valid
  refine ⟨_, congrArg Host.Outcome.next (State.startUp_of_some (Management.chooseImage_of_valid valid) straps), State.startFrom_fullReset ..,
    State.fullReset_settings straps image.settings (s.withManagement s.management.abandon), State.ownAddress_toNat straps, rfl, rfl, rfl, rfl, rfl,
    rfl⟩

/-! ### The defaults -/

namespace State

variable {s : State}

/-- After the defaults' reset no watch is on. -/
theorem fullReset_default_unheard (straps : BitVec 8) (ch : Change) (s : State) : (s.fullReset straps Settings.default).Unheard ch := by
  intro w
  have watch : (s.fullReset straps Settings.default).watches.get w = Watch.fresh (Settings.default.watches.get w) := Table.get_map ..
  have default : Settings.default.watches.get w = WatchConfig.default := Table.get_fill ..
  rw [watch, default]
  exact .inl rfl

theorem default_zones : (Table.build fun z => Zone.fresh ((Settings.default.lanes.map Lane.fresh).get (laneOf z)) (placeOf z) (Settings.default.zones.get z)) =
    Table.build fun z => Zone.fresh (Lane.fresh (Settings.default.lanes.get (laneOf z))) (placeOf z) (Settings.default.zones.get z) := by
  simp only [Table.get_map]

/-- The defaults' reset is the reset of a part whose store holds no valid image, but for the straps, the store and the bypass. -/
theorem fullReset_default (straps : BitVec 8) (s : State) : s.fullReset straps Settings.default =
    { State.reset with
      ownAddress := 0xFE00 + straps.setWidth 16
      ring := { Ring.fresh with passing := s.ring.passing, inPassage := s.ring.inPassage }
      history := { entries := [], next := 0, frozen := false }
      management := s.management
      freeIndex := s.freeIndex
      pending := s.pending } := by
  unfold fullReset
  dsimp only
  rw [default_zones]
  rfl

theorem startDefault_eq (straps : BitVec 8) (s : State) : s.startDefault straps =
    { State.reset with
      ownAddress := 0xFE00 + straps.setWidth 16
      ring := { Ring.fresh with passing := s.ring.passing, inPassage := s.ring.inPassage }
      management := { s.management with commit := none, generation := 0, current := none }
      freeIndex := s.freeIndex
      pending := s.pending } := by
  have unheard := fullReset_default_unheard straps (.event .storeFault) s
  unfold startDefault
  dsimp only
  rw [fullReset_default] at unheard ⊢
  exact drain_raise_of_unheard rfl unheard

end State

/-- Settles O7: no image is chosen, and the STORE_FAULT of the invalid store concerns no watch. -/
theorem startUpWithoutImageTakesDefaults : Obligations.StartUpWithoutImageTakesDefaults := by
  intro s straps invalid
  refine congrArg Host.Outcome.next ((State.startUp_of_none (Management.chooseImage_of_none invalid) straps).trans ?_)
  exact State.startDefault_eq ..

end Sys2Proof.Machine
end

section
/-! Requests as commands and as bytes (R181 to R183): what code and argument bytes spell, and the checks that come first. -/
namespace Sys2Proof.Machine

open Sys2Proof.Laws (carried_length)

/-! ### The values of a write -/

theorem takeWords_append (vs : List Word32) (extra : List Byte) : takeWords vs.length (vs.flatMap bytes32 ++ extra) = some vs := by
  induction vs with
  | nil => rfl
  | cons v vs ih =>
    rw [List.flatMap_cons, List.append_assoc, List.length_cons]
    show (takeWords vs.length (vs.flatMap bytes32 ++ extra)).map (word32 _ _ _ _ :: ·) = _
    rw [ih, word32_extract]
    rfl

theorem takeWords_eq_none_iff (n : Nat) (bytes : List Byte) : takeWords n bytes = none ↔ bytes.length < 4 * n := by
  induction n generalizing bytes with
  | zero => simp [takeWords]
  | succ n ih =>
    match bytes with
    | [] | [_] | [_, _] | [_, _, _] => simp [takeWords]; try omega
    | a :: b :: c :: d :: rest =>
      rw [takeWords, Option.map_eq_none_iff, ih]
      simp only [List.length_cons]
      omega

/-! ### What the bytes spell (R183) -/

namespace Request

/-- Too few bytes for the request code, or a code of no request. -/
abbrev Short (code : Byte) (args : List Byte) : Prop :=
  needs code args = none ∨ ∃ n, needs code args = some n ∧ args.length < n

theorem decode_eq_none_iff (code : Byte) (args : List Byte) : decode code args = none ↔ Short code args := by
  unfold decode Short needs
  generalize code.toNat = n
  match n, args with
  | 0, _ => simp
  | 1, [] | 1, [_] | 1, [_, _] | 1, [_, _, _] | 1, _ :: _ :: _ :: _ :: _ => simp
  | 2, [] | 2, [_] | 2, [_, _] | 2, [_, _, _] => simp
  | 2, t :: i :: f :: c :: rest =>
    by_cases count : 1 ≤ c.toNat ∧ c.toNat ≤ 8
    · simp only [if_pos count, Option.map_eq_none_iff, takeWords_eq_none_iff]
      simp [count]
      omega
    · simp [count]
  | 3, _ | 4, _ | 5, _ | 15, _ => simp
  | 6, [] | 6, _ :: _ | 8, [] | 8, _ :: _ | 10, [] | 10, _ :: _ | 11, [] | 11, _ :: _ | 12, [] | 12, _ :: _ | 13, [] | 13, _ :: _ | 14, []
  | 14, _ :: _ => simp
  | 7, [] | 7, [_] | 7, [_, _] | 7, [_, _, _] | 7, [_, _, _, _] | 7, _ :: _ :: _ :: _ :: _ :: _ => simp
  | 9, [] | 9, [_] | 9, _ :: _ :: _ => simp
  | n + 16, _ => simp

end Request

/-! ### Requests that arrive -/

namespace State

variable {s : State} {src : Addr} {code tag : Byte}

/-- The ring-silence timer stands at its full interval once a frame has been heard, and RING_SILENT is inactive (R15). -/
theorem heard_ring (s : State) : s.heard.ring.silence = some (tenths s.plant.config.silenceTime) ∧ s.heard.ring.silent = false := by
  have silence : s.heard.ring.silence = (s.startSilence.setLevel .ringSilent false).ring.silence := drain_but _ .silence (by decide)
  have silent : s.heard.ring.silent = (s.startSilence.setLevel .ringSilent false).ring.silent := drain_but _ .silent (by decide)
  rw [silence, silent]
  unfold setLevel
  split
  · next same => exact ⟨rfl, same⟩
  · exact ⟨rfl, rfl⟩

theorem heard_but (s : State) : s.SameBut ([.silence, .silent] ++ watchParts) s.heard :=
  (((s.withSilence_but _ s.ring.silent).mono (by simp +contextual)).trans ((setSilent_but _ false).mono (by simp +contextual))).trans
    ((drain_but _).mono (by simp +contextual))

/-- To hear a frame twice in an instant is to hear it once. -/
theorem heard_heard (s : State) : s.heard.heard = s.heard := by
  obtain ⟨silence, silent⟩ := s.heard_ring
  have plant : s.heard.plant = s.plant := s.heard_but .plant (by decide)
  have hearing : s.heard.hearing = s.heard := by
    unfold State.hearing Ring.restartSilence
    rw [plant, ← silence]
    exact withRing_self _
  rw [heard_of_quiet silent (drain_takes _), hearing]

/-- The state once a frame has been heard while RING_SILENT was active (R15, R16). -/
theorem heard_of_silent (silent : s.ring.silent = true) : s.heard =
    (((s.withRing { s.ring.restartSilence s.plant.config.silenceTime with silent := false }).capture (.condition .ringSilent true false)).raise
      (.level .ringSilent false)).drain := by
  unfold heard
  rw [setLevel_of_ne (by simp [level, startSilence, silent])]
  rfl

theorem heard_power (s : State) : s.heard.power = s.power := s.heard_but .power (by decide)
theorem heard_ownAddress (s : State) : s.heard.ownAddress = s.ownAddress := s.heard_but .ownAddress (by decide)
theorem heard_received (s : State) : s.heard.ring.received = s.ring.received := s.heard_but .received (by decide)

theorem requestArrives_of_running (power : s.power = .running) (r : Option Request) : s.requestArrives src code tag r =
    if src = s.ownAddress then s.heard else s.heard.agent src code tag r := by
  simp only [requestArrives, power, heard_ownAddress]

theorem requestArrives_heard (power : s.power = .running) (r : Option Request) :
    s.heard.requestArrives src code tag r = s.requestArrives src code tag r := by
  rw [requestArrives_of_running power, requestArrives_of_running (s.heard_power.trans power), heard_heard, heard_ownAddress]

/-- Requests with the same effects arrive alike. -/
theorem requestArrives_congr {r r' : Request} (same : ∀ u : State, u.perform src tag r = u.perform src tag r') :
    s.requestArrives src code tag (some r) = s.requestArrives src code tag (some r') := by
  simp only [requestArrives, agent, check, same]

theorem writeFields_of_count {n : Nat} (count : ¬(1 ≤ n ∧ n ≤ 8)) (t i f : Byte) (vs : List Int) :
    s.writeFields t i f n vs = (s, .badArgument) := by
  unfold writeFields
  split
  · rfl
  · exact if_neg count

/-- A write's bytes spell it, or a write that is refused for its count as it is (R183, R185). -/
theorem arrives_as_write (t i f : Byte) {vs : List Word32} (fits : vs.length ≤ 10) (extra : List Byte) :
    s.requestArrives src 2 tag (Request.decode 2 ([t, i, f, BitVec.ofNat 8 vs.length] ++ vs.flatMap bytes32 ++ extra)) =
      s.requestArrives src 2 tag (some (.writeFields t i f vs.length vs)) := by
  have counts : (BitVec.ofNat 8 vs.length).toNat = vs.length := toNat_ofNat_of_fits (by omega)
  simp only [List.cons_append, List.nil_append]
  by_cases count : 1 ≤ vs.length ∧ vs.length ≤ 8
  · have spelled : Request.decode 2 (t :: i :: f :: BitVec.ofNat 8 vs.length :: (vs.flatMap bytes32 ++ extra)) =
        some (.writeFields t i f vs.length vs) := by
      show (if _ then _ else _) = _
      rw [counts, if_pos count, takeWords_append]
      rfl
    rw [spelled]
  · have spelled : Request.decode 2 (t :: i :: f :: BitVec.ofNat 8 vs.length :: (vs.flatMap bytes32 ++ extra)) =
        some (.writeFields t i f vs.length []) := by
      show (if _ then _ else _) = _
      rw [counts, if_neg count]
    rw [spelled]
    exact requestArrives_congr fun u => by simp only [perform, writeFields_of_count count]

end State

theorem valuesFit_iff (vs : List Word32) : valuesFit vs = true ↔ vs.length ≤ 10 := by
  rw [valuesFit, decide_eq_true_eq, maxArgumentBytes]
  omega

namespace Request

variable {c : Instr} {src : Addr} {tag code : Byte} {args : List Byte}

/-- A request command is the arrival of some request of its source, code and tag. -/
theorem exec_arrives (parts : Request.parts c = some (src, tag, code, args)) :
    ∃ r, ∀ s, exec c s = .next (s.requestArrives src code tag r) := by
  cases c <;> simp only [Request.parts, Option.some.injEq, Prod.mk.injEq, reduceCtorEq] at parts <;> obtain ⟨rfl, rfl, rfl, rfl⟩ := parts <;>
    exact ⟨_, fun _ => rfl⟩

/-- A well-formed request command is the arrival of what its bytes spell, and bytes beyond those needed are ignored (R181, R183). -/
theorem exec_decoded (parts : Request.parts c = some (src, tag, code, args)) (wf : c.wf = true) (s : State) (extra : List Byte)
    (raw : extra = [] ∨ ∀ a b d e, c ≠ .badRequest a b d e) :
    exec c s = .next (s.requestArrives src code tag (Request.decode code (args ++ extra))) := by
  have write (t i f : Byte) {vs : List Word32} (fits : valuesFit vs = true) :
      Host.Outcome.next (s.requestArrives src 2 tag (some (.writeFields t i f vs.length vs))) = (.next (s.requestArrives src 2 tag
        (Request.decode 2 ([t, i, f, BitVec.ofNat 8 vs.length] ++ vs.flatMap bytes32 ++ extra))) : Host.Outcome State Fault Refusal) :=
    congrArg Host.Outcome.next (State.arrives_as_write t i f ((valuesFit_iff vs).1 fits) extra).symm
  cases c <;> simp only [Request.parts, Option.some.injEq, Prod.mk.injEq, reduceCtorEq] at parts <;> obtain ⟨rfl, rfl, rfl, rfl⟩ := parts
  case badRequest =>
    obtain rfl := raw.resolve_right fun other => other _ _ _ _ rfl
    rw [List.append_nil]
    rfl
  case forcePoint point value =>
    have value_eq := word32_extract value
    show Host.Outcome.next (s.requestArrives _ 7 _ (some (.forcePoint point value))) =
      .next (s.requestArrives _ 7 _ (some (.forcePoint point (word32 _ _ _ _))))
    rw [value_eq]
  case writeFieldsRoute | writeFieldsPoint | writeFieldsOutput | writeFieldsLane | writeFieldsZone | writeFieldsBlower | writeFieldsReturn
    | writeFieldsWatch | writeFieldsPlant | writeFieldsAllocator => exact write _ _ _ wf
  all_goals rfl

/-- A well-formed request command fits one frame (R3). -/
theorem payload_fits (parts : Request.parts c = some (src, tag, code, args)) (wf : c.wf = true) : (code :: tag :: args).length ≤ 48 := by
  have write (t i f : Byte) {vs : List Word32} (fits : valuesFit vs = true) :
      2 + ([t, i, f, BitVec.ofNat 8 vs.length] ++ vs.flatMap bytes32).length ≤ 48 := Laws.write_arguments_fit _ rfl fits
  suffices 2 + args.length ≤ 48 by simp only [List.length_cons]; omega
  cases c <;> simp only [Request.parts, Option.some.injEq, Prod.mk.injEq, reduceCtorEq] at parts <;> obtain ⟨rfl, rfl, rfl, rfl⟩ := parts
  case badRequest => exact Laws.PayloadFits.badRequest _ _ _ _ _ _ _ _ rfl wf
  case writeFieldsRoute | writeFieldsPoint | writeFieldsOutput | writeFieldsLane | writeFieldsZone | writeFieldsBlower | writeFieldsReturn
    | writeFieldsWatch | writeFieldsPlant | writeFieldsAllocator => exact write _ _ _ wf
  all_goals exact Nat.le_of_ble_eq_true rfl

theorem decode_write_ne_none (t i f : Byte) (vs : List Word32) :
    Request.decode 2 ([t, i, f, BitVec.ofNat 8 vs.length] ++ vs.flatMap bytes32) ≠ none := by
  have counts : (BitVec.ofNat 8 vs.length).toNat = vs.length % 256 := BitVec.toNat_ofNat ..
  show (if _ then Option.map _ _ else _) ≠ none
  split
  · rw [Ne, Option.map_eq_none_iff, takeWords_eq_none_iff, counts]
    show ¬(vs.flatMap bytes32).length < _
    rw [carried_length]
    omega
  · exact nofun

/-- Only raw bytes can be too few, or of an unknown code. -/
theorem badRequest_of_short (parts : Request.parts c = some (src, tag, code, args)) (short : Short code args) :
    c = .badRequest src tag code args := by
  have none := (decode_eq_none_iff code args).2 short
  cases c <;> simp only [Request.parts, Option.some.injEq, Prod.mk.injEq, reduceCtorEq] at parts <;> obtain ⟨rfl, rfl, rfl, rfl⟩ := parts
  case badRequest => rfl
  case writeFieldsRoute | writeFieldsPoint | writeFieldsOutput | writeFieldsLane | writeFieldsZone | writeFieldsBlower | writeFieldsReturn
    | writeFieldsWatch | writeFieldsPlant | writeFieldsAllocator => exact absurd none (decode_write_ne_none _ _ _ _)
  all_goals cases none

end Request

/-! ### The frame of a request -/

theorem Kind.ofCode_eq_request (k : BitVec 4) : Kind.ofCode k = some .request ↔ k = Kind.request.code := by
  unfold Kind.ofCode
  revert k
  decide

namespace State

variable {s : State} {f : Frame}

theorem takeAddressed_of_request {code tag : Byte} {args : List Byte} (kind : f.kind = Kind.request.code) (payload : f.payload = code :: tag :: args) :
    s.takeAddressed f = s.agent f.src code tag (Request.decode code args) := by
  unfold takeAddressed
  rw [kind, payload]
  rfl

theorem takeAddressed_of_other (other : f.kind ≠ Kind.request.code ∨ f.payload.length < 2) : s.takeAddressed f = s := by
  unfold takeAddressed
  split
  · next code tag args kind payload =>
    obtain kind' | short := other
    · exact absurd ((Kind.ofCode_eq_request _).1 kind) kind'
    · rw [payload] at short
      simp at short
  · rfl

end State

/-- Settles O13: the frame is valid and addressed to the part, and its bytes spell the command's request. -/
theorem requestFrameIsItsCommand : Obligations.RequestFrameIsItsCommand := by
  intro s c src tag code args hops seq parts wf bytes
  have arrives := Request.exec_decoded parts wf s [] (.inl rfl)
  rw [List.append_nil] at arrives
  refine ⟨fun power received => ?_, fun stopped => ⟨?_, ?_⟩⟩
  · have fits := Request.payload_fits parts wf
    rw [arrives, State.exec_frameArrival power]
    refine congrArg Host.Outcome.next ((State.feed_valid received ⟨fits, rfl⟩).trans ?_)
    rw [State.requestArrives_of_running power, State.takeValid]
    dsimp only
    rw [State.heard_ownAddress, if_pos rfl, State.takeAddressed_of_request rfl rfl]
  · rw [arrives, State.requestArrives_of_stopped stopped]
  · exact congrArg Host.Outcome.next (State.receive_of_stopped stopped bytes)

/-! ### The checks of a request -/

/-- What the receiver holds is no part of any move or event. -/
theorem received_kept (bytes : List Byte) : KeptByEvents [] (fun s => s.ring.received = bytes) where
  closed := by decide
  move _ m h := (m.but .received (by cases m <;> decide)).trans h
  tripLane := by simp
  fire := by simp
  changeStorm := by simp
  event e h := (e.but .received (by cases e <;> decide)).trans h

namespace State

variable {s : State} {src : Addr} {code tag : Byte}

/-- A quiet arrival from another node goes to the agent on the hearing state. -/
theorem requestArrives_of_quiet (power : s.power = .running) (other : src ≠ s.ownAddress) (silent : s.ring.silent = false) (raised : s.raised = [])
    (r : Option Request) : s.requestArrives src code tag r = reply src code tag (s.hearing.check src tag r) := by
  rw [requestArrives_of_running power, if_neg other, heard_of_quiet silent raised]
  rfl

theorem check_of_forbidden (forbidden : s.isSupervisor src = false) (r : Option Request) :
    s.check src tag r = (s, some (.notPermitted, [])) := if_pos forbidden

theorem check_of_none (permitted : s.isSupervisor src = true) : s.check src tag none = (s, some (.badRequest, [])) :=
  if_neg (by simp [permitted])

end State

/-- Settles O41: the checks of R183 in their order, before and after a frame is heard. -/
theorem requestsAreCheckedFirst : Obligations.RequestsAreCheckedFirst := by
  refine ⟨fun s src code tag result data => rfl, fun s c src tag code args parts => ?_⟩
  obtain ⟨r, arrives⟩ := Request.exec_arrives parts
  refine ⟨fun power other forbidden silent raised room => ?_, fun serves short => ?_, fun power other silent calm full refused => ?_,
    fun power silent => ?_, fun power silent raised own => ?_, ?_, fun extra wf raw => ?_⟩
  · rw [arrives, State.requestArrives_of_quiet power other silent raised, State.check_of_forbidden (s := s.hearing) forbidden]
    exact congrArg Host.Outcome.next (State.reply_of_room (s := s.hearing) raised room ..)
  · obtain rfl := Request.badRequest_of_short parts short
    have spelled : Request.decode code args = none := (Request.decode_eq_none_iff code args).2 short
    have unspelled := State.requestArrives_of_quiet (code := code) (tag := tag) serves.power serves.other serves.heard serves.raised none
    rw [State.check_of_none (s := s.hearing) serves.permitted, State.reply_hearing serves] at unspelled
    exact congrArg Host.Outcome.next (spelled ▸ unspelled)
  · have lost (result : Result) : State.reply src code tag (s.hearing, some (result, [])) = s.hearing :=
      State.reply_of_full (s := s.hearing) calm.raised (calm.unheard_event .queueOverflow) full ..
    by_cases permitted : s.isSupervisor src = true
    · have short : Request.Short code args := .inl (refused.resolve_left (by simp [permitted]))
      obtain rfl := Request.badRequest_of_short parts short
      have spelled : Request.decode code args = none := (Request.decode_eq_none_iff code args).2 short
      have unspelled := State.requestArrives_of_quiet (code := code) (tag := tag) power other silent calm.raised none
      rw [State.check_of_none (s := s.hearing) permitted, lost] at unspelled
      exact congrArg Host.Outcome.next (spelled ▸ unspelled)
    · have forbidden : s.hearing.isSupervisor src = false := Bool.eq_false_iff.2 permitted
      rw [arrives, State.requestArrives_of_quiet power other silent calm.raised, State.check_of_forbidden forbidden, lost]
  · rw [← State.heard_of_silent silent, arrives, arrives, State.requestArrives_heard power]
  · rw [arrives, State.requestArrives_of_running power, if_pos own, State.heard_of_quiet silent raised]
  · exact ⟨_, arrives s, (received_kept s.ring.received).requestArrives rfl src code tag r⟩
  · have spelled := Request.exec_decoded parts wf s extra (.inr raw)
    rw [spelled]
    rfl

end Sys2Proof.Machine
end

section
/-! Frames (R7 to R10, R20 to R28): those that end at the part, those that are forwarded, and what the deciding entry does. -/
namespace Sys2Proof.Machine

namespace State

variable {s t u : State} {f : Frame}

/-! ### A valid frame, heard -/

theorem takeValid_eq (f : Frame) (s : State) : s.takeValid f =
    if f.src = s.ownAddress then s.heard else if f.dst = s.ownAddress then s.heard.takeAddressed f else s.heard.routeFrame f := by
  unfold takeValid
  dsimp only
  rw [heard_ownAddress]

theorem exec_valid (hunts : s.Hunts) (carried : f.Carried) : exec (.frameArrival f.wire) s = .next (s.takeValid f) := by
  rw [exec_frameArrival hunts.power, feed_valid hunts.received carried]

theorem Hunts.heard (hunts : s.Hunts) : s.heard.Hunts where
  power := s.heard_power.trans hunts.power
  received := s.heard_received.trans hunts.received
  raised := drain_takes _

theorem takeValid_heard (f : Frame) (s : State) : s.heard.takeValid f = s.takeValid f := by
  rw [takeValid_eq, takeValid_eq, heard_heard, heard_ownAddress]

/-- A frame that carries the own address as its source, or is addressed to the part and no request, ends at the part (R7, R8). -/
theorem takeValid_of_ends
    (ends : f.src = s.ownAddress ∨ (f.dst = s.ownAddress ∧ (f.kind ≠ Kind.request.code ∨ f.payload.length < 2))) : s.takeValid f = s.heard := by
  rw [takeValid_eq]
  by_cases own : f.src = s.ownAddress
  · exact if_pos own
  · obtain ⟨addressed, other⟩ := ends.resolve_left own
    rw [if_neg own, if_pos addressed, takeAddressed_of_other other]

theorem takeValid_of_foreign (foreign : f.src ≠ s.ownAddress) (elsewhere : f.dst ≠ s.ownAddress) : s.takeValid f = s.heard.routeFrame f := by
  rw [takeValid_eq, if_neg foreign, if_neg elsewhere]

/-! ### Forwarding (R9, R10) -/

theorem forwardReturned_of_hops (hops : f.hops ≠ 0) : s.forwardReturned f = (s.forwardFrame { f with hops := f.hops - 1 }).drain := if_neg hops

theorem forwardReturned_of_last (hops : f.hops = 0) : s.forwardReturned f = s := if_pos hops

theorem forwardFrame_of_busy (room : s.ring.forward.length < 4) (busy : s.ring.line.isSome = true) (g : Frame) :
    s.forwardFrame g = s.withRing { s.ring with forward := s.ring.forward ++ [g] } :=
  (if_pos room).trans (congrArg s.withRing (Ring.arbitrate_of_busy busy))

theorem forwardFrame_of_idle (forward : s.ring.forward = []) (transmit : s.ring.transmit = []) (idle : s.ring.line = none) (g : Frame) :
    s.forwardFrame g = s.withRing { s.ring with line := some g, runCount := 0 } := by
  let joined : Ring := { s.ring with forward := s.ring.forward ++ [g] }
  have first : joined.forward = g :: [] := congrArg (· ++ [g]) forward
  have starts : joined.arbitrate s.ownAddress = { joined with line := some g, forward := [], runCount := 0 } :=
    (Ring.arbitrate_of_idle (r := joined) idle).trans (Ring.startNext_forwarded (r := joined) transmit first)
  rw [forwardFrame, if_pos (by simp [forward]), starts, ← forward]

theorem forwardFrame_of_full (full : 4 ≤ s.ring.forward.length) (g : Frame) : s.forwardFrame g = s.raise (.event .loopCongestion) :=
  if_neg (Nat.not_lt.2 full)

/-! ### The deciding entry (R20 to R22) -/

theorem lookup_of_none {k : Kind} (unclaimed : ∀ i, (s.routes.get i).config.claims k f = false) : s.lookup k f = none := by
  unfold lookup
  rw [List.find?_eq_none]
  exact fun i _ => by simp [unclaimed i]

theorem route_of_unclaimed (unclaimed : s.Unclaimed f) : s.route f = (s, some f) := by
  unfold route
  split
  · rfl
  · next k kind => rw [lookup_of_none (unclaimed k kind)]

/-- The first index of a table that satisfies a test. -/
theorem find_indices {n : Nat} {p : Fin n → Bool} {i : Fin n} (holds : p i = true) (first : ∀ j, j < i → p j = false) :
    (indices n).find? p = some i := by
  unfold indices
  rw [List.find?_eq_some_iff_getElem]
  refine ⟨holds, i.val, by simp, by simp, fun j before => ?_⟩
  rw [List.getElem_finRange, Bool.not_eq_true']
  exact first _ before

/-- What the deciding entry's disposition does, its hit flag set (R21, R22). -/
theorem route_of_decides {i : RouteIdx} {k : Kind} (decides : s.Decides i k f) :
    s.route f = (s.markHit i).dispose (s.routes.get i).config k f := by
  have found : s.lookup k f = some i := find_indices decides.claims decides.first
  unfold route
  rw [decides.kind]
  dsimp only
  rw [found]

theorem routeFrame_of_kept {g : Frame} (routed : s.route f = (t, some g)) : s.routeFrame f = t.forwardReturned g := by
  unfold routeFrame
  dsimp only
  rw [routed]

theorem routeFrame_of_removed (routed : s.route f = (t, none)) : s.routeFrame f = t := by
  unfold routeFrame
  dsimp only
  rw [routed]

/-- A foreign frame heard in a quiet part goes to the route table on the hearing state. -/
theorem exec_foreign (hunts : s.Hunts) (carried : f.Carried) (silent : s.ring.silent = false) (foreign : f.src ≠ s.ownAddress)
    (elsewhere : f.dst ≠ s.ownAddress) : exec (.frameArrival f.wire) s = .next (s.hearing.routeFrame f) := by
  rw [exec_valid hunts carried, takeValid_of_foreign foreign elsewhere, heard_of_quiet silent hunts.raised]

end State

/-- Settles O10: the frames that end at the part, and the default PASS by hops, line and buffer. -/
theorem framesEndHereOrAreForwarded : Obligations.FramesEndHereOrAreForwarded := by
  refine ⟨fun s f hunts carried ends => ?_, fun s f hunts carried silent foreign elsewhere unclaimed => ?_, fun s f hunts carried silent => ?_⟩
  · rw [State.exec_valid hunts carried, State.takeValid_of_ends ends]
    exact ⟨fun silent => congrArg Host.Outcome.next (State.heard_of_quiet silent hunts.raised),
      fun silent => congrArg Host.Outcome.next (State.heard_of_silent silent)⟩
  · have passes := State.exec_foreign hunts carried silent foreign elsewhere
    rw [State.routeFrame_of_kept (State.route_of_unclaimed (s := s.hearing) unclaimed)] at passes
    rw [passes]
    refine ⟨fun last => congrArg Host.Outcome.next (State.forwardReturned_of_last last), fun hops room busy => congrArg Host.Outcome.next ?_,
      fun hops idle forward transmit => congrArg Host.Outcome.next ?_, fun hops full => congrArg Host.Outcome.next ?_⟩
    all_goals rw [State.forwardReturned_of_hops hops]
    · rw [State.forwardFrame_of_busy (s := s.hearing) room busy]
      exact State.drain_of_raised_nil hunts.raised
    · rw [State.forwardFrame_of_idle (s := s.hearing) forward transmit idle]
      exact State.drain_of_raised_nil hunts.raised
    · rw [State.forwardFrame_of_full (s := s.hearing) full]
  · rw [← State.heard_of_silent silent, State.exec_valid hunts carried, State.exec_valid hunts.heard carried, State.takeValid_heard]

/-! ### Dispositions (R23, R24, R28) -/

namespace State

variable {s : State} {f : Frame} {c : RouteConfig} {k : Kind}

theorem takeItems_of_other (notSample : k ≠ .sample) (notStatus : k ≠ .status) : s.takeItems c k f = s := by
  cases k with
  | sample => exact absurd rfl notSample
  | status => exact absurd rfl notStatus
  | command | request | reply | notice => rfl

theorem guardFrame_of_other (notCommand : k ≠ .command) : s.guardFrame k f = (s, some f) := by
  cases k with
  | command => exact absurd rfl notCommand
  | sample | status | request | reply | notice => rfl

theorem dispose_of_passed (passed : c.disposition = .pass ∨ (c.disposition = .observe ∧ k ≠ .sample ∧ k ≠ .status) ∨
    (c.disposition = .guard ∧ k ≠ .command)) : s.dispose c k f = (s, some f) := by
  unfold dispose
  obtain pass | ⟨observe, notSample, notStatus⟩ | ⟨guard, notCommand⟩ := passed
  · rw [pass]
  · rw [observe, takeItems_of_other notSample notStatus]
  · rw [guard]
    exact guardFrame_of_other notCommand

theorem dispose_of_removed (removed : c.disposition = .discard ∨ (c.disposition = .consume ∧ k ≠ .sample ∧ k ≠ .status)) :
    s.dispose c k f = (s, none) := by
  unfold dispose
  obtain discard | ⟨consume, notSample, notStatus⟩ := removed
  · rw [discard]
  · rw [consume, takeItems_of_other notSample notStatus]

/-- The guard takes the items one after another, and gathers those it leaves. -/
theorem guardItems_eq_foldl (dst src : Addr) (items : List CommandItem) (s : State) (gathered : List CommandItem) :
    items.foldl (fun (before : State × List CommandItem) item =>
      let g := before.1.guardItem dst src item
      (g.1, match g.2 with
        | none => before.2
        | some left => before.2 ++ [left])) (s, gathered) =
      ((s.guardItems dst src items).1, gathered ++ (s.guardItems dst src items).2) := by
  induction items generalizing s gathered with
  | nil => rw [List.foldl_nil, guardItems, List.append_nil]
  | cons item items ih =>
    rw [List.foldl_cons, ih, guardItems]
    dsimp only
    cases (s.guardItem dst src item).2 with
    | none => rfl
    | some left => exact congrArg (Prod.mk _) (List.append_assoc ..)

theorem Decides.hearing {i : RouteIdx} (decides : s.Decides i k f) : s.hearing.Decides i k f := ⟨decides.kind, decides.claims, decides.first⟩

end State

/-! ### The items of a COMMAND frame -/

theorem int24_bytes24 {v : Int} (least : -8388608 ≤ v) (most : v ≤ 8388607) :
    int24 ((BitVec.ofInt 24 v).extractLsb' 16 8) ((BitVec.ofInt 24 v).extractLsb' 8 8) ((BitVec.ofInt 24 v).extractLsb' 0 8) = v := by
  unfold int24
  rw [BitVec.extractLsb'_append_extractLsb'_eq_extractLsb' (start₁ := 8) (len₁ := 8) rfl,
    BitVec.extractLsb'_append_extractLsb'_eq_extractLsb' (start₁ := 0) (len₁ := 8) rfl]
  refine (congrArg BitVec.toInt (BitVec.extractLsb'_eq_self (x := BitVec.ofInt 24 v))).trans ?_
  rw [BitVec.toInt_ofInt, Int.bmod_eq_of_le] <;> omega

theorem commandItems_bytes {items : List CommandItem} (bounded : ∀ item ∈ items, -8388608 ≤ item.value ∧ item.value ≤ 8388607) :
    commandItems (items.flatMap CommandItem.bytes) = items := by
  induction items with
  | nil => rfl
  | cons item items ih =>
    obtain ⟨least, most⟩ := bounded item (List.mem_cons_self ..)
    have rest := ih fun i mem => bounded i (List.mem_cons_of_mem item mem)
    rw [List.flatMap_cons]
    show (⟨item.channel, int24 _ _ _⟩ : CommandItem) :: commandItems (items.flatMap CommandItem.bytes) = _
    rw [rest, int24_bytes24 least most]

theorem commandBytes_length (items : List CommandItem) : (items.flatMap CommandItem.bytes).length = 4 * items.length := by
  induction items with
  | nil => rfl
  | cons item items ih =>
    rw [List.flatMap_cons, List.length_append, ih, List.length_cons, show item.bytes.length = 4 from rfl]
    omega

/-- A frame of one to eight COMMAND items can stand on the ring (R3, R6). -/
theorem Frame.carried_of_items {f : Frame} {items : List CommandItem} (payload : f.payload = items.flatMap CommandItem.bytes)
    (nonempty : 1 ≤ items.length) (few : items.length ≤ 8) (kind : Kind.ofCode f.kind = some .command) : f.Carried := by
  have length : f.payload.length = 4 * items.length := payload ▸ commandBytes_length items
  refine ⟨by omega, ?_⟩
  unfold Frame.itemsFit
  rw [kind]
  show (f.payload.length != 0 && f.payload.length % 4 == 0 && decide (f.payload.length / 4 ≤ 8)) = true
  simp only [Bool.and_eq_true, bne_iff_ne, beq_iff_eq, decide_eq_true_eq]
  omega

/-- A COMMAND frame decided by GUARD goes on with the items the guard leaves, or is removed (R28). -/
theorem State.routeFrame_of_guard {s : State} {f : Frame} {i : RouteIdx} {items : List CommandItem} (decides : s.Decides i .command f)
    (guard : (s.routes.get i).config.disposition = .guard) (spelled : commandItems f.payload = items) :
    s.routeFrame f = let r := (s.markHit i).guardItems f.dst f.src items
      if r.2 = [] then r.1 else r.1.forwardReturned { f with payload := r.2.flatMap CommandItem.bytes } := by
  have routed := State.route_of_decides decides
  unfold dispose at routed
  rw [guard] at routed
  dsimp only [guardFrame] at routed
  rw [spelled] at routed
  dsimp only
  cases left : ((s.markHit i).guardItems f.dst f.src items).2 with
  | nil =>
    rw [left] at routed
    exact (routeFrame_of_removed routed).trans (if_pos rfl).symm
  | cons item rest =>
    rw [left] at routed
    exact (routeFrame_of_kept routed).trans (if_neg (List.cons_ne_nil item rest)).symm

/-- Settles O11: each disposition at the deciding entry, and the guard's walk through the items. -/
theorem decidingEntryDisposesOfFrame : Obligations.DecidingEntryDisposesOfFrame := by
  refine ⟨fun s f i k hunts carried silent foreign elsewhere decides => ?_,
    fun s f i items hunts payload nonempty few bounded silent foreign elsewhere decides guard => ?_⟩
  · have routed := State.route_of_decides decides.hearing
    rw [State.exec_foreign hunts carried silent foreign elsewhere]
    refine ⟨fun passed => congrArg Host.Outcome.next ?_, fun removed => congrArg Host.Outcome.next ?_⟩
    · exact State.routeFrame_of_kept (routed.trans (State.dispose_of_passed passed))
    · exact State.routeFrame_of_removed (routed.trans (State.dispose_of_removed removed))
  · have carried := Frame.carried_of_items payload nonempty few decides.kind
    have spelled : commandItems f.payload = items := payload ▸ commandItems_bytes bounded
    intro u treated
    have walked : treated = u.guardItems f.dst f.src items := State.guardItems_eq_foldl f.dst f.src items u []
    rw [State.exec_foreign hunts carried silent foreign elsewhere, walked]
    exact congrArg Host.Outcome.next (State.routeFrame_of_guard decides.hearing guard spelled)

/-! ### Items that reach their points (R25 to R27) -/

namespace State

variable {s t u : State} {f : Frame}

theorem UpdateKeeps.refl (s : State) : s.UpdateKeeps s := ⟨rfl, rfl, rfl, rfl, rfl, rfl, rfl, rfl, rfl, rfl, rfl, rfl, fun _ => rfl, rfl⟩

theorem UpdateKeeps.trans (h : s.UpdateKeeps t) (k : t.UpdateKeeps u) : s.UpdateKeeps u where
  power := k.power.trans h.power
  ownAddress := k.ownAddress.trans h.ownAddress
  timeCount := k.timeCount.trans h.timeCount
  received := k.received.trans h.received
  passing := k.passing.trans h.passing
  inPassage := k.inPassage.trans h.inPassage
  silence := k.silence.trans h.silence
  silent := k.silent.trans h.silent
  returns := k.returns.trans h.returns
  supervision := k.supervision.trans h.supervision
  management := k.management.trans h.management
  settings := k.settings.trans h.settings
  staged i := (k.staged i).trans (h.staged i)
  pending := k.pending.trans h.pending

/-- What an item is for, or that it is skipped, and what it carries. -/
abbrev Arrival : Type := Option PointIdx × ItemValue

/-- One item in its place, by its point (R26, R27). -/
def takeArrival (seq : Byte) (a : Arrival) (s : State) : State :=
  match a.1 with
  | some p => s.arriveAtPoint p seq a.2
  | none => (s.raise (.event .routeRange)).drain

theorem takeArrival_point (seq : Byte) (p : PointIdx) (i : ItemValue) (s : State) : s.takeArrival seq (some p, i) = s.arriveAtPoint p seq i := rfl

theorem handOver_eq (c : RouteConfig) (a : Addr) (seq channel : Byte) (i : ItemValue) (s : State) :
    s.handOver c a seq channel i = s.takeArrival seq (c.pointFor a channel, i) := by
  unfold handOver takeArrival
  cases c.pointFor a channel <;> rfl

theorem takeItems_eq (c : RouteConfig) (k : Kind) (f : Frame) (s : State) :
    s.takeItems c k f = (c.arrivals k f).foldl (fun v a => v.takeArrival f.seq a) s := by
  cases k with
  | sample | status =>
    simp only [takeItems, each, RouteConfig.arrivals, List.foldl_map, handOver_eq]
  | command | request | reply | notice => rfl

theorem raised_updateKeeps (ch : Change) (s : State) : s.UpdateKeeps (s.raise ch).drain :=
  .of_but (((raise_but s ch).mono (by simp)).trans (drain_but _)) (by decide)
    ((sameStaged_kept s).drain ((sameStaged_kept s).raise (.refl s) ch))

theorem Point.take_config (pt : Point) (seq : Byte) (i : ItemValue) : (pt.take seq i).config = pt.config := by
  cases i with
  | status code =>
    unfold Point.take Point.takeStatus Point.takeFault
    dsimp only
    split <;> rfl
  | sample flags v =>
    obtain ⟨config, state, age, last⟩ := pt
    unfold Point.take Point.takeSample
    dsimp only
    split
    · rfl
    · split
      · cases state <;> rfl
      · rfl

theorem arrive_of_accepted {p : PointIdx} {seq : Byte} (accepted : (s.points.get p).accepts seq = true) (i : ItemValue) :
    s.arriveAtPoint p seq i = (s.setPoint p ((s.points.get p).take seq i)).updateEvent p := if_pos accepted

theorem arrive_of_ignored {p : PointIdx} {seq : Byte} (ignored : (s.points.get p).accepts seq = false) (i : ItemValue) :
    s.arriveAtPoint p seq i = s := if_neg (by simp [ignored])

theorem update_updateKeeps {p : PointIdx} {pt : Point} (same : pt.config = (s.points.get p).config) : s.UpdateKeeps ((s.setPoint p pt).updateEvent p) :=
  .of_but (((s.withPointTable_but _).mono (by simp)).trans ((updateEvent_but p _).mono (d := .points :: updateParts) (by simp +contextual)))
    (by decide) ((sameStaged_kept s).updateEvent (.setPoint same) p)

/-- An item changes its own point alone, and no configuration. -/
theorem takeArrival_keeps (seq : Byte) (a : Arrival) (s : State) : (s.takeArrival seq a).points = pointsAfter s.points seq a.1 a.2 ∧
    (s.takeArrival seq a).routes = s.routes ∧ s.UpdateKeeps (s.takeArrival seq a) := by
  obtain ⟨target, i⟩ := a
  cases target with
  | none => exact ⟨drain_points _, drain_routes _, raised_updateKeeps ..⟩
  | some p =>
    cases accepts : (s.points.get p).accepts seq with
    | true =>
      have arrives := arrive_of_accepted accepts i
      have after : pointsAfter s.points seq (some p) i = s.points.set p ((s.points.get p).take seq i) := if_pos accepts
      rw [takeArrival_point, arrives, show pointsAfter s.points seq (some p, i).1 (some p, i).2 = _ from after]
      exact ⟨updateEvent_points .., updateEvent_routes .., update_updateKeeps (Point.take_config ..)⟩
    | false =>
      have arrives := arrive_of_ignored accepts i
      have after : pointsAfter s.points seq (some p) i = s.points := if_neg (by simp [accepts])
      rw [takeArrival_point, arrives, show pointsAfter s.points seq (some p, i).1 (some p, i).2 = _ from after]
      exact ⟨rfl, rfl, .refl s⟩

theorem takeArrivals_keeps (seq : Byte) (as : List Arrival) (s : State) :
    (as.foldl (fun v a => v.takeArrival seq a) s).points = as.foldl (fun ps a => pointsAfter ps seq a.1 a.2) s.points ∧
    (as.foldl (fun v a => v.takeArrival seq a) s).routes = s.routes ∧ s.UpdateKeeps (as.foldl (fun v a => v.takeArrival seq a) s) := by
  induction as generalizing s with
  | nil => exact ⟨rfl, rfl, .refl s⟩
  | cons a as ih =>
    obtain ⟨points, routes, keeps⟩ := s.takeArrival_keeps seq a
    obtain ⟨points', routes', keeps'⟩ := ih (s.takeArrival seq a)
    exact ⟨by rw [List.foldl_cons, points', points]; rfl, routes'.trans routes, keeps.trans keeps'⟩

/-- Items for points without dependants change the point table alone. -/
theorem takeArrivals_alone (seq : Byte) (as : List Arrival) (s : State) (alone : ∀ a ∈ as, ∃ p, a.1 = some p ∧ s.NoDependants p) :
    as.foldl (fun v a => v.takeArrival seq a) s = s.withPoints (as.foldl (fun ps a => pointsAfter ps seq a.1 a.2) s.points) := by
  induction as generalizing s with
  | nil => rfl
  | cons a as ih =>
    obtain ⟨target, i⟩ := a
    obtain ⟨p, rfl, mine⟩ := alone _ (List.mem_cons_self ..)
    have one : s.takeArrival seq (some p, i) = s.withPoints (pointsAfter s.points seq (some p) i) := by
      cases accepts : (s.points.get p).accepts seq with
      | true =>
        have after : pointsAfter s.points seq (some p) i = s.points.set p ((s.points.get p).take seq i) := if_pos accepts
        rw [takeArrival_point, arrive_of_accepted accepts, after]
        exact (mine.withPoints _).updateEvent
      | false =>
        have after : pointsAfter s.points seq (some p) i = s.points := if_neg (by simp [accepts])
        rw [takeArrival_point, arrive_of_ignored accepts, after, withPoints_self]
    rw [List.foldl_cons, one, ih]
    · rfl
    · intro b mem
      obtain ⟨q, target, others⟩ := alone b (List.mem_cons_of_mem _ mem)
      exact ⟨q, target, others.withPoints _⟩

theorem forwardReturned_keeps (f : Frame) (s : State) :
    (s.forwardReturned f).points = s.points ∧ (s.forwardReturned f).routes = s.routes ∧ s.UpdateKeeps (s.forwardReturned f) := by
  have but : s.SameBut watchParts (s.forwardReturned f) := by
    unfold forwardReturned
    split
    · exact .refl _ s
    · exact ((forwardFrame_but s _).mono (by simp +contextual)).trans (drain_but _)
  have staged : s.SameStaged (s.forwardReturned f) := by
    unfold forwardReturned
    split
    · exact .refl s
    · exact (sameStaged_kept s).drain ((sameStaged_kept s).keep (.refl s) (.forward _))
  exact ⟨but .points (by decide), but .routes (by decide), .of_but but (by decide) staged⟩

end State

/-- Settles O12: the items as arrivals at their points, and the mapping of R25. -/
theorem sampleAndStatusItemsReachTheirPoints : Obligations.SampleAndStatusItemsReachTheirPoints := by
  refine ⟨fun s f i k hunts carried silent foreign elsewhere decides acts => ?_, fun c a channel p => ?_⟩
  · intro c u points taken
    have routed : s.hearing.route f = u.dispose c k f := State.route_of_decides decides.hearing
    have walked : u.takeItems c k f = taken := State.takeItems_eq c k f u
    have observes (observe : c.disposition = .observe) : exec (.frameArrival f.wire) s = .next (taken.forwardReturned f) := by
      rw [State.exec_foreign hunts carried silent foreign elsewhere]
      refine congrArg Host.Outcome.next (State.routeFrame_of_kept (routed.trans ?_))
      rw [State.dispose, observe, walked]
    have consumes (consume : c.disposition = .consume) : exec (.frameArrival f.wire) s = .next taken := by
      rw [State.exec_foreign hunts carried silent foreign elsewhere]
      refine congrArg Host.Outcome.next (State.routeFrame_of_removed (routed.trans ?_))
      rw [State.dispose, consume, walked]
    obtain ⟨points_eq, routes_eq, keeps⟩ := State.takeArrivals_keeps f.seq (c.arrivals k f) u
    refine ⟨?_, observes, consumes, fun alone => ?_⟩
    · rintro (observe | consume)
      · obtain ⟨points', routes', keeps'⟩ := taken.forwardReturned_keeps f
        exact ⟨_, observes observe, points'.trans points_eq, routes'.trans routes_eq, keeps.trans keeps'⟩
      · exact ⟨_, consumes consume, points_eq, routes_eq, keeps⟩
    · have quiet : taken = u.withPoints points := State.takeArrivals_alone f.seq (c.arrivals k f) u fun a mem => by
        obtain ⟨p, target, mine⟩ := alone a mem
        exact ⟨p, target, mine.watches, mine.influent, mine.ammonia⟩
      exact ⟨fun observe => quiet ▸ observes observe, fun consume => quiet ▸ consumes consume⟩
  · unfold RouteConfig.pointFor RouteConfig.pointIndex
    have bound := p.isLt
    split
    · next within => 
      rw [Option.some.injEq, Fin.ext_iff]
      exact ⟨fun same => ⟨within.1, same.symm⟩, fun ⟨_, same⟩ => same.symm⟩
    · next outside => exact ⟨nofun, fun ⟨within, same⟩ => absurd ⟨within, by omega⟩ outside⟩

end Sys2Proof.Machine
end

section
/-! Outputs: offers, resends, and the guard (R141 to R146, R151). -/
namespace Sys2Proof.Machine

namespace Output

variable {out : Output}

theorem restartResend_eq (out : Output) : out.restartResend =
    { out with resendTimer := if out.config.resend = 0 then out.resendTimer else some (out.config.resend * 10) } := by
  unfold restartResend
  split <;> rfl

/-- An AUTO output sends without a last value, beyond its deadband, or unsent (R142). -/
theorem sends_iff (v : Int) : out.sends v = true ↔
    (out.last = none ∨ out.unsent = true ∨ ∃ l, out.last = some l ∧ out.config.deadband ≤ (v - l).natAbs) := by
  unfold sends
  cases out.last with
  | none => simp
  | some l => simp [or_comm]

/-- A forced offer is for nothing where the value stands and was sent (R151). -/
theorem sendsForced_eq_false_iff (v : Int) : out.sendsForced v = false ↔ out.last = some v ∧ out.unsent = false := by
  unfold sendsForced
  cases out.last with
  | none => simp
  | some l =>
    rw [Bool.or_eq_false_iff, bne_eq_false_iff_eq, Option.some.injEq]
    exact and_congr_left' eq_comm

end Output

namespace OutputConfig

theorem unused_iff (c : OutputConfig) : c.unused = true ↔ c.destination = 0 := beq_iff_eq

theorem unused_eq_false_iff (c : OutputConfig) : c.unused = false ↔ c.destination ≠ 0 := beq_eq_false_iff_ne

end OutputConfig

namespace State

variable {s : State} {o : OutputIdx}

/-! ### Offers and resends (R142, R143, R145) -/

/-- To send a value is to write the record, offer a COMMAND, and write the queue's answer. -/
theorem sendValue_eq (o : OutputIdx) (v : Int) (s : State) :
    s.sendValue o v =
      let timer := if (s.outputs.get o).config.resend = 0 then (s.outputs.get o).resendTimer else some ((s.outputs.get o).config.resend * 10)
      let answer := (s.withOutputs (s.outputs.set o { s.outputs.get o with last := some v, resendTimer := timer })).sendCommand o v
      answer.1.withOutputs (s.outputs.set o { s.outputs.get o with last := some v, resendTimer := timer, unsent := !answer.2 }) := by
  unfold sendValue
  dsimp only
  rw [Output.restartResend_eq]
  dsimp only
  have kept (u : State) : (u.sendCommand o v).1.outputs = u.outputs := u.sendCommand_but o v .outputs (by decide)
  have set (u : State) (r : Output) : u.setOutput o r = u.withOutputs (u.outputs.set o r) := rfl
  rw [set, set, kept, withOutputs_outputs, Table.get_set_self, Table.set_set]

theorem offer_of_ignored (ignored : (s.outputs.get o).config.destination = 0 ∨ (s.outputs.get o).state = .supervised) (v : Int) :
    s.offer o v = s := by
  unfold offer
  dsimp only
  obtain unused | supervised := ignored
  · rw [if_pos ((OutputConfig.unused_iff _).2 unused)]
  · rw [supervised, ite_self]

theorem offer_of_auto (used : (s.outputs.get o).config.destination ≠ 0) (auto : (s.outputs.get o).state = .auto) (v : Int) :
    s.offer o v = if (s.outputs.get o).sends ((s.outputs.get o).config.limit v) then s.sendValue o ((s.outputs.get o).config.limit v) else s := by
  unfold offer
  dsimp only
  rw [if_neg (by rw [OutputConfig.unused_iff]; exact used), auto]

theorem forcedOffer_of_ignored (ignored : (s.outputs.get o).config.destination = 0 ∨ (s.outputs.get o).state = .supervised) (v : Int) :
    s.forcedOffer o v = s := by
  unfold forcedOffer
  dsimp only
  obtain unused | supervised := ignored
  · rw [if_pos ((OutputConfig.unused_iff _).2 unused)]
  · rw [supervised, ite_self]

theorem forcedOffer_of_auto (used : (s.outputs.get o).config.destination ≠ 0) (auto : (s.outputs.get o).state = .auto) (v : Int) :
    s.forcedOffer o v =
      if (s.outputs.get o).sendsForced ((s.outputs.get o).config.limit v) then s.sendValue o ((s.outputs.get o).config.limit v) else s := by
  unfold forcedOffer
  dsimp only
  rw [if_neg (by rw [OutputConfig.unused_iff]; exact used), auto]

theorem resend_of_auto {l : Int} (auto : (s.outputs.get o).state = .auto) (last : (s.outputs.get o).last = some l) : s.resend o = s.sendValue o l := by
  unfold resend
  dsimp only
  rw [auto, last]

theorem resend_of_supervised (supervised : (s.outputs.get o).state = .supervised) :
    s.resend o = s.setOutput o (s.outputs.get o).restartResend := by
  unfold resend
  dsimp only
  rw [supervised]

end State

/-- Settles O32: offers by use, state and `Output.sends`, resends by state. -/
theorem offersAndResendsSend : Obligations.OffersAndResendsSend := by
  intro s o v out w sends timer sent
  have sent_eq (x : Int) : s.sendValue o x = sent x := s.sendValue_eq o x
  refine ⟨fun ignored => State.offer_of_ignored ignored v, fun used auto does => ?_, fun used auto not => ?_,
    fun ignored => State.forcedOffer_of_ignored ignored v, fun used auto => ?_, fun running => ⟨fun stopped => ?_, fun runs =>
      ⟨fun l auto last => ?_, fun supervised raised resends => ?_⟩⟩⟩
  · exact ((State.offer_of_auto used auto v).trans (if_pos ((Output.sends_iff _).2 does))).trans (sent_eq w)
  · exact (State.offer_of_auto used auto v).trans (if_neg fun does => not ((Output.sends_iff _).1 does))
  · refine (State.forcedOffer_of_auto used auto v).trans ?_
    by_cases stands : out.last = some w ∧ out.unsent = false
    · have still := (Output.sendsForced_eq_false_iff w).2 stands
      exact (if_neg (ne_true_of_eq_false still)).trans (if_pos stands).symm
    · have moves : out.sendsForced w = true := by
        rw [← Bool.not_eq_false, Output.sendsForced_eq_false_iff]
        exact stands
      exact ((if_pos moves).trans (sent_eq w)).trans (if_neg stands).symm
  · exact congrArg Host.Outcome.next (State.expire_of_unset (by simpa using stopped))
  · refine congrArg Host.Outcome.next ((State.expire_of_running running runs).trans (congrArg State.drain ?_))
    exact (State.resend_of_auto auto last).trans (sent_eq l)
  · refine congrArg Host.Outcome.next ((State.expire_of_running running runs).trans ?_)
    rw [State.resend_of_supervised supervised, Output.restartResend_eq, if_neg resends]
    exact State.drain_of_raised_nil raised

/-! ### The guard (R146) -/

namespace State

variable {s : State} {o : OutputIdx}

/-- The value an item is given as it passes: the record, and the value of a COMMAND that waits (R146). -/
theorem noteValue_eq (o : OutputIdx) (v : Int) (s : State) : s.noteValue o v =
    (s.withOutputs (s.outputs.set o { s.outputs.get o with
      last := some v, unsent := false
      resendTimer := if (s.outputs.get o).config.resend = 0 then (s.outputs.get o).resendTimer else some ((s.outputs.get o).config.resend * 10)
      })).withRing (s.ring.coalesce o v) := by
  unfold noteValue
  dsimp only
  rw [Output.restartResend_eq]
  by_cases present : s.ring.hasCommand o = true
  · exact if_pos present
  · refine (if_neg present).trans ?_
    have same : s.ring.coalesce o v = s.ring := by
      have none : ∀ q ∈ s.ring.transmit, q.isOwnedBy o ≠ true := fun q mem owned => present (List.any_eq_true.2 ⟨q, mem, owned⟩)
      unfold Ring.coalesce
      refine congrArg (fun l => { s.ring with transmit := l }) ?_
      exact (List.map_congr_left (g := id) fun q mem => if_neg (none q mem)).trans (List.map_id _)
    rw [same]
    rfl

/-- The waiting valve of a TRIPPED lane is an output of kind ZONE_VALVE whose owner is a zone of that lane (R139). -/
theorem servesTripped_iff_regime (c : OutputConfig) (s : State) : s.servesTripped c = true ↔
    c.kind = .zoneValve ∧ (s.lanes.get (laneOf c.owner)).state.regime = .tripped := by
  rw [servesTripped_iff]
  unfold OutputConfig.valveLane
  cases c.kind <;> simp

theorem outputFor_of_none {dst : Addr} {channel : Byte} (absent : ∀ o, ¬((s.outputs.get o).config.destination ≠ 0 ∧
    (s.outputs.get o).config.destination = dst ∧ (s.outputs.get o).config.channel = channel)) : s.outputFor dst channel = none := by
  unfold outputFor
  rw [List.find?_eq_none]
  intro o _ found
  refine absent o ?_
  simpa [OutputConfig.unused_eq_false_iff, and_assoc] using found

theorem outputFor_of_first {dst : Addr} {channel : Byte} (found : (s.outputs.get o).config.destination ≠ 0 ∧
      (s.outputs.get o).config.destination = dst ∧ (s.outputs.get o).config.channel = channel)
    (first : ∀ p, p < o → ¬((s.outputs.get p).config.destination ≠ 0 ∧
      (s.outputs.get p).config.destination = dst ∧ (s.outputs.get p).config.channel = channel)) : s.outputFor dst channel = some o := by
  refine find_indices ?_ fun p before => ?_
  · simpa [OutputConfig.unused_eq_false_iff, and_assoc] using found
  · have other := first p before
    rw [← Bool.not_eq_true]
    simpa [OutputConfig.unused_eq_false_iff, and_assoc] using other

end State

/-- Settles O33: the report of a change, and the guard's cases in their order. -/
theorem guardTreatsItems : Obligations.GuardTreatsItems := by
  refine ⟨fun s o new => ⟨State.changeOutput_of_eq, fun differs => ?_⟩, fun s dst src item => ?_⟩
  · rw [State.changeOutput_of_ne differs]
    rfl
  intro found noted
  refine ⟨fun absent => ?_, fun o here first => ?_⟩
  · unfold State.guardItem
    rw [State.outputFor_of_none absent]
  · have target := State.outputFor_of_first here first
    intro c tripped v
    have noted_eq (x : Int) : s.noteValue o x = noted o x := by
      rw [State.noteValue_eq]
      exact congrArg (fun l => State.withRing (s := _) { s.ring with transmit := l }) (List.map_congr_left fun q _ => q.coalesce_eq o x)
    have tripped_iff : s.servesTripped c = true ↔ tripped := s.servesTripped_iff_regime c
    unfold State.guardItem
    rw [target]
    dsimp only
    refine ⟨fun does => ?_, fun not outside => ?_, fun not inside disabled => ?_, fun not inside enabled => ?_⟩
    · rw [if_pos (tripped_iff.2 does), noted_eq]
    · rw [if_neg (mt tripped_iff.1 not), if_pos outside]
    · rw [if_neg (mt tripped_iff.1 not), if_neg (by rw [inside]; decide), noted_eq]
      exact congrArg (·, _) (if_neg (show ¬s.supervision.countdown.isSome = true by rw [disabled]; decide))
    · rw [if_neg (mt tripped_iff.1 not), if_neg (by rw [inside]; decide), noted_eq]
      exact congrArg (·, _) (if_pos enabled)

end Sys2Proof.Machine
end

section
/-! The zones of a lane at a change of its regime, and the storm's entry and exit (R54, R62, R63, R97). -/
namespace Sys2Proof.Machine

/-- A zone follows its lane's economy cycle (R96). -/
def Zone.cycles (zn : Zone) (idle : Bool) : Bool := !idle && zn.config.cyclic && zn.mode == .doControl

namespace State

variable {s t u : State} {k : LaneIdx} {z : ZoneIdx}

/-- Two states that both differ from a third in some parts only, and agree in those, are equal. -/
theorem SameBut.eq_of {c : List Part} (h : s.SameBut c t) (k : s.SameBut c u) (same : ∀ p ∈ c, p.same t u) : t = u := by
  have all (p : Part) : p.same t u := by
    by_cases mem : p ∈ c
    · exact same p mem
    · have h := h p mem
      have k := k p mem
      cases p <;> simp only [Part.same] at h k ⊢ <;> simp [h, k]
  obtain ⟨tpower, town, ttime, tring, troutes, tpoints, tplant, tlanes, tzones, talloc, tblowers, treturns, toutputs, tsuper, twatches, thistory,
    tmanage, traised, tfree, tpending⟩ := t
  obtain ⟨upower, uown, utime, uring, uroutes, upoints, uplant, ulanes, uzones, ualloc, ublowers, ureturns, uoutputs, usuper, uwatches, uhistory,
    umanage, uraised, ufree, upending⟩ := u
  obtain ⟨passing, inPassage⟩ := all .passing
  obtain ⟨forward, transmit, line, runCount, sequence⟩ := all .traffic
  have ring : uring = tring := by
    cases uring
    cases tring
    exact (Ring.mk.injEq ..).mpr ⟨all .received, passing, inPassage, forward, transmit, line, runCount, sequence, all .silence, all .silent⟩
  exact ((State.mk.injEq ..).mpr ⟨all .power, all .ownAddress, all .timeCount, ring, all .routes, all .points, all .plant, all .lanes, all .zones,
    all .allocator, all .blowers, all .returns, all .outputs, all .supervision, all .watches, all .history, all .management, all .raised,
    all .freeIndex, all .pending⟩).symm

/-- Zones rewritten one after another, each from its own record and what the zones do not touch. -/
theorem each_zones {f : ZoneIdx → State → State} {g : ZoneIdx → Zone → Zone} {s : State}
    (one : ∀ z x, f z (s.withZones x) = s.withZones (x.set z (g z (x.get z)))) (l : List ZoneIdx) (distinct : l.Nodup) :
    s.each l f = s.withZones (Table.build fun z => if z ∈ l then g z (s.zones.get z) else s.zones.get z) := by
  have all (l : List ZoneIdx) (x) : (s.withZones x).each l f = s.withZones ((s.withZones x).each l f).zones := by
    induction l generalizing x with
    | nil => rfl
    | cons z l ih => rw [each_cons, one]; exact ih _
  have zones (l : List ZoneIdx) (distinct : l.Nodup) (x : Table 32 Zone) (y : ZoneIdx) : ((s.withZones x).each l f).zones.get y =
      if y ∈ l then g y (x.get y) else x.get y := by
    induction l generalizing x with
    | nil => rfl
    | cons z l ih =>
      obtain ⟨fresh, distinct⟩ := List.nodup_cons.1 distinct
      rw [each_cons, one, ih distinct, Table.get_set]
      by_cases same : z = y
      · subst same
        simp [fresh]
      · have other : y ≠ z := fun eq => same eq.symm
        simp [same, other]
  have start := all l s.zones
  rw [withZones_self] at start
  rw [start]
  refine congrArg s.withZones (Table.ext_get fun y => ?_)
  have get := zones l distinct s.zones y
  rw [withZones_self] at get
  rw [get, Table.get_build]

/-! ### The end of an economy cycle (R97) -/

theorem follows_eq (s : State) (z : ZoneIdx) : s.follows z = (s.zones.get z).cycles (s.isIdle z) := rfl

/-- A zone after its lane's cycle ended (R97). -/
def cycleEnded (s : State) (k : LaneIdx) (z : ZoneIdx) : Zone :=
  if laneOf z = k ∧ s.follows z = true ∧ (s.zones.get z).offDemand = true then (s.zones.get z).airOn else s.zones.get z

theorem endCycle_eq (k : LaneIdx) (s : State) : s.endCycle k = s.withZones (Table.build (s.cycleEnded k)) := by
  unfold endCycle
  rw [each_zones (g := fun z zn => if zn.cycles (s.isIdle z) && zn.offDemand then zn.airOn else zn)
    (fun z x => ?_) _ (zonesOf_nodup k)]
  · refine congrArg s.withZones (Table.ext_get fun z => ?_)
    rw [Table.get_build, Table.get_build]
    simp only [mem_zonesOf, cycleEnded, ← ite_and, follows_eq, Bool.and_eq_true]
    congr
  · show (if (x.get z).cycles (s.isIdle z) && (x.get z).offDemand then s.withZones (x.set z (x.get z).airOn) else s.withZones x) = _
    split
    · rfl
    · rw [Table.set_get]

/-- A zone at a change of its lane's regime: a lane that leaves ECONOMY ends its cycle (R54, R97). -/
def regimeLeft (s : State) (k : LaneIdx) (z : ZoneIdx) : Zone :=
  if (s.lanes.get k).state.regime = .economy then s.cycleEnded k z else s.zones.get z

/-- A change of a lane's regime, in full (R54). -/
theorem changeRegime_eq (k : LaneIdx) (new : LaneState) (s : State) : s.changeRegime k new =
    ((s.withZones (Table.build (s.regimeLeft k))).withLanes (s.lanes.set k { s.lanes.get k with state := new, dwell := 0 })).capture
      (.regime k (s.lanes.get k).state.regime new.regime) := by
  unfold changeRegime
  have zones : (if (s.lanes.get k).state.isEconomy then s.endCycle k else s) = s.withZones (Table.build (s.regimeLeft k)) := by
    by_cases economy : (s.lanes.get k).state.regime = .economy
    · rw [if_pos ((isEconomy_iff _).2 economy), endCycle_eq]
      refine congrArg s.withZones (congrArg Table.build (funext fun z => ?_))
      rw [regimeLeft, if_pos economy]
    · rw [if_neg (mt (isEconomy_iff _).1 economy)]
      have same : s.regimeLeft k = s.zones.get := funext fun z => if_neg economy
      rw [same, Table.build_get, withZones_self]
  dsimp only
  rw [zones]
  rfl

theorem changeRegime_zone (k : LaneIdx) (new : LaneState) (s : State) (z : ZoneIdx) : (s.changeRegime k new).zones.get z = s.regimeLeft k z := by
  rw [changeRegime_eq]
  exact Table.get_build _ z

theorem changeRegime_history (k : LaneIdx) (new : LaneState) (s : State) : (s.changeRegime k new).history =
    s.history.capture s.timeCount (.regime k (s.lanes.get k).state.regime new.regime) := by
  rw [changeRegime_eq]
  rfl

/-! ### The storm (R62, R63) -/

/-- The regime a lane takes as the storm becomes ACTIVE or INACTIVE (R63). -/
abbrev stormTarget (active : Bool) : LaneState := if active then .storm else .normal

theorem afterStorm_eq (active : Bool) (l : LaneState) : l.afterStorm active =
    if (if active then l.regime = .normal ∨ l.regime = .economy else l.regime = .storm) then some (stormTarget active) else none := by
  cases active <;> cases l <;> rfl

end State

/-- The lane is one that the storm's change moves (R63). -/
abbrev Lane.MovedByStorm (active : Bool) (l : Lane) : Prop :=
  if active then l.state.regime = .normal ∨ l.state.regime = .economy else l.state.regime = .storm

namespace State

variable {s t u : State} {k : LaneIdx} {z : ZoneIdx} {active : Bool}

theorem stormStep_of_moved (moved : (s.lanes.get k).MovedByStorm active) : s.stormStep active k = s.changeRegime k (stormTarget active) := by
  unfold stormStep
  rw [afterStorm_eq, if_pos moved]

theorem stormStep_of_kept (kept : ¬(s.lanes.get k).MovedByStorm active) : s.stormStep active k = s := by
  unfold stormStep
  rw [afterStorm_eq, if_neg kept]

theorem stormStep_other (j : LaneIdx) (other : j ≠ k) : (s.stormStep active k).lanes.get j = s.lanes.get j := by
  rw [stormStep_lanes, Table.get_set_other _ _ other]

/-- The entries the storm's change captures, a lane at a time (R63). -/
theorem each_stormStep_history (l : List LaneIdx) (distinct : l.Nodup) (s : State) :
    (s.each l (State.stormStep active)).history = (l.filter fun k => decide ((s.lanes.get k).MovedByStorm active)).foldl
      (fun h k => h.capture s.timeCount (.regime k (s.lanes.get k).state.regime (stormTarget active).regime)) s.history := by
  induction l generalizing s with
  | nil => rfl
  | cons k l ih =>
    obtain ⟨fresh, distinct⟩ := List.nodup_cons.1 distinct
    have lanes (j) (mem : j ∈ l) : (s.stormStep active k).lanes.get j = s.lanes.get j := stormStep_other j fun eq => fresh (eq ▸ mem)
    have time : (s.stormStep active k).timeCount = s.timeCount := stormStep_but active k s .timeCount (by decide)
    have moves : (l.filter fun j => decide (((s.stormStep active k).lanes.get j).MovedByStorm active)) =
        l.filter fun j => decide ((s.lanes.get j).MovedByStorm active) := List.filter_congr fun j mem => by rw [lanes j mem]
    rw [each_cons, ih distinct, moves, time, List.filter_cons]
    rw [List.foldl_ext (g := fun h j => h.capture s.timeCount (.regime j (s.lanes.get j).state.regime (stormTarget active).regime))
      (H := fun h j mem => by rw [lanes j (List.mem_of_mem_filter mem)])]
    by_cases moved : (s.lanes.get k).MovedByStorm active
    · rw [if_pos (decide_eq_true moved), stormStep_of_moved moved, changeRegime_history]
      rfl
    · rw [if_neg (by simpa using moved), stormStep_of_kept moved]

/-- Which zones follow their lane's cycle depends on their lane's zone count and on whether it is OFFLINE. -/
theorem follows_congr (lane : t.lanes.get (laneOf z) = s.lanes.get (laneOf z)) (zone : t.zones.get z = s.zones.get z) :
    t.follows z = s.follows z := by
  unfold follows isIdle laneOfZone
  rw [lane, zone]

/-- A zone after a storm entry or exit: one whose lane left ECONOMY ended its cycle (R63, R97). -/
abbrev stormZone (active : Bool) (s : State) (z : ZoneIdx) : Zone :=
  if active = true ∧ (s.laneOfZone z).state.regime = .economy ∧ s.follows z = true ∧ (s.zones.get z).offDemand = true then
    (s.zones.get z).airOn else s.zones.get z

theorem stormZone_congr (lane : t.lanes.get (laneOf z) = s.lanes.get (laneOf z)) (zone : t.zones.get z = s.zones.get z) :
    t.stormZone active z = s.stormZone active z := by
  unfold stormZone laneOfZone
  rw [lane, zone, follows_congr lane zone]

theorem stormStep_zone (z : ZoneIdx) (s : State) :
    (s.stormStep active k).zones.get z = if laneOf z = k then s.stormZone active z else s.zones.get z := by
  by_cases mine : laneOf z = k
  · subst mine
    rw [if_pos rfl]
    by_cases moved : (s.lanes.get (laneOf z)).MovedByStorm active
    · rw [stormStep_of_moved moved, changeRegime_zone]
      unfold regimeLeft cycleEnded stormZone laneOfZone
      cases active with
      | true => simp only [← ite_and, true_and]
      | false =>
        have regime : (s.lanes.get (laneOf z)).state.regime = .storm := moved
        simp [regime]
    · rw [stormStep_of_kept moved, stormZone, if_neg]
      rintro ⟨rfl, economy, -⟩
      exact moved (.inr economy)
  · rw [if_neg mine]
    by_cases moved : (s.lanes.get k).MovedByStorm active
    · rw [stormStep_of_moved moved, changeRegime_zone]
      simp [regimeLeft, cycleEnded, mine]
    · rw [stormStep_of_kept moved]

theorem each_stormStep_zone (l : List LaneIdx) (distinct : l.Nodup) (z : ZoneIdx) (s : State) :
    (s.each l (State.stormStep active)).zones.get z = if laneOf z ∈ l then s.stormZone active z else s.zones.get z := by
  induction l generalizing s with
  | nil => rfl
  | cons k l ih =>
    obtain ⟨fresh, distinct⟩ := List.nodup_cons.1 distinct
    rw [each_cons, ih distinct, stormStep_zone]
    by_cases mine : laneOf z = k
    · rw [if_neg (mine ▸ fresh), if_pos mine, if_pos (List.mem_cons.2 (.inl mine))]
    · have zone : (s.stormStep active k).zones.get z = s.zones.get z := by rw [stormStep_zone, if_neg mine]
      rw [if_neg mine, stormZone_congr (stormStep_other _ mine) zone]
      simp [mine]

/-- The entries of a storm entry or exit (R62, R63). -/
theorem changeStorm_history (active : Bool) (s : State) : (s.changeStorm active).history =
    ((indices 8).filter fun k => decide ((s.lanes.get k).MovedByStorm active)).foldl
      (fun h k => h.capture s.timeCount (.regime k (s.lanes.get k).state.regime (stormTarget active).regime))
      (s.history.capture s.timeCount (.condition .stormActive (!active) active)) := by
  rw [changeStorm_eq, raise_but _ _ .history (by decide), each_stormStep_history _ (indices_nodup 8)]
  rfl

theorem changeStorm_zone (active : Bool) (z : ZoneIdx) (s : State) : (s.changeStorm active).zones.get z = s.stormZone active z := by
  rw [changeStorm_eq, raise_but _ _ .zones (by decide), each_stormStep_zone _ (indices_nodup 8), if_pos (mem_indices _)]
  rfl

theorem changeStorm_raised (active : Bool) (s : State) : (s.changeStorm active).raised = s.raised ++ [.level .stormActive active] := by
  have lanes := SameBut.each _ (stormStep_but active) (indices 8)
    ((s.withPlant { s.plant with storm := active }).capture (levelEntry .stormActive (!active) active)) .raised (by decide)
  rw [changeStorm_eq]
  exact congrArg (· ++ _) lanes

/-- A state that a change of the storm leaves, written as what changed of the state before. -/
theorem eq_of_storm (but : s.SameBut [.plant, .lanes, .zones, .history, .raised] t) :
    t = ((((s.withPlant t.plant).withLanes t.lanes).withHistory t.history).withZones t.zones).withRaised t.raised := by
  refine but.eq_of ?_ ?_
  · exact ((((s.withPlant_but _).mono (by decide)).trans ((State.withLanes_but _ _).mono (by decide))).trans
      ((State.withHistory_but _ _).mono (by decide))).trans (((State.withZones_but _ _).mono (by decide)).trans
      ((State.withRaised_but _ _).mono (by decide)))
  · intro p mem
    simp only [List.mem_cons, List.not_mem_nil, or_false] at mem
    obtain rfl | rfl | rfl | rfl | rfl := mem <;> rfl

end State

theorem Lane.afterStorm_eq (active : Bool) (l : Lane) : l.afterStorm active =
    if l.MovedByStorm active then { l with state := State.stormTarget active, dwell := 0 } else l := by
  unfold Lane.afterStorm
  rw [State.afterStorm_eq]
  by_cases moved : l.MovedByStorm active
  · rw [if_pos moved, if_pos moved]
  · rw [if_neg moved, if_neg moved]

/-- Settles O21: the storm's change, a lane at a time, and the exit hold's expiry. -/
theorem stormMovesTheLanes : Obligations.StormMovesTheLanes := by
  refine ⟨?_, fun s running => ⟨fun holds => ?_, fun none => ?_⟩⟩
  intro s active moves target t
  refine ⟨State.changeStorm_plant active s, fun k => ?_, ?_, fun z => ?_, ?_⟩
  · exact (State.changeStorm_lanes active s k).trans (Lane.afterStorm_eq active _)
  · exact State.changeStorm_history active s
  · exact State.changeStorm_zone active z s
  · have parts := State.eq_of_storm (State.changeStorm_but active s)
    rw [State.changeStorm_raised] at parts
    exact parts
  · exact congrArg Host.Outcome.next (State.expire_of_running running holds)
  · exact congrArg Host.Outcome.next (State.expire_of_unset (by simpa using none))

end Sys2Proof.Machine
end

section
/-! Update events at the lanes: storm detection, the wake checks, and what they wake (R45, R60, R61, R66 to R68). -/
namespace Sys2Proof.Machine

/-! ### What an offer or an allocation raises is a condition, no point -/

namespace State

variable {s t : State}

/-- Only changes of internal conditions wait at the watch unit (R155). -/
def ConditionsWait (s : State) : Prop := ∀ ch ∈ s.raised, ∀ p, ch.subject ≠ .point p

namespace ConditionsWait

theorem of_none (raised : s.raised = []) : s.ConditionsWait := fun ch mem => by rw [raised] at mem; cases mem

theorem of_but {c : List Part} (h : s.ConditionsWait) (but : s.SameBut c t) (apart : Part.raised ∉ c) : t.ConditionsWait := by
  have raised : t.raised = s.raised := but .raised apart
  unfold ConditionsWait
  rw [raised]
  exact h

theorem raise (h : s.ConditionsWait) {ch : Change} (condition : ∀ p, ch.subject ≠ .point p) : (s.raise ch).ConditionsWait := fun c mem => by
  obtain mem | mem := List.mem_append.1 mem
  · exact h c mem
  · exact List.mem_singleton.1 mem ▸ condition

theorem capture (h : s.ConditionsWait) (e : HistoryEvent) : (s.capture e).ConditionsWait := h.of_but (s.capture_but e) (by decide)

theorem setOutput (h : s.ConditionsWait) (o : OutputIdx) (r : Output) : (s.setOutput o r).ConditionsWait := h.of_but (s.setOutput_but o r) (by decide)

theorem enqueue (h : s.ConditionsWait) (q : Queued) : (s.enqueue q).1.ConditionsWait := by
  unfold State.enqueue
  split
  · exact h
  · exact h.raise nofun

theorem sendCommand (h : s.ConditionsWait) (o : OutputIdx) (v : Int) : (s.sendCommand o v).1.ConditionsWait := by
  unfold State.sendCommand
  dsimp only
  split
  · exact h
  · exact h.enqueue _

theorem sendValue (h : s.ConditionsWait) (o : OutputIdx) (v : Int) : (s.sendValue o v).ConditionsWait :=
  ((h.setOutput o _).sendCommand o v).setOutput o _

theorem offer (h : s.ConditionsWait) (o : OutputIdx) (v : Int) : (s.offer o v).ConditionsWait := by
  unfold State.offer
  dsimp only
  split
  · exact h
  · split
    · exact h
    · split
      · exact h.sendValue o _
      · exact h

theorem forcedOffer (h : s.ConditionsWait) (o : OutputIdx) (v : Int) : (s.forcedOffer o v).ConditionsWait := by
  unfold State.forcedOffer
  dsimp only
  split
  · exact h
  · split
    · exact h
    · split
      · exact h.sendValue o _
      · exact h

theorem offerTo (h : s.ConditionsWait) (o : Option OutputIdx) (v : Int) : (s.offerTo o v).ConditionsWait := by
  cases o with
  | none => exact h
  | some o => exact h.offer o v

theorem changeBlower (h : s.ConditionsWait) (b : BlowerIdx) (new : BlowerState) : (s.changeBlower b new).ConditionsWait :=
  h.of_but (s.changeBlower_but b new) (by decide)

theorem adopt (h : s.ConditionsWait) (b : BlowerIdx) (r : DriveReading) : (s.adopt b r).ConditionsWait := by
  cases r <;> exact h.changeBlower b _

theorem failStart (h : s.ConditionsWait) (b : BlowerIdx) : (s.failStart b).ConditionsWait := ((h.changeBlower b _).offerTo _ 0).raise nofun

theorem tripRunning (h : s.ConditionsWait) (b : BlowerIdx) : (s.tripRunning b).ConditionsWait :=
  (((h.changeBlower b _).offerTo _ 0).offerTo _ 0).raise nofun

theorem tripStopping (h : s.ConditionsWait) (b : BlowerIdx) : (s.tripStopping b).ConditionsWait := ((h.changeBlower b _).offerTo _ 0).raise nofun

theorem review (h : s.ConditionsWait) (b : BlowerIdx) (r : DriveReading) : (s.review b r).ConditionsWait := by
  unfold State.review
  split
  · exact h.adopt b _
  · exact h
  · exact h.adopt b _
  · exact h
  · exact h.changeBlower b _
  · exact h
  · exact h.failStart b
  · exact h.changeBlower b _
  · exact h.tripRunning b
  · exact h
  · exact h.tripRunning b
  · exact h.changeBlower b _
  · exact h
  · exact h
  · exact h.tripStopping b
  · exact h.changeBlower b _
  · exact h
  · exact h
  · exact h.adopt b _

theorem reviewBlower (h : s.ConditionsWait) (b : BlowerIdx) : (s.reviewBlower b).ConditionsWait := by
  unfold State.reviewBlower
  split
  · exact h
  · exact h.review b _

theorem setShort (h : s.ConditionsWait) {c : Level} (short : c = .airShort ∨ c = .floorShort) (b : Bool) : (s.setLevel c b).ConditionsWait := by
  unfold State.setLevel
  split
  · exact h
  · obtain rfl | rfl := short
    · exact (((show (s.writeLevel .airShort b).ConditionsWait from h)).capture _).raise nofun
    · exact (((show (s.writeLevel .floorShort b).ConditionsWait from h)).capture _).raise nofun

theorem startBlower (h : s.ConditionsWait) (b : BlowerIdx) : (s.startBlower b).ConditionsWait :=
  (((h.changeBlower b _).offerTo _ 0).offerTo _ 1).of_but (State.setCounts_but _ _ _) (by decide)

theorem stopBlower (h : s.ConditionsWait) (b : BlowerIdx) : (s.stopBlower b).ConditionsWait :=
  ((h.changeBlower b _).offerTo _ 0).of_but (State.setCounts_but _ _ _) (by decide)

theorem stageDown (h : s.ConditionsWait) (D C up : Nat) : (s.stageDown D C up).ConditionsWait := by
  unfold State.stageDown
  split
  · exact h
  · dsimp only
    split
    · exact h.stopBlower _
    · exact h

theorem stage (h : s.ConditionsWait) (D C : Nat) : (s.stage D C).ConditionsWait := by
  unfold State.stage
  split
  · exact h
  · split
    · exact h.stopBlower _
    · split
      · exact h.startBlower _
      · exact h.stageDown D C _

theorem allocate (h : s.ConditionsWait) : s.allocate.ConditionsWait := by
  unfold State.allocate
  extract_lets reviewed D C F G summed levelled
  have hr : reviewed.ConditionsWait := by
    refine State.each_induction _ (fun b _ _ h => ?_) (h.of_but (s.withAllocator_but _) (by decide))
    exact ConditionsWait.reviewBlower h b
  have grants : (reviewed.writeGrants D C F).ConditionsWait := by
    refine State.each_induction _ (fun z _ _ h => ?_) hr
    exact ConditionsWait.of_but h (State.setZone_but _ _ _) (by decide)
  have hs : summed.ConditionsWait := grants.of_but (State.withAllocator_but _ _) (by decide)
  have hl : levelled.ConditionsWait := (hs.setShort (.inl rfl) _).setShort (.inr rfl) _
  have offered : (levelled.offerCommonSpeed G).ConditionsWait := by
    refine State.each_induction _ (fun b _ _ h => ?_) hl
    exact ConditionsWait.offerTo h _ _
  exact offered.stage D C

end ConditionsWait

/-- Where no watch follows a condition, the conditions that wait are taken without effect (R160). -/
theorem drain_of_conditions (points : ∀ w, (s.watches.get w).state = .off ∨ ∃ p, (s.watches.get w).config.subject = .point p)
    (conditions : s.ConditionsWait) : s.drain = s.withRaised [] := by
  refine drain_of_unheard fun ch mem w => (points w).imp_right ?_
  rintro ⟨p, subject⟩ same
  exact conditions ch mem p (same ▸ subject)

/-- In a calm part what an operation has raised is taken without effect. -/
theorem Calm.drain_of_but (calm : s.Calm) {c : List Part} (but : s.SameBut c t) (apart : Part.watches ∉ c) (conditions : t.ConditionsWait) :
    t.drain = t.withRaised [] := by
  have watches : t.watches = s.watches := but .watches apart
  exact drain_of_conditions (watches ▸ calm.points) conditions

/-! ### No lane enters ECONOMY but by its dwell or by request -/

/-- Every lane in ECONOMY was in ECONOMY before. -/
def NoNewEconomy (s t : State) : Prop := ∀ k, (t.lanes.get k).state.regime = .economy → (s.lanes.get k).state.regime = .economy

namespace NoNewEconomy

variable {u : State}

theorem refl (s : State) : s.NoNewEconomy s := fun _ => id

theorem trans (h : s.NoNewEconomy t) (k : t.NoNewEconomy u) : s.NoNewEconomy u := fun j economy => h j (k j economy)

theorem of_but {c : List Part} (but : s.SameBut c t) (apart : Part.lanes ∉ c) : s.NoNewEconomy t := by
  have lanes : t.lanes = s.lanes := but .lanes apart
  intro k
  rw [lanes]
  exact id

theorem each {α : Type} {f : α → State → State} (one : ∀ a s, NoNewEconomy s (f a s)) (l : List α) (s : State) : s.NoNewEconomy (s.each l f) := by
  induction l generalizing s with
  | nil => exact refl s
  | cons a l ih => exact (one a s).trans (ih (f a s))

theorem changeRegime {k : LaneIdx} {new : LaneState} (other : new.regime ≠ .economy) (s : State) : s.NoNewEconomy (s.changeRegime k new) := by
  intro j
  rw [changeRegime_lanes, Table.get_set]
  split
  · exact fun economy => absurd economy other
  · exact id

theorem tripIfWorking (k : LaneIdx) (cause : WatchIdx) (s : State) : s.NoNewEconomy (s.tripIfWorking k cause) := by
  unfold State.tripIfWorking
  split
  · have noted := of_but (s.capture_but (.trip k cause)) (by decide)
    refine (noted.trans (changeRegime (k := k) (new := .tripped cause) (by simp [LaneState.regime]) _)).trans ?_
    exact (of_but (eachWorking_but k _ _) (by decide)).trans (of_but (tripOutputs_but k _) (by decide))
  · exact refl s

theorem tripRequest (k : LaneIdx) (cause : WatchIdx) (s : State) : s.NoNewEconomy (s.tripRequest k cause) := by
  unfold State.tripRequest
  dsimp only
  split
  · refine (tripIfWorking k cause s).trans (each (fun j u => ?_) _ _)
    split
    · exact tripIfWorking j cause u
    · exact refl u
  · exact tripIfWorking k cause s

theorem actWakeAndFreeze (w : WatchIdx) (c : WatchConfig) (s : State) : s.NoNewEconomy (s.actWakeAndFreeze w c) := by
  have freezes (u : State) : u.NoNewEconomy (u.actFreeze c) := of_but (actFreeze_but c u) (by decide)
  have arms (u : State) : u.NoNewEconomy (u.armLinked w) := of_but (u.withWatches_but _) (by decide)
  have allocates (u : State) : u.NoNewEconomy u.allocate := of_but u.allocate_but (by decide)
  have wakes : s.NoNewEconomy (s.changeRegime c.targetLane .normal) := changeRegime (new := .normal) (by decide) s
  unfold State.actWakeAndFreeze
  split
  · extract_lets _ pick
    have picked : s.NoNewEconomy pick.2 := by
      by_cases freezes : c.doesFreeze = true
      · simp only [pick, if_pos freezes]
        exact wakes.trans (of_but (State.choose_but _ 2) (by decide))
      · simp only [pick, if_neg freezes]
        exact wakes
    split
    · exact ((picked.trans (allocates _)).trans (arms _)).trans (freezes _)
    · exact ((picked.trans (arms _)).trans (freezes _)).trans (allocates _)
  · exact (arms s).trans (freezes _)

theorem fire (w : WatchIdx) (value : Int) (s : State) : s.NoNewEconomy (s.fire w value) := by
  have marks (x : Watch) : s.NoNewEconomy (s.setWatch w x) := of_but (s.setWatch_but w x) (by decide)
  have notes (u : State) : u.NoNewEconomy (u.capture (.watchFired w value)) := of_but (u.capture_but _) (by decide)
  have sends (c : WatchConfig) (u : State) : u.NoNewEconomy (u.actNotice w c value) := of_but (State.actNotice_but w c value u) (by decide)
  have trips (c : WatchConfig) (u : State) : u.NoNewEconomy (u.actTrip w c) := by
    unfold State.actTrip
    split
    · exact tripRequest _ w u
    · exact refl u
  exact ((((marks _).trans (notes _)).trans (sends _ _)).trans (trips _ _)).trans (actWakeAndFreeze w _ _)

theorem evaluateWatch (ch : Change) (w : WatchIdx) (s : State) : s.NoNewEconomy (s.evaluateWatch ch w) := by
  have set (x : Watch) (u : State) : u.NoNewEconomy (u.setWatch w x) := of_but (u.setWatch_but w x) (by decide)
  have count (truth : Bool) (value : Int) (u : State) : u.NoNewEconomy (u.count w truth value) := by
    unfold State.count
    dsimp only
    split
    · split
      · exact fire w _ _
      · exact set _ _
    · exact set _ _
  unfold State.evaluateWatch
  dsimp only
  split
  · exact refl s
  · split
    · exact refl s
    · split
      · exact (set _ s).trans (count _ _ _)
      · exact set _ s

theorem drain (s : State) : s.NoNewEconomy s.drain := by
  have rounds (n : Nat) (s : State) : s.NoNewEconomy (s.drainRounds n) := by
    induction n generalizing s with
    | zero => exact refl s
    | succ n ih =>
      unfold State.drainRounds
      split
      · exact refl s
      · refine NoNewEconomy.trans ?_ (ih _)
        exact each (fun ch u => each (evaluateWatch ch) _ u) _ _
  exact rounds 33 s

end NoNewEconomy

theorem wakeLane_noNewEconomy (k : LaneIdx) (s : State) : (s.changeRegime k .normal).NoNewEconomy (s.wakeLane k) :=
  (NoNewEconomy.of_but (allocate_but _) (by decide)).trans (.drain _)

theorem wakeLane_economy (j k : LaneIdx) (s : State) (economy : ((s.wakeLane k).lanes.get j).state.regime = .economy) :
    j ≠ k ∧ (s.lanes.get j).state.regime = .economy := by
  have before := wakeLane_noNewEconomy k s j economy
  rw [changeRegime_lanes] at before
  by_cases same : k = j
  · subst same
    rw [Table.get_set_self] at before
    cases before
  · rw [Table.get_set_other _ _ (Ne.symm same)] at before
    exact ⟨Ne.symm same, before⟩

/-- In a calm part a wake changes its own lane and no other, and the part stays calm. -/
theorem Calm.wakeLane (calm : s.Calm) (k : LaneIdx) : (s.wakeLane k).Calm ∧
    (s.wakeLane k).lanes = s.lanes.set k { s.lanes.get k with state := .normal, dwell := 0 } := by
  have but : s.SameBut ([.lanes, .zones, .history] ++ allocationParts) (s.changeRegime k .normal).allocate :=
    ((changeRegime_but k .normal s).mono (by decide)).trans ((allocate_but _).mono (by decide))
  have raised : (s.changeRegime k .normal).raised = [] := (changeRegime_but k .normal s .raised (by decide)).trans calm.raised
  have conditions := (ConditionsWait.of_none raised).allocate
  have lanes : (s.changeRegime k .normal).allocate.lanes = (s.changeRegime k .normal).lanes := allocate_but _ .lanes (by decide)
  obtain ⟨t, allocated⟩ : ∃ t, (s.changeRegime k .normal).allocate = t := ⟨_, rfl⟩
  rw [allocated] at but conditions lanes
  have taken : s.wakeLane k = t.withRaised [] := by
    rw [State.wakeLane, allocated]
    exact calm.drain_of_but but (by decide) conditions
  have watches : t.watches = s.watches := but .watches (by decide)
  rw [taken]
  exact ⟨⟨rfl, watches ▸ calm.points⟩, lanes.trans (changeRegime_lanes k _ s)⟩

/-! ### The wake checks (R66, R67) -/

section

variable {R : Lane → Prop} [DecidablePred R]

/-- The lanes of a list woken one after another, each checked as it stands when its turn comes. -/
def wakeWhere (R : Lane → Prop) [DecidablePred R] (l : List LaneIdx) (s : State) : State :=
  l.foldl (fun u k => if R (u.lanes.get k) then u.wakeLane k else u) s

theorem wakeWhere_nil (s : State) : s.wakeWhere R [] = s := rfl

theorem wakeWhere_cons (k : LaneIdx) (l : List LaneIdx) (s : State) :
    s.wakeWhere R (k :: l) = (if R (s.lanes.get k) then s.wakeLane k else s).wakeWhere R l := rfl

theorem wakeWhere_of_none (l : List LaneIdx) (none : ∀ k ∈ l, ¬R (s.lanes.get k)) : s.wakeWhere R l = s := by
  induction l with
  | nil => rfl
  | cons k l ih =>
    rw [wakeWhere_cons, if_neg (none k (List.mem_cons_self ..))]
    exact ih fun j mem => none j (List.mem_cons_of_mem k mem)

/-- Where one lane alone is in ECONOMY, only it can wake. -/
theorem wakeWhere_of_one {k : LaneIdx} (economy : ∀ l, R l → l.state.regime = .economy) (wakes : R (s.lanes.get k))
    (others : ∀ j, j ≠ k → (s.lanes.get j).state.regime ≠ .economy) (l : List LaneIdx) (mem : k ∈ l) : s.wakeWhere R l = s.wakeLane k := by
  induction l with
  | nil => cases mem
  | cons j l ih =>
    rw [wakeWhere_cons]
    by_cases same : j = k
    · subst same
      rw [if_pos wakes]
      refine wakeWhere_of_none l fun i _ does => ?_
      obtain ⟨other, was⟩ := wakeLane_economy i j s (economy _ does)
      exact others i other was
    · rw [if_neg fun does => others j same (economy _ does)]
      exact ih ((List.mem_cons.1 mem).resolve_left (Ne.symm same))

/-- Where no watch follows a condition, the lanes that wake are those that qualify at the start. -/
theorem Calm.wakeWhere (calm : s.Calm) (l : List LaneIdx) (distinct : l.Nodup) :
    s.wakeWhere R l = (l.filter fun k => decide (R (s.lanes.get k))).foldl (fun u k => u.wakeLane k) s := by
  induction l generalizing s with
  | nil => rw [wakeWhere_nil, List.filter_nil, List.foldl_nil]
  | cons k l ih =>
    obtain ⟨fresh, distinct⟩ := List.nodup_cons.1 distinct
    rw [wakeWhere_cons, List.filter_cons]
    by_cases wakes : R (s.lanes.get k)
    · obtain ⟨stays, lanes⟩ := calm.wakeLane k
      rw [if_pos wakes, if_pos (decide_eq_true wakes), ih stays distinct, List.foldl_cons]
      refine congrArg (List.foldl (fun u k => State.wakeLane k u) (State.wakeLane k s)) (List.filter_congr fun j mem => ?_)
      rw [lanes, Table.get_set_other _ _ fun (eq : j = k) => fresh (eq ▸ mem)]
    · rw [if_neg wakes, if_neg (by simpa using wakes), ih calm distinct]

end

end State

/-- An ammonia update of the value at the point wakes the lane (R66). -/
abbrev Lane.WokenByAmmonia (p : PointIdx) (v : Int) (l : Lane) : Prop :=
  l.state.regime = .economy ∧ l.config.wakeMask.getLsbD 0 = true ∧ l.config.ammoniaPoint = some p ∧ l.config.wakeAmmonia ≤ v

/-- An influent update of the value wakes the lane (R67). -/
abbrev Lane.WokenByInfluent (v : Int) (l : Lane) : Prop :=
  l.state.regime = .economy ∧ l.config.wakeMask.getLsbD 1 = true ∧ l.config.wakeInfluent ≤ v

theorem Lane.wakesByAmmonia_iff (l : Lane) (p : PointIdx) : l.wakesByAmmonia p = true ↔
    l.state.regime = .economy ∧ l.config.wakeMask.getLsbD 0 = true ∧ l.config.ammoniaPoint = some p := by
  simp [Lane.wakesByAmmonia, State.isEconomy_iff, and_assoc]

theorem Lane.wakesByInfluent_iff (l : Lane) : l.wakesByInfluent = true ↔ l.state.regime = .economy ∧ l.config.wakeMask.getLsbD 1 = true := by
  simp [Lane.wakesByInfluent, State.isEconomy_iff]

namespace State

variable {s : State}

theorem checkAmmonia_eq (p : PointIdx) (v : Int) (s : State) : s.checkAmmonia p v = s.wakeWhere (Lane.WokenByAmmonia p v) (indices 8) := by
  unfold checkAmmonia wakeWhere each
  refine congrArg (fun f => List.foldl f s (indices 8)) (funext fun u => funext fun k => if_congr ?_ rfl rfl)
  rw [Bool.and_eq_true, Lane.wakesByAmmonia_iff, decide_eq_true_iff, and_assoc, and_assoc]

theorem checkInfluent_eq (v : Int) (s : State) : s.checkInfluent v = s.wakeWhere (Lane.WokenByInfluent v) (indices 8) := by
  unfold checkInfluent wakeWhere each
  refine congrArg (fun f => List.foldl f s (indices 8)) (funext fun u => funext fun k => if_congr ?_ rfl rfl)
  rw [Bool.and_eq_true, Lane.wakesByInfluent_iff, decide_eq_true_iff, and_assoc]

/-- A change of a lane's regime with the AIR_ON demand written out (R54, R96, R97). -/
theorem changeRegime_full (k : LaneIdx) (new : LaneState) (s : State) : s.changeRegime k new =
    ((s.withZones (Table.build fun z =>
      if (s.lanes.get k).state.regime = .economy ∧ laneOf z = k ∧ s.follows z = true ∧ (s.zones.get z).offDemand = true then
        { s.zones.get z with
          demand := (clampInt (s.zones.get z).config.minAir (s.zones.get z).config.maxAir
            ((s.zones.get z).config.biasAir + (s.zones.get z).integral.tdiv 256)).toNat
          offDemand := false }
      else s.zones.get z)).withLanes (s.lanes.set k { s.lanes.get k with state := new, dwell := 0 })).capture
      (.regime k (s.lanes.get k).state.regime new.regime) := by
  rw [changeRegime_eq]
  refine congrArg (fun f => ((s.withZones (Table.build f)).withLanes _).capture _) (funext fun z => ?_)
  exact (ite_and ..).symm

/-! ### Storm detection (R60, R61) -/

theorem detectStorm_of_inactive (inactive : s.plant.storm = false) (v : Int) :
    s.detectStorm v = if s.plant.config.enterLevel ≤ v then (s.changeStorm true).drain else s := by
  unfold detectStorm
  dsimp only
  rw [inactive]
  rfl

theorem detectStorm_of_active (active : s.plant.storm = true) (v : Int) : s.detectStorm v = s.withPlant { s.plant with
    exitHold := if v ≤ s.plant.config.exitLevel then some (s.plant.exitHold.getD (s.plant.config.stormHold * 10)) else none } := by
  unfold detectStorm
  dsimp only
  rw [if_pos active]
  by_cases falls : v ≤ s.plant.config.exitLevel
  · rw [if_pos falls, if_pos falls]
    cases hold : s.plant.exitHold with
    | none => rfl
    | some n =>
      have same : { s.plant with exitHold := some n } = s.plant := by rw [← hold]
      simp only [Option.getD_some, same, withPlant_self]
  · rw [if_neg falls, if_neg falls]

/-! ### The dependants (R45) -/

/-- The dependants in their order, each there by its own condition (R45). -/
abbrev dependantList (watches storm influent ammonia : Bool) : List Dependant :=
  (if watches then [.watches] else []) ++ (if storm then [.storm] else []) ++ (if influent then [.influentWake] else []) ++
    (if ammonia then [.ammoniaWake] else [])

variable {p : PointIdx}

theorem dependants_eq (s : State) (p : PointIdx) : s.dependants p =
    dependantList (s.watches.rows.any fun w => w.state != .off && w.config.subject == .point p)
      (s.plant.config.influentPoint == some p && (s.points.get p).state.usable.isSome)
      (s.plant.config.influentPoint == some p && (s.points.get p).state.usable.isSome && s.lanes.rows.any (·.wakesByInfluent))
      ((s.points.get p).state.usable.isSome && s.lanes.rows.any (·.wakesByAmmonia p)) := rfl

theorem mem_dependantList (w s i a : Bool) : (Dependant.watches ∈ dependantList w s i a ↔ w = true) ∧
    (Dependant.storm ∈ dependantList w s i a ↔ s = true) ∧ (Dependant.influentWake ∈ dependantList w s i a ↔ i = true) ∧
    (Dependant.ammoniaWake ∈ dependantList w s i a ↔ a = true) ∧ (dependantList w s i a).Nodup := by
  decide +revert

theorem watches_mem_dependants : Dependant.watches ∈ s.dependants p ↔
    ∃ w, (s.watches.get w).state ≠ .off ∧ (s.watches.get w).config.subject = .point p := by
  obtain ⟨mem, -⟩ := mem_dependantList _ _ _ _
  rw [dependants_eq, mem, Table.any_rows]
  simp

theorem storm_mem_dependants : Dependant.storm ∈ s.dependants p ↔
    s.plant.config.influentPoint = some p ∧ (s.points.get p).state.usable.isSome = true := by
  obtain ⟨-, mem, -⟩ := mem_dependantList _ _ _ _
  rw [dependants_eq, mem, Bool.and_eq_true, beq_iff_eq]

theorem influentWake_mem_dependants : Dependant.influentWake ∈ s.dependants p ↔
    s.plant.config.influentPoint = some p ∧ (s.points.get p).state.usable.isSome = true ∧
      ∃ k, (s.lanes.get k).state.regime = .economy ∧ (s.lanes.get k).config.wakeMask.getLsbD 1 = true := by
  obtain ⟨-, -, mem, -⟩ := mem_dependantList _ _ _ _
  rw [dependants_eq, mem, Bool.and_eq_true, Bool.and_eq_true, beq_iff_eq, Table.any_rows, and_assoc]
  simp only [Lane.wakesByInfluent_iff]

theorem ammoniaWake_mem_dependants : Dependant.ammoniaWake ∈ s.dependants p ↔ (s.points.get p).state.usable.isSome = true ∧
    ∃ k, (s.lanes.get k).state.regime = .economy ∧ (s.lanes.get k).config.wakeMask.getLsbD 0 = true ∧
      (s.lanes.get k).config.ammoniaPoint = some p := by
  obtain ⟨-, -, -, mem, -⟩ := mem_dependantList _ _ _ _
  rw [dependants_eq, mem, Bool.and_eq_true, Table.any_rows]
  simp only [Lane.wakesByAmmonia_iff]

theorem dependants_nodup : (s.dependants p).Nodup := by
  obtain ⟨-, -, -, -, nodup⟩ := mem_dependantList _ _ _ _
  exact nodup

/-! ### The order of the dependants (R45) -/

theorem takeUpdate_storm {v : Int} (usable : (s.points.get p).state.usable = some v) : s.takeUpdate p .storm = s.detectStorm v := by
  unfold takeUpdate
  rw [usable]

theorem takeUpdate_influentWake {v : Int} (usable : (s.points.get p).state.usable = some v) : s.takeUpdate p .influentWake = s.checkInfluent v := by
  unfold takeUpdate
  rw [usable]

theorem takeUpdate_ammoniaWake {v : Int} (usable : (s.points.get p).state.usable = some v) : s.takeUpdate p .ammoniaWake = s.checkAmmonia p v := by
  unfold takeUpdate
  rw [usable]

theorem takeUpdates_nil (s : State) : s.takeUpdates p 0 [] = s := rfl

theorem takeUpdates_one (d : Dependant) (s : State) : s.takeUpdates p 1 [d] = s.takeUpdate p d := rfl

/-- One of several dependants is taken first, whichever the free value names. -/
theorem takeUpdates_many (ds : List Dependant) (many : 2 ≤ ds.length) (s : State) : ∃ i d, ds[i]? = some d ∧
    s.takeUpdates p ds.length ds = ((s.withFreeIndex (s.freeIndex + 1)).takeUpdate p d).takeUpdates p (ds.length - 1) (ds.eraseIdx i) := by
  have inside : Config.freeOrder s.freeIndex % ds.length < ds.length := Nat.mod_lt _ (by omega)
  refine ⟨_, ds[Config.freeOrder s.freeIndex % ds.length], List.getElem?_eq_getElem inside, ?_⟩
  have chosen : s.choose ds.length = (Config.freeOrder s.freeIndex % ds.length, s.withFreeIndex (s.freeIndex + 1)) := if_neg (by omega)
  obtain ⟨n, length⟩ : ∃ n, ds.length = n + 1 := ⟨ds.length - 1, by omega⟩
  have first : s.takeUpdates p (n + 1) ds = match ds[(s.choose ds.length).1]? with
      | .none => s
      | some d => ((s.choose ds.length).2.takeUpdate p d).takeUpdates p n (ds.eraseIdx (s.choose ds.length).1) := rfl
  rw [show s.takeUpdates p ds.length ds = s.takeUpdates p (n + 1) ds by rw [length], first, chosen]
  dsimp only
  rw [List.getElem?_eq_getElem inside, show ds.length - 1 = n by omega]

end State

/-- Settles O22: the dependants by their conditions, the wake checks as one fold over the lanes, and a change of regime in full. -/
theorem influentAndAmmoniaUpdatesMoveTheLanes : Obligations.InfluentAndAmmoniaUpdatesMoveTheLanes := by
  refine ⟨fun s v => ?_, fun s p => ?_⟩
  · intro byAmmonia byInfluent
    have lane (k : LaneIdx) : k ∈ indices 8 := mem_indices k
    refine ⟨fun inactive => State.detectStorm_of_inactive inactive v, fun active => State.detectStorm_of_active active v, fun k => rfl,
      fun k new => ?_, fun p => ⟨?_, fun none => ?_, fun k wakes others => ?_, fun calm => ?_⟩, ?_, fun none => ?_, fun k wakes others => ?_,
      fun calm => ?_⟩
    · exact State.changeRegime_full k new s
    · exact State.checkAmmonia_eq p v s
    · rw [State.checkAmmonia_eq]
      exact State.wakeWhere_of_none _ fun k _ => none k
    · have woken : Lane.WokenByAmmonia p v (s.lanes.get k) := wakes
      have one := State.wakeWhere_of_one (fun _ does => does.left) woken others (indices 8) (lane k)
      rw [State.checkAmmonia_eq, one]
    · rw [State.checkAmmonia_eq, calm.wakeWhere _ (indices_nodup 8)]
    · exact State.checkInfluent_eq v s
    · rw [State.checkInfluent_eq]
      exact State.wakeWhere_of_none _ fun k _ => none k
    · have woken : Lane.WokenByInfluent v (s.lanes.get k) := wakes
      have one := State.wakeWhere_of_one (fun _ does => does.left) woken others (indices 8) (lane k)
      rw [State.checkInfluent_eq, one]
    · rw [State.checkInfluent_eq, calm.wakeWhere _ (indices_nodup 8)]
  · intro usable economy
    refine ⟨fun _ _ => rfl, State.watches_mem_dependants, State.storm_mem_dependants, State.influentWake_mem_dependants,
      State.ammoniaWake_mem_dependants, State.dependants_nodup, rfl, fun v value => ?_, rfl, fun none => ?_, fun d one => ?_, fun ds =>
      ⟨fun none => ?_, fun d one => ?_, fun many => State.takeUpdates_many ds many s⟩⟩
    · exact ⟨State.takeUpdate_storm value, State.takeUpdate_influentWake value, State.takeUpdate_ammoniaWake value⟩
    · unfold State.updateEvent
      rw [none]
      rfl
    · unfold State.updateEvent
      rw [one]
      rfl
    · rw [none]
      rfl
    · rw [one]
      rfl

end Sys2Proof.Machine
end

section
/-! A lane's period: the pending set, the dwell, and the turns of an economy cycle (R56, R58, R64, R65, R95, R96). -/
namespace Sys2Proof.Machine

namespace State

variable {s t : State} {k : LaneIdx}

/-! ### The pending set (R56) -/

theorem appliedZone_eq (zn : Zone) (c : ZoneConfig) (was will : Bool) : zn.applied c was will =
    if will = true ∧ ¬was = true then { zn with config := c, demand := 0, offDemand := false }
    else if was = true ∧ ¬will = true then Zone.initial c
    else { zn with config := c } := by
  cases was <;> cases will <;> rfl

theorem applyPending_zone {p : Pending} (pending : (s.lanes.get k).pending = some p) (i : Fin 4) :
    (s.applyPending k).zones.get (zoneAt k i) = (s.zones.get (zoneAt k i)).applied (p.zones.get i) ((s.lanes.get k).idles i)
      (Lane.idles { s.lanes.get k with config := p.lane, pending := none } i) := by
  rw [applyPending_zones pending, if_pos (laneOf_zoneAt k i), placeOf_zoneAt, Lane.taken_of_some pending]

theorem applyPending_eq (k : LaneIdx) (s : State) :
    s.applyPending k = (s.withLanes (s.applyPending k).lanes).withZones (s.applyPending k).zones := by
  refine (applyPending_but k s).eq_of (((s.withLanes_but _).mono (by decide)).trans ((State.withZones_but _ _).mono (by decide))) ?_
  intro p mem
  simp only [List.mem_cons, List.not_mem_nil, or_false] at mem
  obtain rfl | rfl := mem <;> rfl

/-! ### The dwell (R64, R65) -/

/-- The ammonia is low enough for the economy dwell to grow (R64). -/
abbrev AmmoniaLow (s : State) (l : Lane) : Prop := l.config.autoEconomy = true ∧ s.plant.storm = false ∧
  ∃ a, s.usable l.config.ammoniaPoint = some a ∧ a ≤ l.config.enterLevel

theorem dwells_iff (s : State) (l : Lane) : s.dwells l = true ↔ s.AmmoniaLow l := by
  unfold dwells
  cases ammonia : s.usable l.config.ammoniaPoint <;> simp [ammonia, and_assoc]

theorem evaluateDwell_of_other (other : (s.lanes.get k).state.regime ≠ .normal) (ended : Nat) : s.evaluateDwell k ended = s := by
  unfold evaluateDwell
  dsimp only
  split
  · next normal => exact absurd (congrArg LaneState.regime normal) other
  all_goals rfl

theorem evaluateDwell_of_normal (normal : (s.lanes.get k).state = .normal) (ended : Nat) : s.evaluateDwell k ended =
    if s.dwells (s.lanes.get k) then
      if (s.lanes.get k).config.dwellMinutes * 60 ≤ (s.lanes.get k).dwell + ended then
        s.changeRegime k (.economy (s.newCycle (s.lanes.get k).config))
      else s.setLane k { s.lanes.get k with dwell := (s.lanes.get k).dwell + ended }
    else s.setLane k { s.lanes.get k with dwell := 0 } := by
  unfold evaluateDwell
  dsimp only
  rw [normal]

/-- A lane outside ECONOMY has no cycle to end as its regime changes. -/
theorem changeRegime_of_no_cycle (other : (s.lanes.get k).state.regime ≠ .economy) (new : LaneState) : s.changeRegime k new =
    (s.withLanes (s.lanes.set k { s.lanes.get k with state := new, dwell := 0 })).capture (.regime k (s.lanes.get k).state.regime new.regime) := by
  have same : s.regimeLeft k = s.zones.get := funext fun z => if_neg other
  rw [changeRegime_eq, same, Table.build_get, withZones_self]

end State

/-- Settles O23: the pending set zone by zone, and the dwell by the lane's regime and its ammonia. -/
theorem lanePeriodAppliesAndDwells : Obligations.LanePeriodAppliesAndDwells := by
  refine ⟨fun s k p pending => ?_, fun s k none => State.applyPending_of_none none, fun s k ended => ?_⟩
  · intro l was will
    have was_iff (i) : l.idles i = true ↔ was i := l.idles_iff i
    have will_iff (i) : Lane.idles { l with config := p.lane, pending := none } i = true ↔ will i := Lane.idles_iff _ i
    refine ⟨?_, fun i => ?_, fun z other => ?_, State.applyPending_eq k s⟩
    · rw [State.applyPending_lanes, Lane.taken_of_some pending]
    · rw [State.applyPending_zone pending, State.appliedZone_eq]
      simp only [← was_iff, ← will_iff]
      congr
    · rw [State.applyPending_zones pending, if_neg other]
  · intro l low
    have low_iff : s.dwells l = true ↔ low := s.dwells_iff l
    refine ⟨fun other => State.evaluateDwell_of_other other ended, fun normal high => ?_, fun normal dwells short => ?_,
      fun normal dwells long => ?_⟩
    · exact (State.evaluateDwell_of_normal normal ended).trans (if_neg (mt low_iff.1 high))
    · exact ((State.evaluateDwell_of_normal normal ended).trans (if_pos (low_iff.2 dwells))).trans (if_neg (Nat.not_le.2 short))
    · refine ((State.evaluateDwell_of_normal normal ended).trans (if_pos (low_iff.2 dwells))).trans ((if_pos long).trans ?_)
      have regime : (s.lanes.get k).state.regime = .normal := congrArg LaneState.regime normal
      rw [State.changeRegime_of_no_cycle (by rw [regime]; decide), regime]
      rfl

/-! ### The turns of an economy cycle (R95, R96) -/

/-- A zone that follows its lane's cycle as a phase begins (R96). -/
def Zone.inPhase (zn : Zone) : Phase → Zone
  | .airOff => zn.airOff
  | .airOn => zn.airOn

namespace State

variable {s : State} {k : LaneIdx}

theorem phaseChange_eq (k : LaneIdx) (p : Phase) (s : State) : s.phaseChange k p =
    s.withZones (Table.build fun z => if laneOf z = k ∧ s.follows z = true then (s.zones.get z).inPhase p else s.zones.get z) := by
  unfold phaseChange
  rw [each_zones (g := fun z zn => if zn.cycles (s.isIdle z) then zn.inPhase p else zn) (fun z x => ?_) _ (zonesOf_nodup k)]
  · refine congrArg s.withZones (Table.ext_get fun z => ?_)
    rw [Table.get_build, Table.get_build]
    simp only [mem_zonesOf, ← ite_and, follows_eq]
    congr
  · cases p
    all_goals
      refine (ite_congr rfl (fun _ => rfl) fun _ => ?_ : _ = if (x.get z).cycles (s.isIdle z) then s.withZones (x.set z _) else _).trans
        (apply_ite (fun r => s.withZones (x.set z r)) _ _ _).symm
      rw [Table.set_get]

theorem phaseExpires_of_economy {c : Cycle} (economy : (s.lanes.get k).state = .economy c) : s.phaseExpires k = s.advancePhase k c := by
  unfold phaseExpires
  rw [economy]

theorem phaseTimer_isSome_iff (l : LaneState) : l.phaseTimer.isSome = true ↔ l.regime = .economy := by
  cases l <;> simp [LaneState.phaseTimer, LaneState.cycle?, LaneState.regime]

/-- A cycle's first phase: AIR_OFF for the whole cycle where the AIR_ON length is 0 (R96). -/
theorem cycleStart_eq (f length : Nat) : Cycle.start f length =
    if length * f / 64 = 0 then { phase := .airOff, onFraction := f, onLength := 0, offLength := length, timer := length * 10 }
    else { phase := .airOn, onFraction := f, onLength := length * f / 64, offLength := length - length * f / 64
           timer := length * f / 64 * 10 } := by
  unfold Cycle.start
  by_cases none : length * f / 64 = 0
  · rw [if_pos none, none]
    rfl
  · rw [if_neg none, if_neg none]
    rfl

/-- A new cycle written out (R95, R96). -/
theorem newCycle_eq (c : LaneConfig) (bounded : c.minimumOn ≤ 64) (s : State) : s.newCycle c =
    let on64 : Int := clampInt c.minimumOn 64 (match s.usable c.ammoniaPoint with
      | some a => c.baseOn + ((a - c.ammoniaTarget) * c.onSlope).tdiv 1000
      | none => c.baseOn)
    let on := c.cycleLength * on64.toNat / 64
    if on = 0 then { phase := .airOff, onFraction := on64.toNat, onLength := 0, offLength := c.cycleLength, timer := c.cycleLength * 10 }
    else { phase := .airOn, onFraction := on64.toNat, onLength := on, offLength := c.cycleLength - on, timer := on * 10 } := by
  have fraction : c.onFraction (s.usable c.ammoniaPoint) = (clampInt c.minimumOn 64 (match s.usable c.ammoniaPoint with
      | some a => c.baseOn + ((a - c.ammoniaTarget) * c.onSlope).tdiv 1000
      | none => c.baseOn)).toNat := by
    unfold LaneConfig.onFraction
    dsimp only
    rw [if_neg (by omega)]
    cases s.usable c.ammoniaPoint <;> rfl
  unfold newCycle
  rw [fraction, cycleStart_eq]

/-- The lane's state does not say which of its zones follow the cycle, so long as it stays in ECONOMY. -/
theorem setLane_follows {l : Lane} (regime : l.state.regime = .offline ↔ (s.lanes.get k).state.regime = .offline)
    (count : l.config.zoneCount = (s.lanes.get k).config.zoneCount) (z : ZoneIdx) : (s.setLane k l).follows z = s.follows z := by
  have idle : (s.setLane k l).isIdle z = s.isIdle z := by
    unfold isIdle laneOfZone setLane
    rw [withLanes_lanes, Table.get_set]
    split
    · next mine => rw [← mine]; exact Lane.idles_congr regime count _
    · rfl
  rw [follows_eq, follows_eq, idle]
  rfl

/-- The cycle as its phase timer expires: AIR_OFF for its length, or a new cycle (R96). -/
def turned (c new : Cycle) : Cycle := if c.phase = .airOn ∧ c.offLength ≠ 0 then { c with phase := .airOff, timer := c.offLength * 10 } else new

theorem advancePhase_of_turned {c next : Cycle} (turns : turned c (s.newCycle (s.lanes.get k).config) = next) : s.advancePhase k c =
    if next.phase = c.phase then s.setLane k { s.lanes.get k with state := .economy next }
    else (s.setLane k { s.lanes.get k with state := .economy next }).phaseChange k next.phase := by
  subst turns
  rfl

/-- The turn of a phase in full: the lane's cycle, and the zones that follow it where the phase is another (R96). -/
theorem advancePhase_eq {c next : Cycle} (economy : (s.lanes.get k).state = .economy c)
    (turns : turned c (s.newCycle (s.lanes.get k).config) = next) :
    s.advancePhase k c = (s.withLanes (s.lanes.set k { s.lanes.get k with state := .economy next })).withZones (Table.build fun z =>
      if laneOf z = k ∧ s.follows z = true ∧ next.phase ≠ c.phase then (s.zones.get z).inPhase next.phase else s.zones.get z) := by
  have follows (z) : (s.setLane k { s.lanes.get k with state := .economy next }).follows z = s.follows z :=
    setLane_follows (l := { s.lanes.get k with state := .economy next }) (by rw [economy]; simp [LaneState.regime]) rfl z
  rw [advancePhase_of_turned turns]
  by_cases same : next.phase = c.phase
  · rw [if_pos same]
    have kept : (Table.build fun z => if laneOf z = k ∧ s.follows z = true ∧ next.phase ≠ c.phase then (s.zones.get z).inPhase next.phase
        else s.zones.get z) = s.zones := by
      refine Table.ext_get fun z => ?_
      rw [Table.get_build, if_neg fun ⟨_, _, turns⟩ => turns same]
    rw [kept]
    rfl
  · rw [if_neg same, phaseChange_eq]
    refine congrArg (State.withZones _) (Table.ext_get fun z => ?_)
    rw [Table.get_build, Table.get_build, follows]
    exact if_congr (by simp [same]) rfl rfl

end State

/-- Settles O25: the turn of a phase, with the new cycle written out. -/
theorem phaseExpiryTurnsTheCycle : Obligations.PhaseExpiryTurnsTheCycle := by
  intro s k running
  refine ⟨fun other => ?_, fun c raised economy => ?_⟩
  · exact congrArg Host.Outcome.next (State.expire_of_unset (by rw [← Bool.not_eq_true, State.phaseTimer_isSome_iff]; exact other))
  · intro l on64 on next bounded
    have turns : State.turned c (s.newCycle (s.lanes.get k).config) = next := by
      rw [State.newCycle_eq _ bounded]
      rfl
    have timed : (s.lanes.get k).state.phaseTimer.isSome = true := (State.phaseTimer_isSome_iff _).2 (by rw [economy]; rfl)
    refine congrArg Host.Outcome.next ((State.expire_of_running running timed).trans ?_)
    rw [State.phaseExpires_of_economy economy, State.advancePhase_eq economy turns]
    refine (State.drain_of_raised_nil (by exact raised)).trans (congrArg (State.withZones _) (Table.ext_get fun z => ?_))
    rw [Table.get_build, Table.get_build]
    split
    · cases next.phase <;> rfl
    · rfl

end Sys2Proof.Machine
end

section
/-! The computation of a lane's zones at its period: the mode, the branch, and the valve's trim (R58, R82 to R94). -/
namespace Sys2Proof.Machine

/-- A zone that has decided its mode: a change into DO_CONTROL sets re-seed pending (R83, R84). -/
def Zone.decided (zn : Zone) (m : Mode) : Zone :=
  { zn with mode := m, reseed := zn.reseed || (m == .doControl && zn.mode != .doControl) }

theorem Zone.decided_same (zn : Zone) : zn.decided zn.mode = zn := by
  have reseed : (zn.reseed || (zn.mode == .doControl && zn.mode != .doControl)) = zn.reseed := by cases zn.mode <;> exact Bool.or_false _
  unfold decided
  rw [reseed]

theorem Zone.decided_other {zn : Zone} {m : Mode} (other : zn.mode ≠ m) : zn.decided m = zn.withMode m := by
  have reseed : (zn.reseed || (m == .doControl && zn.mode != .doControl)) = (zn.reseed || m == .doControl) := by
    cases m
    case doControl => simp [other]
    all_goals rfl
  unfold decided withMode
  rw [reseed]

namespace State

variable {s t : State} {z : ZoneIdx}

/-! ### What an offer leaves in the output table -/

/-- An offer rewrites the record of the output it is for, and leaves its configuration and its state. -/
theorem offer_outputs (o : OutputIdx) (v : Int) (s : State) : ∃ r, (s.offer o v).outputs = s.outputs.set o r ∧
    r.config = (s.outputs.get o).config ∧ r.state = (s.outputs.get o).state := by
  have same : ∃ r, s.outputs = s.outputs.set o r ∧ r.config = (s.outputs.get o).config ∧ r.state = (s.outputs.get o).state :=
    ⟨_, (Table.set_get s.outputs o).symm, rfl, rfl⟩
  unfold offer
  dsimp only
  split
  · exact same
  · split
    · exact same
    · split
      · obtain ⟨u, outputs⟩ := sendValue_outputs o ((s.outputs.get o).config.limit v) s
        exact ⟨_, outputs, Output.sent_config .., Output.sent_state ..⟩
      · exact same

theorem offer_other {o p : OutputIdx} (other : p ≠ o) (v : Int) (s : State) : (s.offer o v).outputs.get p = s.outputs.get p := by
  obtain ⟨r, outputs, -⟩ := offer_outputs o v s
  rw [outputs, Table.get_set_other _ _ other]

theorem offer_state (o p : OutputIdx) (v : Int) (s : State) : ((s.offer o v).outputs.get p).state = (s.outputs.get p).state := by
  obtain ⟨r, outputs, -, state⟩ := offer_outputs o v s
  rw [outputs, Table.get_set]
  split
  · next same => rw [state, same]
  · rfl

/-! ### The mode (R83, R84) -/

/-- The history once a zone has decided its mode: an entry where it changed (R84). -/
abbrev modeNoted (s : State) (z : ZoneIdx) : History :=
  if s.modeDecided z = (s.zones.get z).mode then s.history
  else s.history.capture s.timeCount (.zoneMode z (s.zones.get z).mode (s.modeDecided z))

theorem modeOf_eq_decided (z : ZoneIdx) (s : State) : s.modeOf (s.zones.get z).config = s.modeDecided z := by
  have supervised : s.isSupervised (s.zones.get z).config.valveOutput = true ↔
      ∃ o, (s.zones.get z).config.valveOutput = some o ∧ (s.outputs.get o).state = .supervised := by
    unfold isSupervised
    cases (s.zones.get z).config.valveOutput <;> simp
  unfold modeOf modeDecided
  dsimp only
  by_cases held : ∃ o, (s.zones.get z).config.valveOutput = some o ∧ (s.outputs.get o).state = .supervised
  · rw [if_pos (supervised.2 held), if_pos held]
  · rw [if_neg (mt supervised.1 held), if_neg held]
    cases s.usable (s.zones.get z).config.doPoint <;> rfl

theorem decideMode_eq (z : ZoneIdx) (s : State) :
    s.decideMode z = (s.withZones (s.zones.set z ((s.zones.get z).decided (s.modeDecided z)))).withHistory (s.modeNoted z) := by
  unfold decideMode modeNoted
  dsimp only
  rw [modeOf_eq_decided]
  by_cases same : (s.zones.get z).mode = s.modeDecided z
  · rw [if_pos same, if_pos same.symm, ← same, Zone.decided_same, Table.set_get, withZones_self]
    rfl
  · rw [if_neg same, if_neg (Ne.symm same), Zone.decided_other same]
    rfl

end State

theorem Lane.isTripped_iff (l : Lane) : l.isTripped = true ↔ l.state.regime = .tripped := beq_iff_eq

/-! ### The PI branch (R90 to R92) -/

/-- Integration is skipped where it would drive the demand past a bound or up against a cut grant (R92). -/
abbrev Zone.Skips (zn : Zone) (e p : Int) : Prop :=
  (zn.config.maxAir < zn.config.biasAir + p + zn.integral.tdiv 256 ∧ 0 < e) ∨
    (zn.config.biasAir + p + zn.integral.tdiv 256 < zn.config.minAir ∧ e < 0) ∨ (zn.cut = true ∧ 0 < e)

theorem Zone.integrates_iff (zn : Zone) (e p : Int) : zn.integrates e p = true ↔ ¬zn.Skips e p := by
  rw [integrates, Bool.not_eq_true', ← Bool.not_eq_true]
  simp only [Bool.or_eq_true, Bool.and_eq_true, decide_eq_true_iff, or_assoc]
  rfl

/-- The integral after a computation (R91, R92). -/
theorem Zone.nextIntegral_eq (zn : Zone) (e p : Int) (ended : Nat) : zn.nextIntegral e p ended =
    if zn.reseed then clampInt (-(zn.config.maxAir * 256 : Int)) (zn.config.maxAir * 256) ((zn.demand - zn.config.biasAir - p) * 256)
    else if zn.Skips e p then zn.integral
    else clampInt (-(zn.config.maxAir * 256 : Int)) (zn.config.maxAir * 256) (zn.integral + (e * zn.config.ki * ended).tdiv 1000) := by
  unfold nextIntegral
  by_cases skips : zn.Skips e p
  · rw [if_neg (fun does => (zn.integrates_iff e p).1 does skips), if_pos skips]
    rfl
  · rw [if_pos ((zn.integrates_iff e p).2 skips), if_neg skips]
    rfl

theorem Zone.computePi_keeps (zn : Zone) (setpoint filtered : Int) (ended : Nat) :
    (zn.computePi setpoint filtered ended).config = zn.config ∧ (zn.computePi setpoint filtered ended).grant = zn.grant := ⟨rfl, rfl⟩

/-- The PI branch of a zone in a regime that controls, written out (R90 to R92). -/
theorem Zone.computePi_eq {regime : Regime} (online : regime ≠ .offline) (untripped : regime ≠ .tripped) (zn : Zone) (trim filtered : Int)
    (ended : Nat) : zn.computePi (composeSetpoint regime zn.config trim) filtered ended = zn.piComputed regime trim filtered ended := by
  unfold computePi piComputed
  simp only [nextIntegral_eq]
  cases regime
  case offline => exact absurd rfl online
  case tripped => exact absurd rfl untripped
  all_goals rfl

namespace State

variable {s t : State} {z : ZoneIdx}

/-! ### The branches (R85 to R89) -/

/-- The branch of a zone ends with an offer to its valve: it is not TRIPPED and not HELD (R86, R87, R93). -/
abbrev Trims (s : State) (z : ZoneIdx) : Prop := (s.laneOfZone z).state.regime ≠ .tripped ∧ s.modeDecided z ≠ .held

theorem isAirOff_iff (l : LaneState) : l.isAirOff = true ↔ l.cycle?.map (·.phase) = some .airOff := by
  cases l <;> simp [LaneState.isAirOff, LaneState.cycle?]

/-- The state once a zone has decided its mode and taken its new demand, before its valve is offered anything. -/
def zoneSettled (s : State) (z : ZoneIdx) (ended : Nat) : State :=
  (s.withZones (s.zones.set z (s.zoneComputed z ended))).withHistory (s.modeNoted z)

/-- The zone a computation leaves, by its branch (R85 to R92). -/
theorem zoneComputed_eq (working : s.isIdle z = false) (ended : Nat) : s.zoneComputed z ended =
    let zn := (s.zones.get z).decided (s.modeDecided z)
    let l := s.laneOfZone z
    if l.isTripped then zn.withDemand zn.config.tripAir
    else match s.modeDecided z with
      | .held => zn.withDemand (s.heldDemand zn)
      | .fixedAir => zn.withDemand (clampNat zn.config.minAir zn.config.maxAir zn.config.fixedAir)
      | .doControl =>
        if zn.config.cyclic && l.state.isAirOff then zn.airOff
        else zn.computePi (composeSetpoint l.state.regime zn.config (l.config.trim (s.usable l.config.ammoniaPoint)))
          ((s.usable zn.config.doPoint).getD 0) ended := by
  have online : ¬((s.laneOfZone z).state.regime = .offline ∨ (s.laneOfZone z).config.zoneCount ≤ (placeOf z).val) := by
    rw [← Lane.idles_iff]
    exact ne_true_of_eq_false working
  obtain ⟨notOffline, -⟩ := not_or.1 online
  unfold zoneComputed
  dsimp only
  rw [if_neg online]
  by_cases tripped : (s.laneOfZone z).state.regime = .tripped
  · rw [if_pos tripped, if_pos ((Lane.isTripped_iff _).2 tripped)]
    rfl
  · rw [if_neg tripped, if_neg (mt (Lane.isTripped_iff _).1 tripped)]
    cases s.modeDecided z with
    | held =>
      refine congrArg (fun d => Zone.withDemand ((s.zones.get z).decided .held) d) ?_
      unfold heldDemand
      rw [show ((s.zones.get z).decided .held).config = (s.zones.get z).config from rfl]
      cases s.usable (s.zones.get z).config.airflowPoint <;> rfl
    | fixedAir => rfl
    | doControl =>
      dsimp only
      by_cases off : (s.zones.get z).config.cyclic = true ∧ (s.laneOfZone z).state.cycle?.map (·.phase) = some .airOff
      · refine (if_pos off).trans (if_pos ?_).symm
        rw [Bool.and_eq_true, isAirOff_iff]
        exact off
      · refine (if_neg off).trans ((if_neg ?_).trans ?_).symm
        · rw [Bool.and_eq_true, isAirOff_iff]
          exact off
        · rw [Zone.computePi_eq notOffline tripped]
          cases s.usable (s.laneOfZone z).config.ammoniaPoint <;> rfl

/-- The computation of a zone: its mode, its branch, and in the branches that end with it the valve's trim (R82 to R94). -/
theorem computeZone_eq (working : s.isIdle z = false) (ended : Nat) : s.computeZone ended z =
    if s.Trims z then (s.zoneSettled z ended).trimValve z else s.zoneSettled z ended := by
  have settled {x : Zone} (computed : s.zoneComputed z ended = x) :
      (s.decideMode z).setZone z x = s.zoneSettled z ended := by
    rw [decideMode_eq, ← computed]
    have set (x y : Zone) (h : History) : ((s.withZones (s.zones.set z y)).withHistory h).setZone z x =
        (s.withZones ((s.zones.set z y).set z x)).withHistory h := rfl
    rw [set, Table.set_set, zoneSettled]
  have zone : (s.decideMode z).zones.get z = (s.zones.get z).decided (s.modeDecided z) := by
    rw [decideMode_eq]
    exact Table.get_set_self ..
  have computed := zoneComputed_eq working ended
  have lane : (s.decideMode z).laneOfZone z = s.laneOfZone z := by
    rw [decideMode_eq]
    rfl
  have points : (s.decideMode z).points = s.points := decideMode_but z s .points (by decide)
  have usable (p : Option PointIdx) : (s.decideMode z).usable p = s.usable p := by
    unfold usable
    rw [points]
  have held (zn : Zone) : (s.decideMode z).heldDemand zn = s.heldDemand zn := by
    unfold heldDemand
    rw [usable]
  have mode : ((s.zones.get z).decided (s.modeDecided z)).mode = s.modeDecided z := rfl
  unfold computeZone
  rw [if_neg (ne_true_of_eq_false working)]
  unfold computeBranch
  dsimp only at computed ⊢
  rw [zone, lane, mode, usable, usable, held]
  by_cases tripped : (s.laneOfZone z).isTripped = true
  · rw [if_pos tripped] at computed ⊢
    rw [settled computed, if_neg fun ⟨untripped, _⟩ => untripped ((Lane.isTripped_iff _).1 tripped)]
  · rw [if_neg tripped] at computed ⊢
    have untripped : (s.laneOfZone z).state.regime ≠ .tripped := mt (Lane.isTripped_iff _).2 tripped
    obtain ⟨m, decided⟩ : ∃ m, s.modeDecided z = m := ⟨_, rfl⟩
    have trims : s.Trims z ↔ m ≠ .held := by
      rw [← decided]
      exact and_iff_right untripped
    refine Eq.trans ?_ (if_congr trims.symm rfl rfl)
    rw [decided] at computed ⊢
    cases m with
    | held => exact settled computed
    | fixedAir => exact congrArg (trimValve z) (settled computed)
    | doControl =>
      dsimp only at computed ⊢
      split
      · next off =>
        rw [if_pos off] at computed
        exact congrArg (trimValve z) (settled computed)
      · next on =>
        rw [if_neg on] at computed
        exact congrArg (trimValve z) (settled computed)

/-- A computation leaves a zone's configuration and its grant. -/
theorem zoneComputed_keeps (z : ZoneIdx) (ended : Nat) (s : State) : (s.zoneComputed z ended).config = (s.zones.get z).config ∧
    (s.zoneComputed z ended).grant = (s.zones.get z).grant := by
  by_cases idle : s.isIdle z = true
  · have old : s.zoneComputed z ended = s.zones.get z := if_pos ((Lane.idles_iff _ _).1 idle)
    rw [old]
    exact ⟨rfl, rfl⟩
  · obtain ⟨zn, decided, config, grant⟩ : ∃ zn, (s.zones.get z).decided (s.modeDecided z) = zn ∧ zn.config = (s.zones.get z).config ∧
        zn.grant = (s.zones.get z).grant := ⟨_, rfl, rfl, rfl⟩
    rw [zoneComputed_eq (Bool.not_eq_true _ ▸ idle), ← config, ← grant]
    dsimp only
    rw [decided]
    split
    · exact ⟨rfl, rfl⟩
    · split
      · exact ⟨rfl, rfl⟩
      · exact ⟨rfl, rfl⟩
      · split
        · exact ⟨rfl, rfl⟩
        · exact Zone.computePi_keeps zn _ _ ended

/-! ### The valve's trim (R93, R94) -/

theorem zoneSettled_zone (z : ZoneIdx) (ended : Nat) (s : State) : (s.zoneSettled z ended).zones.get z = s.zoneComputed z ended :=
  Table.get_set_self ..

theorem trimValve_of_none (unnamed : (s.zones.get z).config.valveOutput = none) : s.trimValve z = s := by
  unfold trimValve
  dsimp only
  rw [unnamed]

theorem trimValve_of_some {o : OutputIdx} (named : (s.zones.get z).config.valveOutput = some o) :
    s.trimValve z = s.offer o ((s.outputs.get o).base + s.valveStep (s.zones.get z)) := by
  unfold trimValve
  dsimp only
  rw [named]

/-- The step of a zone's valve (R93). -/
abbrev stepOf (s : State) (zn : Zone) : Int :=
  match zn.grant, s.usable zn.config.airflowPoint with
  | some grant, some flow => clampInt (-zn.config.valveRate) zn.config.valveRate (((grant - flow) * zn.config.valveGain).tdiv 1024)
  | _, _ => 0

theorem valveStep_eq (zn : Zone) (s : State) : s.valveStep zn = s.stepOf zn := by
  unfold valveStep stepOf
  cases zn.grant with
  | none => rfl
  | some g => cases s.usable zn.config.airflowPoint <;> rfl

theorem valveStep_congr {x y : Zone} (config : y.config = x.config) (grant : y.grant = x.grant) (s : State) : s.valveStep y = s.valveStep x := by
  unfold valveStep
  rw [config, grant]

theorem base_eq (out : Output) : out.base = out.last.getD ((out.config.low + out.config.high).tdiv 2) := by
  unfold Output.base
  cases out.last <;> rfl

theorem computeZone_of_idle (idle : s.isIdle z = true) (ended : Nat) : s.computeZone ended z = s := if_pos idle

theorem computeZone_of_untrimmed (working : s.isIdle z = false) (untrimmed : ¬s.Trims z ∨ (s.zones.get z).config.valveOutput = none)
    (ended : Nat) : s.computeZone ended z = s.zoneSettled z ended := by
  rw [computeZone_eq working]
  split
  · next trims =>
    obtain ⟨config, -⟩ := zoneComputed_keeps z ended s
    refine trimValve_of_none ?_
    rw [zoneSettled_zone, config]
    exact untrimmed.resolve_left (not_not.2 trims)
  · rfl

theorem computeZone_of_trimmed (working : s.isIdle z = false) (trims : s.Trims z) {o : OutputIdx}
    (named : (s.zones.get z).config.valveOutput = some o) (ended : Nat) : s.computeZone ended z =
      (s.zoneSettled z ended).offer o ((s.outputs.get o).last.getD (((s.outputs.get o).config.low + (s.outputs.get o).config.high).tdiv 2) +
        s.stepOf (s.zones.get z)) := by
  obtain ⟨config, grant⟩ := zoneComputed_keeps z ended s
  have outputs : (s.zoneSettled z ended).outputs = s.outputs := rfl
  have step : (s.zoneSettled z ended).valveStep (s.zoneComputed z ended) = s.stepOf (s.zones.get z) :=
    (valveStep_congr config grant _).trans (valveStep_eq _ _)
  rw [computeZone_eq working, if_pos trims, trimValve_of_some (o := o) (by rw [zoneSettled_zone, config]; exact named), zoneSettled_zone, step,
    outputs, base_eq]

/-! ### The zones of a lane, one after another (R85) -/

/-- What the computation of a zone reads besides the zone's own record. -/
structure SameReadings (s t : State) : Prop where
  lanes : t.lanes = s.lanes
  points : t.points = s.points
  states : ∀ o, (t.outputs.get o).state = (s.outputs.get o).state

theorem SameReadings.zoneComputed (h : s.SameReadings t) (zone : t.zones.get z = s.zones.get z) (ended : Nat) :
    t.zoneComputed z ended = s.zoneComputed z ended := by
  have usable (p : Option PointIdx) : t.usable p = s.usable p := by
    unfold usable
    rw [h.points]
  have mode : t.modeDecided z = s.modeDecided z := by
    unfold modeDecided
    simp only [zone, usable, h.states]
  unfold State.zoneComputed laneOfZone
  simp only [zone, usable, mode, h.lanes]

theorem computeZone_readings (ended : Nat) (z : ZoneIdx) (s : State) : s.SameReadings (s.computeZone ended z) where
  lanes := computeZone_but ended z s .lanes (by decide)
  points := computeZone_but ended z s .points (by decide)
  states o := by
    by_cases idle : s.isIdle z = true
    · rw [computeZone_of_idle idle]
    · rw [computeZone_eq (Bool.not_eq_true _ ▸ idle)]
      split
      · cases named : ((s.zoneSettled z ended).zones.get z).config.valveOutput with
        | none => rw [trimValve_of_none named]; rfl
        | some p => rw [trimValve_of_some named, offer_state]; rfl
      · rfl

theorem computeZone_zones (ended : Nat) (z : ZoneIdx) (s : State) :
    (s.computeZone ended z).zones = s.zones.set z (s.zoneComputed z ended) := by
  by_cases idle : s.isIdle z = true
  · have old : s.zoneComputed z ended = s.zones.get z := if_pos ((Lane.idles_iff _ _).1 idle)
    rw [computeZone_of_idle idle, old, Table.set_get]
  · rw [computeZone_eq (Bool.not_eq_true _ ▸ idle)]
    split
    · exact trimValve_but z _ .zones (by decide)
    · rfl

/-- The zones after a lane's period: each of the lane's is computed from the state at the start (R85). -/
theorem computeZones_zone (k : LaneIdx) (ended : Nat) (z : ZoneIdx) (s : State) :
    (s.computeZones k ended).zones.get z = if laneOf z = k then s.zoneComputed z ended else s.zones.get z := by
  have readings : ∀ z u, s.SameReadings u → s.SameReadings (u.computeZone ended z) := fun z u h =>
    have next := computeZone_readings ended z u
    ⟨next.lanes.trans h.lanes, next.points.trans h.points, fun o => (next.states o).trans (h.states o)⟩
  unfold computeZones
  rw [each_table_of State.zones (I := s.SameReadings) (g := fun z zn => (s.setZone z zn).zoneComputed z ended) (fun z u h => ?_) readings _
    (zonesOf_nodup k) ⟨rfl, rfl, fun _ => rfl⟩]
  · rw [setZone, Table.set_get, withZones_self]
    simp only [mem_zonesOf]
  · have same : (s.setZone z (u.zones.get z)).SameReadings u := ⟨h.lanes, h.points, h.states⟩
    rw [computeZone_zones, same.zoneComputed (Table.get_set_self ..).symm]

/-- An output that no zone of the lane names is as it was. -/
theorem computeZones_output {k : LaneIdx} {o : OutputIdx} (unnamed : ∀ z, laneOf z = k → (s.zones.get z).config.valveOutput ≠ some o)
    (ended : Nat) : (s.computeZones k ended).outputs.get o = s.outputs.get o := by
  have kept : (s.computeZones k ended).outputs.get o = s.outputs.get o ∧
      ∀ z, ((s.computeZones k ended).zones.get z).config = (s.zones.get z).config := by
    unfold computeZones
    refine each_induction (P := fun u => u.outputs.get o = s.outputs.get o ∧ ∀ z, (u.zones.get z).config = (s.zones.get z).config) _
      (fun z mem u ⟨output, config⟩ => ⟨?_, fun y => ?_⟩) ⟨rfl, fun _ => rfl⟩
    · have other : (u.zones.get z).config.valveOutput ≠ some o := by
        rw [config]
        exact unnamed z ((mem_zonesOf k z).1 mem)
      rw [← output]
      by_cases idle : u.isIdle z = true
      · rw [computeZone_of_idle idle]
      · rw [computeZone_eq (Bool.not_eq_true _ ▸ idle)]
        obtain ⟨same, -⟩ := zoneComputed_keeps z ended u
        split
        · cases named : ((u.zoneSettled z ended).zones.get z).config.valveOutput with
          | none => rw [trimValve_of_none named]; rfl
          | some p =>
            rw [zoneSettled_zone, same] at named
            rw [trimValve_of_some (o := p) (by rw [zoneSettled_zone, same]; exact named), offer_other]
            · rfl
            · rintro rfl
              exact other named
        · rfl
    · rw [computeZone_zones, Table.get_set]
      split
      · next here => rw [(zoneComputed_keeps z ended u).1, here, config]
      · exact config y
  exact kept.1

/-! ### The whole period (R58) -/

/-- What the dwell's evaluation leaves of the lane it concerns (R64, R65). -/
theorem evaluateDwell_lane (k : LaneIdx) (ended : Nat) (s : State) :
    ((s.evaluateDwell k ended).lanes.get k).timer = (s.lanes.get k).timer ∧
      ((s.evaluateDwell k ended).lanes.get k).config = (s.lanes.get k).config := by
  by_cases normal : (s.lanes.get k).state.regime = .normal
  · have state : (s.lanes.get k).state = .normal := by
      revert normal
      cases (s.lanes.get k).state <;> simp [LaneState.regime]
    rw [evaluateDwell_of_normal state]
    split
    · split
      · rw [changeRegime_lanes, Table.get_set_self]
        exact ⟨rfl, rfl⟩
      · rw [setLane, withLanes_lanes, Table.get_set_self]
        exact ⟨rfl, rfl⟩
    · rw [setLane, withLanes_lanes, Table.get_set_self]
      exact ⟨rfl, rfl⟩
  · rw [evaluateDwell_of_other normal]
    exact ⟨rfl, rfl⟩

theorem evaluateDwell_but (k : LaneIdx) (ended : Nat) (s : State) : s.SameBut [.lanes, .history] (s.evaluateDwell k ended) := by
  by_cases normal : (s.lanes.get k).state.regime = .normal
  · have state : (s.lanes.get k).state = .normal := by
      revert normal
      cases (s.lanes.get k).state <;> simp [LaneState.regime]
    rw [evaluateDwell_of_normal state]
    split
    · split
      · rw [changeRegime_of_no_cycle (by rw [normal]; decide)]
        exact ((s.withLanes_but _).mono (by decide)).trans ((capture_but _ _).mono (by decide))
      · exact (s.setLane_but k _).mono (by decide)
    · exact (s.setLane_but k _).mono (by decide)
  · rw [evaluateDwell_of_other normal]
    exact .refl _ s

/-- A lane at its period, before its zones compute (R58). -/
abbrev periodBegun (s : State) (k : LaneIdx) : State := ((s.applyPending k).startPeriod k).evaluateDwell k (s.lanes.get k).config.period

theorem periodBegun_but (k : LaneIdx) (s : State) : s.SameBut [.lanes, .zones, .history] (s.periodBegun k) :=
  (((applyPending_but k s).mono (by decide)).trans ((startPeriod_but k _).mono (by decide))).trans ((evaluateDwell_but k _ _).mono (by decide))

theorem periodBegun_zone {k : LaneIdx} (other : laneOf z ≠ k) : (s.periodBegun k).zones.get z = s.zones.get z := by
  have dwell : (s.periodBegun k).zones = (s.applyPending k).zones := (evaluateDwell_but k _ _ .zones (by decide)).trans rfl
  rw [dwell]
  cases pending : (s.lanes.get k).pending with
  | none => rw [applyPending_of_none pending]
  | some p => rw [applyPending_zones pending, if_neg other]

theorem periodBegun_timer (k : LaneIdx) (s : State) :
    ((s.periodBegun k).lanes.get k).timer = some (((s.periodBegun k).lanes.get k).config.period * 10) := by
  obtain ⟨timer, config⟩ := evaluateDwell_lane k (s.lanes.get k).config.period ((s.applyPending k).startPeriod k)
  rw [timer, config, startPeriod, setLane, withLanes_lanes, Table.get_set_self]
  rfl

theorem computeZones_eq (k : LaneIdx) (ended : Nat) (s : State) :
    s.computeZones k ended = (indices 4).foldl (fun v i => v.computeZone ended (zoneAt k i)) s := by
  unfold computeZones zonesOf each
  rw [List.foldl_map]

theorem lanePeriod_conditions {k : LaneIdx} {ended : Nat} (raised : s.raised = []) : (s.computeZones k ended).ConditionsWait := by
  refine each_induction _ (fun z _ u (h : u.ConditionsWait) => ?_) (ConditionsWait.of_none raised)
  show (u.computeZone ended z).ConditionsWait
  by_cases idle : u.isIdle z = true
  · rw [computeZone_of_idle idle]
    exact h
  · have settled : (u.zoneSettled z ended).ConditionsWait := h
    rw [computeZone_eq (Bool.not_eq_true _ ▸ idle)]
    split
    · cases named : ((u.zoneSettled z ended).zones.get z).config.valveOutput with
      | none => rw [trimValve_of_none named]; exact settled
      | some p => rw [trimValve_of_some named]; exact settled.offer p _
    · exact settled

theorem SameOutside.of_but {c : List Part} (but : s.SameBut c t)
    (apart : ∀ p ∈ [Part.power, .ownAddress, .timeCount, .received, .passing, .routes, .points, .plant, .returns, .supervision, .management, .pending],
      p ∉ c) : s.SameOutside t where
  power := but .power (apart _ (by decide))
  ownAddress := but .ownAddress (apart _ (by decide))
  timeCount := but .timeCount (apart _ (by decide))
  received := but .received (apart _ (by decide))
  passing := (but .passing (apart _ (by decide))).1
  inPassage := (but .passing (apart _ (by decide))).2
  routes := but .routes (apart _ (by decide))
  points := but .points (apart _ (by decide))
  plant := but .plant (apart _ (by decide))
  returns := but .returns (apart _ (by decide))
  supervision := but .supervision (apart _ (by decide))
  management := but .management (apart _ (by decide))
  pending := but .pending (apart _ (by decide))

end State

/-- Settles O24: each zone by `State.computeZone_eq`, the zones of a lane from the state at the start by `State.computeZones_zone`. -/
theorem lanePeriodComputesTheZones : Obligations.LanePeriodComputesTheZones := by
  refine ⟨fun s k running => ⟨fun stopped => ?_, fun runs => ?_⟩, fun s z ended => ?_⟩
  · exact congrArg Host.Outcome.next (State.expire_of_unset (by simpa using stopped))
  · intro ended u
    have outcome : exec (.lanePeriodExpiry k) s = .next (u.computeZones k ended).drain :=
      congrArg Host.Outcome.next (State.expire_of_running running runs)
    have begun : s.SameBut [.lanes, .zones, .history] u := s.periodBegun_but k
    have computed : u.SameBut State.zoneParts (u.computeZones k ended) := State.computeZones_but k ended u
    refine ⟨s.periodBegun_timer k, by rw [outcome, State.computeZones_eq], fun calm => ?_⟩
    have but : s.SameBut (.lanes :: State.zoneParts) (u.computeZones k ended) := (begun.mono (by decide)).trans (computed.mono (by decide))
    have zone (z) := u.computeZones_zone k ended z
    have conditions : (u.computeZones k ended).ConditionsWait := State.lanePeriod_conditions ((begun .raised (by decide)).trans calm.raised)
    have taken := calm.drain_of_but but (by decide) conditions
    have output (o) (unnamed : ∀ z, laneOf z = k → (u.zones.get z).config.valveOutput ≠ some o) := State.computeZones_output unnamed ended
    have same : s.SameOutside (u.computeZones k ended) := .of_but but (by decide)
    obtain ⟨t, ends⟩ : ∃ t, u.computeZones k ended = t := ⟨_, rfl⟩
    rw [ends] at outcome but computed zone taken output same
    refine ⟨_, outcome.trans (congrArg _ taken), computed .lanes (by decide), fun z => ?_, fun o unnamed => ?_, but .points (by decide),
      but .plant (by decide), but .allocator (by decide), but .blowers (by decide), but .watches (by decide), rfl, but .freeIndex (by decide),
      ?_⟩
    · refine (zone z).trans ?_
      split
      · rfl
      · next other => exact State.periodBegun_zone other
    · exact (output o unnamed).trans (congrArg (Table.get · o) (begun .outputs (by decide)))
    · exact ⟨same.power, same.ownAddress, same.timeCount, same.received, same.passing, same.inPassage, same.routes, same.points, same.plant,
        same.returns, same.supervision, same.management, same.pending⟩
  · intro zn mode noted computed trims step
    exact ⟨fun idle => State.computeZone_of_idle idle ended, fun working =>
      ⟨fun untrimmed => State.computeZone_of_untrimmed working untrimmed ended,
        fun does o named => State.computeZone_of_trimmed working does named ended⟩⟩

end Sys2Proof.Machine
end

section
/-! The blowers: the review against the status reading, and the three timers (R114, R115, R117, R118). -/
namespace Sys2Proof.Machine

namespace State

variable {s t : State}

/-! ### What an offer raises -/

/-- The arrivals that wait, but for the queue's own overflow. -/
abbrev news (s : State) : List Change := s.raised.filter (· ≠ .event .queueOverflow)

theorem news_of_but {c : List Part} (but : s.SameBut c t) (apart : Part.raised ∉ c) : t.news = s.news := by
  have raised : t.raised = s.raised := but .raised apart
  unfold news
  rw [raised]

theorem raise_news {ch : Change} (other : ch ≠ .event .queueOverflow) (s : State) : (s.raise ch).news = s.news ++ [ch] := by
  have kept : [ch].filter (· ≠ .event .queueOverflow) = [ch] := List.filter_eq_self.2 fun c mem => by simp [List.mem_singleton.1 mem, other]
  unfold news
  rw [raise, withRaised_raised, List.filter_append, kept]

theorem enqueue_news (q : Queued) (s : State) : (s.enqueue q).1.news = s.news := by
  unfold enqueue
  split
  · rfl
  · unfold news
    rw [raise, withRaised_raised, List.filter_append]
    simp

theorem sendCommand_news (o : OutputIdx) (v : Int) (s : State) : (s.sendCommand o v).1.news = s.news := by
  unfold sendCommand
  dsimp only
  split
  · rfl
  · exact enqueue_news _ s

theorem sendValue_news (o : OutputIdx) (v : Int) (s : State) : (s.sendValue o v).news = s.news :=
  (news_of_but (setOutput_but _ o _) (by decide)).trans ((sendCommand_news o v _).trans (news_of_but (s.setOutput_but o _) (by decide)))

theorem offer_news (o : OutputIdx) (v : Int) (s : State) : (s.offer o v).news = s.news := by
  unfold offer
  dsimp only
  split
  · rfl
  · split
    · rfl
    · split
      · exact sendValue_news o _ s
      · rfl

theorem offerTo_news (o : Option OutputIdx) (v : Int) (s : State) : (s.offerTo o v).news = s.news := by
  cases o with
  | none => rfl
  | some o => exact offer_news o v s

theorem offerTo_other {o : Option OutputIdx} {p : OutputIdx} (other : o ≠ some p) (v : Int) (s : State) :
    (s.offerTo o v).outputs.get p = s.outputs.get p := by
  cases o with
  | none => rfl
  | some o => exact offer_other (fun eq => other (congrArg some eq.symm)) v s

/-! ### The review (R115) -/

variable {b : BlowerIdx} {r : DriveReading}

/-- A blower's new state with its entry, written out (R114). -/
theorem changeBlower_eq (b : BlowerIdx) (new : BlowerState) (s : State) : s.changeBlower b new =
    (s.withBlowers (s.blowers.set b { s.blowers.get b with state := new })).capture (.blower b (s.blowers.get b).state.status new.status) := rfl

/-- The state the table of R115 gives a blower. -/
abbrev reviewedState (s : State) (b : BlowerIdx) (r : DriveReading) : BlowerState :=
  (s.blowers.get b).state.reviewed (s.blowers.get b).config r

theorem review_of_startFail (starting : (s.blowers.get b).state.status = .starting) : s.review b .fault = s.failStart b := by
  unfold review
  cases state : (s.blowers.get b).state <;> rw [state] at starting <;> cases starting

theorem review_of_trip (running : (s.blowers.get b).state.status = .running) (trips : r = .stopped ∨ r = .fault) :
    s.review b r = s.tripRunning b := by
  unfold review
  cases state : (s.blowers.get b).state <;> rw [state] at running <;> cases running
  obtain rfl | rfl := trips <;> rfl

theorem review_of_stopTrip (stopping : (s.blowers.get b).state.status = .stopping) : s.review b .fault = s.tripStopping b := by
  unfold review
  cases state : (s.blowers.get b).state <;> rw [state] at stopping <;> cases stopping

/-- A drive that is not under the part's command is adopted as it reads (R115). -/
theorem adopt_eq (b : BlowerIdx) (r : DriveReading) (s : State) : s.adopt b r = s.changeBlower b (match r with
    | .stopped => .stopped
    | .running => .running (!(s.blowers.get b).config.inService)
    | .fault => .faulted
    | .handControl => .handControl) := by
  cases r <;> rfl

/-- Where the table raises no condition the review is a change of state, or nothing (R115). -/
theorem review_of_quiet (quiet : (s.blowers.get b).state.reviewRaises r = []) : s.review b r =
    if (s.reviewedState b r).status = (s.blowers.get b).state.status then s else s.changeBlower b (s.reviewedState b r) := by
  unfold review reviewedState
  cases state : (s.blowers.get b).state with
  | unknown => cases r <;> rfl
  | stopped => cases r <;> rfl
  | starting w timeout =>
    rw [state] at quiet
    cases r with
    | fault => cases quiet
    | running => cases w <;> rfl
    | _ => rfl
  | running p =>
    rw [state] at quiet
    cases r with
    | stopped => cases quiet
    | fault => cases quiet
    | _ => rfl
  | stopping left =>
    rw [state] at quiet
    cases r with
    | fault => cases quiet
    | _ => rfl
  | faulted => cases r <;> rfl
  | handControl => cases r <;> rfl

/-- A state that keeps its name at a review is kept whole. -/
theorem reviewed_of_status {c : BlowerConfig} {st : BlowerState} (same : (st.reviewed c r).status = st.status) (quiet : st.reviewRaises r = []) :
    st.reviewed c r = st := by
  cases st with
  | starting w timeout =>
    cases r with
    | running => cases w with
      | none => cases same
      | some w => rfl
    | fault => cases quiet
    | handControl => cases same
    | stopped => rfl
  | unknown => cases r <;> cases same
  | stopped =>
    cases r with
    | stopped => rfl
    | _ => cases same
  | running p =>
    cases r with
    | running => rfl
    | _ => cases same
  | stopping left =>
    cases r with
    | fault => cases quiet
    | handControl => cases same
    | _ => rfl
  | faulted => rfl
  | handControl =>
    cases r with
    | handControl => rfl
    | _ => cases same

/-- A drive that faults under the part's command is FAULTED, and so is a running one found stopped (R115). -/
theorem reviewed_faulted {st : BlowerState} (c : BlowerConfig) (faults : (st.status = .starting ∧ r = .fault) ∨
    (st.status = .running ∧ (r = .stopped ∨ r = .fault)) ∨ (st.status = .stopping ∧ r = .fault)) : st.reviewed c r = .faulted := by
  unfold BlowerState.reviewed
  obtain ⟨status, rfl⟩ | ⟨status, rfl | rfl⟩ | ⟨status, rfl⟩ := faults <;> rw [status] <;> rfl

/-- What a review raises a condition for: a start that fails, a running blower that trips, a stopping one that trips (R115). -/
theorem reviewRaises_cases (st : BlowerState) (r : DriveReading) (c : BlowerConfig) : st.reviewRaises r = [] ∨
    (st.status = .starting ∧ r = .fault ∧ st.reviewRaises r = [.event .blowerStartFail] ∧ st.reviewed c r = .faulted) ∨
    (st.status = .running ∧ (r = .stopped ∨ r = .fault) ∧ st.reviewRaises r = [.event .blowerTrip] ∧ st.reviewed c r = .faulted) ∨
    (st.status = .stopping ∧ r = .fault ∧ st.reviewRaises r = [.event .blowerTrip] ∧ st.reviewed c r = .faulted) := by
  cases st <;> cases r <;> simp [BlowerState.reviewRaises, BlowerState.reviewed, BlowerState.status]

/-- A blower that faults: its new state with the entry, run and in one case speed offered 0, and a condition (R115). -/
def faults (s : State) (b : BlowerIdx) (speed : Option OutputIdx) (e : EventCondition) : State :=
  (((s.changeBlower b .faulted).offerTo (s.blowers.get b).config.runOutput 0).offerTo speed 0).raise (.event e)

theorem failStart_eq (b : BlowerIdx) (s : State) : s.failStart b = s.faults b none .blowerStartFail := by
  unfold failStart offerRun
  rw [changeBlower_config]
  rfl

theorem tripStopping_eq (b : BlowerIdx) (s : State) : s.tripStopping b = s.faults b none .blowerTrip := by
  unfold tripStopping offerRun
  rw [changeBlower_config]
  rfl

theorem tripRunning_eq (b : BlowerIdx) (s : State) : s.tripRunning b = s.faults b (s.blowers.get b).config.speedOutput .blowerTrip := by
  have kept : (((s.changeBlower b .faulted).offerTo (s.blowers.get b).config.runOutput 0).blowers.get b).config = (s.blowers.get b).config := by
    rw [offerTo_but _ _ _ .blowers (by decide), changeBlower_config]
  unfold tripRunning offerSpeed offerRun
  rw [changeBlower_config, kept]
  rfl

/-- A review raises nothing, or the blower faults and is FAULTED by the table (R115). -/
theorem review_cases (b : BlowerIdx) (r : DriveReading) (s : State) :
    ((s.blowers.get b).state.reviewRaises r = [] ∧ s.review b r =
      if (s.reviewedState b r).status = (s.blowers.get b).state.status then s else s.changeBlower b (s.reviewedState b r)) ∨
    ∃ speed e, (speed = none ∨ speed = (s.blowers.get b).config.speedOutput) ∧ e ≠ .queueOverflow ∧
      (s.blowers.get b).state.reviewRaises r = [.event e] ∧ s.reviewedState b r = .faulted ∧ (s.blowers.get b).state.status ≠ .faulted ∧
      s.review b r = s.faults b speed e := by
  obtain quiet | ⟨starting, rfl, raises, faulted⟩ | ⟨running, trips, raises, faulted⟩ | ⟨stopping, rfl, raises, faulted⟩ :=
    reviewRaises_cases (s.blowers.get b).state r (s.blowers.get b).config
  · exact .inl ⟨quiet, review_of_quiet quiet⟩
  · exact .inr ⟨none, .blowerStartFail, .inl rfl, nofun, raises, faulted, by rw [starting]; nofun,
      (review_of_startFail starting).trans (failStart_eq b s)⟩
  · exact .inr ⟨_, .blowerTrip, .inr rfl, nofun, raises, faulted, by rw [running]; nofun, (review_of_trip running trips).trans (tripRunning_eq b s)⟩
  · exact .inr ⟨none, .blowerTrip, .inl rfl, nofun, raises, faulted, by rw [stopping]; nofun,
      (review_of_stopTrip stopping).trans (tripStopping_eq b s)⟩

theorem faults_part {p : Part} (apart : p ∉ [Part.outputs, .traffic, .raised]) (b : BlowerIdx) (speed : Option OutputIdx) (e : EventCondition)
    (s : State) : p.same (s.changeBlower b .faulted) (s.faults b speed e) := by
  have but : (s.changeBlower b .faulted).SameBut offerParts (s.faults b speed e) :=
    ((offerTo_but _ _ _).trans (offerTo_but _ _ _)).trans ((raise_but _ _).mono (by decide))
  exact but p apart

theorem review_blowers (b : BlowerIdx) (r : DriveReading) (s : State) :
    (s.review b r).blowers = s.blowers.set b { s.blowers.get b with state := s.reviewedState b r } := by
  obtain ⟨quiet, review⟩ | ⟨speed, e, -, -, -, faulted, -, review⟩ := review_cases b r s
  · rw [review]
    split
    · next same =>
      rw [show s.reviewedState b r = (s.blowers.get b).state from reviewed_of_status same quiet]
      exact (Table.set_get ..).symm
    · exact changeBlower_blowers ..
  · rw [review, faulted]
    exact faults_part (p := .blowers) (by decide) b speed e s

theorem review_history (b : BlowerIdx) (r : DriveReading) (s : State) : (s.review b r).history =
    if (s.reviewedState b r).status = (s.blowers.get b).state.status then s.history
    else s.history.capture s.timeCount (.blower b (s.blowers.get b).state.status (s.reviewedState b r).status) := by
  obtain ⟨-, review⟩ | ⟨speed, e, -, -, -, faulted, other, review⟩ := review_cases b r s
  · rw [review]
    split <;> rfl
  · rw [review, faulted]
    refine Eq.trans ?_ (if_neg (Ne.symm other)).symm
    exact faults_part (p := .history) (by decide) b speed e s

theorem review_news (b : BlowerIdx) (r : DriveReading) (s : State) :
    (s.review b r).news = s.news ++ (s.blowers.get b).state.reviewRaises r := by
  obtain ⟨quiet, review⟩ | ⟨speed, e, -, known, raises, -, -, review⟩ := review_cases b r s
  · rw [review, quiet, List.append_nil]
    split <;> rfl
  · rw [review, raises, faults, raise_news (by simpa using known), offerTo_news, offerTo_news]
    rfl

theorem review_other {o : OutputIdx} (run : (s.blowers.get b).config.runOutput ≠ some o) (speed : (s.blowers.get b).config.speedOutput ≠ some o)
    (r : DriveReading) : (s.review b r).outputs.get o = s.outputs.get o := by
  obtain ⟨-, review⟩ | ⟨sp, e, named, -, -, -, -, review⟩ := review_cases b r s
  · rw [review]
    split <;> rfl
  · have other : sp ≠ some o := by
      obtain rfl | rfl := named
      · nofun
      · exact speed
    rw [review, faults, raise, withRaised_outputs, offerTo_other other, offerTo_other run]
    rfl

end State

/-- Settles O26: a review by `State.review_cases`. -/
theorem reviewFollowsTheTable : Obligations.ReviewFollowsTheTable := by
  intro s b r old new u bl become
  have but : s.SameBut State.blowerParts u := s.review_but b r
  refine ⟨fun starting fault => ?_, fun running trips => ?_, fun stopping fault => ?_, fun quiet => State.review_of_quiet quiet,
    State.review_blowers b r s, State.review_history b r s, fun o run speed => State.review_other run speed r, State.review_news b r s,
    but .zones (by decide), but .lanes (by decide), but .allocator (by decide), but .watches (by decide), but .freeIndex (by decide),
    .of_but but (by decide)⟩
  · have faulted : new = .faulted := State.reviewed_faulted _ (.inl ⟨starting, fault⟩)
    subst fault
    have review : u = s.faults b none .blowerStartFail := (State.review_of_startFail starting).trans (State.failStart_eq b s)
    rw [review]
    simp only [become, faulted]
    rfl
  · have faulted : new = .faulted := State.reviewed_faulted _ (.inr (.inl ⟨running, trips⟩))
    have review : u = s.faults b bl.config.speedOutput .blowerTrip := (State.review_of_trip running trips).trans (State.tripRunning_eq b s)
    rw [review]
    simp only [become, faulted]
    rfl
  · have faulted : new = .faulted := State.reviewed_faulted _ (.inr (.inr ⟨stopping, fault⟩))
    subst fault
    have review : u = s.faults b none .blowerTrip := (State.review_of_stopTrip stopping).trans (State.tripStopping_eq b s)
    rw [review]
    simp only [become, faulted]
    rfl

/-! ### The timers of a blower (R117, R118) -/

namespace State

variable {s : State} {b : BlowerIdx}

theorem exec_warmUp_of_runs {w timeout : Nat} (running : s.power = .running) (starting : (s.blowers.get b).state = .starting (some w) timeout) :
    exec (.warmUpExpiry b) s = .next (s.endWarmUp b timeout).drain := by
  have timed : (s.blowers.get b).warmUpTimer.isSome = true := by rw [Blower.warmUpTimer, starting]; rfl
  refine congrArg Host.Outcome.next ((expire_of_running running timed).trans (congrArg drain ?_))
  rw [warmUpExpires, starting]

/-- The end of a warm-up by the status reading (R117). -/
theorem endWarmUp_cases (b : BlowerIdx) (timeout : Nat) (s : State) :
    (s.driveReading (s.blowers.get b).config.statusPoint = some .running →
      s.endWarmUp b timeout = s.changeBlower b (s.blowers.get b).config.entersRunning) ∧
    (s.driveReading (s.blowers.get b).config.statusPoint = some .fault → s.endWarmUp b timeout = s.failStart b) ∧
    (s.driveReading (s.blowers.get b).config.statusPoint = some .handControl → s.endWarmUp b timeout = s.changeBlower b .handControl) ∧
    (s.driveReading (s.blowers.get b).config.statusPoint = some .stopped ∨ s.driveReading (s.blowers.get b).config.statusPoint = none →
      s.endWarmUp b timeout = s.setBlower b { s.blowers.get b with state := .starting none timeout }) := by
  unfold endWarmUp
  refine ⟨fun reads => ?_, fun reads => ?_, fun reads => ?_, fun reads => ?_⟩
  · rw [reads]
  · rw [reads]
  · rw [reads]
  · obtain reads | reads := reads <;> rw [reads]

theorem drain_changeBlower (raised : s.raised = []) (new : BlowerState) : (s.changeBlower b new).drain = s.changeBlower b new :=
  drain_of_raised_nil ((s.changeBlower_but b new .raised (by decide)).trans raised)

theorem timers_of_not_starting {bl : Blower} (other : bl.state.status ≠ .starting) : bl.warmUpTimer = none ∧ bl.timeoutTimer = none := by
  unfold Blower.warmUpTimer Blower.timeoutTimer
  cases state : bl.state with
  | starting => exact absurd (congrArg BlowerState.status state) other
  | _ => exact ⟨rfl, rfl⟩

theorem timer_of_not_stopping {bl : Blower} (other : bl.state.status ≠ .stopping) : bl.rundownTimer = none := by
  unfold Blower.rundownTimer
  cases state : bl.state with
  | stopping => exact absurd (congrArg BlowerState.status state) other
  | _ => rfl

theorem failStart_full (b : BlowerIdx) (s : State) : s.failStart b =
    ((s.changeBlower b .faulted).offerTo (s.blowers.get b).config.runOutput 0).raise (.event .blowerStartFail) := failStart_eq b s

theorem rundownExpires_eq (b : BlowerIdx) (s : State) : s.rundownExpires b =
    ((s.offerTo (s.blowers.get b).config.runOutput 0).withBlowers
      ((s.offerTo (s.blowers.get b).config.runOutput 0).blowers.set b { s.blowers.get b with state := .stopped })).capture
      (.blower b (s.blowers.get b).state.status .stopped) := by
  have blowers : (s.offerTo (s.blowers.get b).config.runOutput 0).blowers = s.blowers := offerTo_but _ _ _ .blowers (by decide)
  unfold rundownExpires offerRun
  rw [changeBlower_eq, blowers]
  rfl

end State

/-- Settles O30: the three timers by the state they belong to. -/
theorem blowerTimersExpire : Obligations.BlowerTimersExpire := by
  intro s b running bl become failed reading
  have stops {c : Instr} {timer : Option Nat} {f : State → State} (outcome : exec c s = .next (s.expire timer.isSome f)) (off : timer = none) :
      exec c s = .next s := outcome.trans (congrArg Host.Outcome.next (State.expire_of_unset (by rw [off]; rfl)))
  refine ⟨fun w timeout starting raised => ?_, fun timeout starting => ?_, fun w timeout starting => ?_, fun left stopping => ?_,
    fun other => ⟨?_, ?_⟩, fun other => ?_⟩
  · have outcome := State.exec_warmUp_of_runs running starting
    obtain ⟨runs, fails, byHand, waits⟩ := s.endWarmUp_cases b timeout
    refine ⟨fun reads => ?_, fun reads => ?_, fun reads => ?_, fun reads => ?_⟩
    · rw [outcome, runs reads]
      exact congrArg Host.Outcome.next (State.drain_changeBlower raised _)
    · rw [outcome, fails reads]
      exact congrArg (fun u => Host.Outcome.next (State.drain u)) (State.failStart_full b s)
    · rw [outcome, byHand reads]
      exact congrArg Host.Outcome.next (State.drain_changeBlower raised _)
    · rw [outcome, waits reads]
      exact congrArg Host.Outcome.next (State.drain_of_raised_nil (by exact raised))
  · exact stops rfl (by rw [Blower.warmUpTimer, starting]; rfl)
  · have timed : bl.timeoutTimer.isSome = true := by rw [Blower.timeoutTimer, starting]; rfl
    exact congrArg Host.Outcome.next ((State.expire_of_running running timed).trans (congrArg State.drain (State.failStart_full b s)))
  · have timed : bl.rundownTimer.isSome = true := by rw [Blower.rundownTimer, stopping]; rfl
    exact congrArg Host.Outcome.next ((State.expire_of_running running timed).trans (congrArg State.drain (State.rundownExpires_eq b s)))
  · exact stops rfl (State.timers_of_not_starting other).1
  · exact stops rfl (State.timers_of_not_starting other).2
  · exact stops rfl (State.timer_of_not_stopping other)

end Sys2Proof.Machine
end

section
/-! The arithmetic of the grants and of the common speed (R107 to R109, R111). -/
namespace Sys2Proof.Machine

/-! ### Sums of shares -/

theorem sum_div_le {α : Type} (l : List α) (f : α → Nat) (n : Nat) : (l.map fun x => f x / n).sum ≤ (l.map f).sum / n := by
  induction l with
  | nil => exact Nat.zero_le _
  | cons a l ih =>
    rw [List.map_cons, List.sum_cons, List.map_cons, List.sum_cons]
    exact (Nat.add_le_add_left ih _).trans Nat.div_add_div_le_add_div

/-- Shares of the parts of a sum come to no more than the share of the sum. -/
theorem sum_share_le {α : Type} (l : List α) (f : α → Nat) (k n : Nat) : (l.map fun x => f x * k / n).sum ≤ (l.map f).sum * k / n := by
  rw [← List.sum_map_mul_right]
  exact sum_div_le l (fun x => f x * k) n

/-! ### The grants (R108, R109) -/

section

variable {D C F : Nat}

theorem grantOf_of_enough (enough : D ≤ C) (d fl : Nat) : grantOf D C F d fl = d := if_pos enough

theorem grantOf_of_floors (short : ¬D ≤ C) (floors : F ≤ C) (d fl : Nat) :
    grantOf D C F d fl = fl + (d - fl) * ((C - F) * 65536 / (D - F)) / 65536 := by
  unfold grantOf
  rw [if_neg short, if_pos floors]

theorem grantOf_of_short (short : ¬D ≤ C) (under : ¬F ≤ C) (d fl : Nat) : grantOf D C F d fl = fl * C / F := by
  unfold grantOf
  rw [if_neg short, if_neg under]

theorem floor_le_grantOf (floors : F ≤ C) {d fl : Nat} (floor : fl ≤ d) : fl ≤ grantOf D C F d fl := by
  by_cases enough : D ≤ C
  · rw [grantOf_of_enough enough]
    exact floor
  · rw [grantOf_of_floors enough floors]
    exact Nat.le_add_right ..

theorem sum_sub {α : Type} (l : List α) {d fl : α → Nat} (floor : ∀ x, fl x ≤ d x) :
    (l.map fun x => d x - fl x).sum = (l.map d).sum - (l.map fl).sum ∧ (l.map fl).sum ≤ (l.map d).sum := by
  induction l with
  | nil => exact ⟨rfl, le_rfl⟩
  | cons a l ih =>
    obtain ⟨ih, le⟩ := ih
    have here := floor a
    simp only [List.map_cons, List.sum_cons, ih]
    omega

/-- The grants of a list of zones fit the capacity together (R108). -/
theorem sum_grants_le {α : Type} (l : List α) {d fl : α → Nat} (floor : ∀ x, fl x ≤ d x) (sumD : (l.map d).sum = D) (sumF : (l.map fl).sum = F) :
    (l.map fun x => grantOf D C F (d x) (fl x)).sum ≤ C := by
  obtain ⟨rest, le⟩ := sum_sub l floor
  rw [sumD, sumF] at rest le
  by_cases enough : D ≤ C
  · simp only [grantOf_of_enough enough, sumD]
    exact enough
  · by_cases floors : F ≤ C
    · simp only [grantOf_of_floors enough floors, List.sum_map_add, sumF]
      have shares := sum_share_le l (fun x => d x - fl x) ((C - F) * 65536 / (D - F)) 65536
      rw [rest] at shares
      have spread : (D - F) * ((C - F) * 65536 / (D - F)) / 65536 ≤ C - F :=
        Nat.div_le_of_le_mul ((Nat.mul_div_le ..).trans_eq (Nat.mul_comm ..))
      omega
    · simp only [grantOf_of_short enough floors]
      have shares := sum_share_le l fl C F
      rw [sumF] at shares
      exact shares.trans (Nat.div_le_of_le_mul le_rfl)

end

/-! ### The common speed (R111) -/

theorem ceilDiv_le_iff {a b : Int} (pos : 0 < b) (k : Int) : ceilDiv a b ≤ k ↔ a ≤ k * b := by
  unfold ceilDiv
  have bound := Int.le_ediv_iff_mul_le (a := -k) (b := -a) pos
  constructor
  · intro h
    have := bound.1 (by omega)
    linarith
  · intro h
    have := bound.2 (by linarith)
    omega

theorem commonSpeed_of_span {G smin span : Int} (pos : 0 < span) :
    commonSpeed G smin span = clampInt 0 1000 (ceilDiv ((G - smin) * 1000) span) := if_pos pos

theorem commonSpeed_eq_iff {G smin span f : Int} (pos : 0 < span) (least : 0 ≤ f) (most : f < 1000) : commonSpeed G smin span = f ↔
    (G - smin) * 1000 ≤ f * span ∧ (f = 0 ∨ (f - 1) * span < (G - smin) * 1000) := by
  rw [commonSpeed_of_span pos, ← ceilDiv_le_iff pos, ← not_le, ← ceilDiv_le_iff pos]
  unfold clampInt
  split
  · omega
  · split <;> omega

theorem commonSpeed_eq_full_iff {G smin span : Int} (pos : 0 < span) : commonSpeed G smin span = 1000 ↔ 999 * span < (G - smin) * 1000 := by
  rw [commonSpeed_of_span pos, ← not_le, ← ceilDiv_le_iff pos]
  unfold clampInt
  split
  · omega
  · split <;> omega

/-- The common speed is offered to each RUNNING blower's speed output, which no offer changes. -/
theorem State.offerSpeeds_eq (f : Int) (l : List BlowerIdx) (s u : State) (blowers : u.blowers = s.blowers) :
    u.each l (fun b v => v.offerSpeed b f) = l.foldl (fun v b => v.offerTo (s.blowers.get b).config.speedOutput f) u := by
  induction l generalizing u with
  | nil => rfl
  | cons b l ih =>
    have kept : (u.offerSpeed b f).blowers = s.blowers := (State.offerTo_but _ _ u .blowers (by decide)).trans blowers
    have here : u.offerSpeed b f = u.offerTo (s.blowers.get b).config.speedOutput f := by rw [State.offerSpeed, blowers]
    rw [State.each_cons, ih _ kept, List.foldl_cons, here]

/-- Settles O28: the grants by `sum_grants_le`, the common speed by `ceilDiv_le_iff`. -/
theorem grantsFitAndSpeedDelivers : Obligations.GrantsFitAndSpeedDelivers := by
  refine ⟨?_, fun G smin span f pos least most => commonSpeed_eq_iff pos least most, fun G smin span pos => commonSpeed_eq_full_iff pos,
    fun G smin => rfl, fun s G => ⟨rfl, State.offerSpeeds_eq _ _ s s rfl⟩⟩
  intro s C D F g
  have floor (z : ZoneIdx) : (s.zones.get z).floor ≤ (s.zones.get z).demand := Nat.min_le_right ..
  exact ⟨sum_grants_le s.takingPart floor rfl rfl, fun z _ => grantOf_le (floor z), fun floors z _ => floor_le_grantOf floors (floor z)⟩

end Sys2Proof.Machine
end

section
/-! The allocation of the air step by step (R104 to R110). -/
namespace Sys2Proof.Machine

namespace State

variable {s t : State}

/-! ### What staging can do (R120 to R122) -/

theorem leastBy_mem {key : BlowerIdx → Int} {l : List BlowerIdx} {b : BlowerIdx} (pick : leastBy key l = some b) : b ∈ l := by
  have full : l ≠ [] := by
    rintro rfl
    cases pick
  obtain ⟨m, mem, least, -⟩ := leastBy_spec key l full
  rw [least] at pick
  exact Option.some.inj pick ▸ mem

theorem candidate_ready {b : BlowerIdx} (pick : s.candidate = some b) : (s.blowers.get b).Ready := by
  rw [candidate, lowestRank_eq_leastBy] at pick
  exact (s.candidate_isReady b).1 (List.mem_filter.1 (leastBy_mem pick)).2

theorem surplus_running {D C : Nat} {b : BlowerIdx} (pick : s.surplus D C = some b) : (s.blowers.get b).state.isRunning = true := by
  have running (c) (mem : c ∈ s.runningBlowers) : (s.blowers.get c).state.isRunning = true := (List.mem_filter.1 mem).2
  unfold surplus at pick
  split at pick
  · cases pick
  · next c one =>
    split at pick
    · obtain rfl := Option.some.inj pick
      exact running c (by rw [one]; exact List.mem_singleton_self c)
    · cases pick
  · obtain ⟨l, highest, spare⟩ := Option.bind_eq_some_iff.1 pick
    split at spare
    · obtain rfl := Option.some.inj spare
      rw [highestRank_eq_leastBy] at highest
      exact running _ (leastBy_mem highest)
    · cases spare

/-- Staging does nothing, writes its counts, starts a ready blower or stops a running one. -/
theorem stage_cases (D C : Nat) (s : State) : s.stage D C = s ∨ (∃ up down, s.stage D C = s.setCounts up down) ∨
    (∃ b, (s.blowers.get b).Ready ∧ s.stage D C = s.startBlower b) ∨
    ∃ b, (s.blowers.get b).state.isRunning = true ∧ s.stage D C = s.stopBlower b := by
  unfold stage
  split
  · exact .inl rfl
  · refine .inr ?_
    split
    · next b highest =>
      rw [highestRank_eq_leastBy] at highest
      have pending : (s.blowers.get b).state = .running true := beq_iff_eq.1 (List.mem_filter.1 (leastBy_mem highest)).2
      exact .inr (.inr ⟨b, by rw [pending]; rfl, rfl⟩)
    · split
      · next up b starts =>
        refine .inr (.inl ⟨b, candidate_ready ?_, rfl⟩)
        rw [stageUp_eq] at starts
        obtain ⟨-, pick⟩ := Prod.mk.inj starts
        split at pick
        · exact pick
        · cases pick
      · next up starts =>
        unfold stageDown
        split
        · exact .inl ⟨_, _, rfl⟩
        · next b spare =>
          dsimp only
          split
          · exact .inr (.inr ⟨b, surplus_running spare, rfl⟩)
          · exact .inl ⟨_, _, rfl⟩

theorem stage_blowers (D C : Nat) (s : State) : (s.stage D C).blowers = s.blowers ∨
    ∃ b, (s.blowers.get b).Staged ((s.stage D C).blowers.get b) ∧ ∀ c, c ≠ b → (s.stage D C).blowers.get c = s.blowers.get c := by
  obtain same | ⟨up, down, counts⟩ | ⟨b, ⟨inService, stopped⟩, starts⟩ | ⟨b, running, stops⟩ := stage_cases D C s
  · exact .inl (congrArg State.blowers same)
  · refine .inl ?_
    rw [counts]
    rfl
  · refine .inr ⟨b, ?_, fun c other => ?_⟩ <;> rw [starts, startBlower_blowers]
    · rw [Table.get_set_self]
      exact ⟨rfl, .inl ⟨stopped, inService, rfl⟩⟩
    · exact Table.get_set_other _ _ other
  · refine .inr ⟨b, ?_, fun c other => ?_⟩ <;> rw [stops, stopBlower_blowers]
    · rw [Table.get_set_self]
      exact ⟨rfl, .inr ⟨running, rfl⟩⟩
    · exact Table.get_set_other _ _ other

/-- Staging writes no field of the allocator but its two counts. -/
theorem stage_allocator (D C : Nat) (s : State) : (s.stage D C).allocator =
    { s.allocator with upCount := (s.stage D C).allocator.upCount, downCount := (s.stage D C).allocator.downCount } := by
  obtain same | ⟨up, down, counts⟩ | ⟨b, -, starts⟩ | ⟨b, -, stops⟩ := stage_cases D C s
  · rw [same]
  · rw [counts]
    rfl
  · rw [starts, startBlower_allocator]
  · rw [stops, stopBlower_allocator]

theorem stage_other {o : OutputIdx} (unnamed : ∀ b, (s.blowers.get b).config.runOutput ≠ some o ∧ (s.blowers.get b).config.speedOutput ≠ some o)
    (D C : Nat) : (s.stage D C).outputs.get o = s.outputs.get o := by
  obtain same | ⟨up, down, counts⟩ | ⟨b, -, starts⟩ | ⟨b, -, stops⟩ := stage_cases D C s
  · rw [same]
  · rw [counts]
    rfl
  · rw [starts, startBlower_eq, withAllocator_outputs, offerTo_other (unnamed b).1, offerTo_other (unnamed b).2]
    rfl
  · rw [stops, stopBlower_eq, withAllocator_outputs, offerTo_other (unnamed b).2]
    rfl

/-! ### The reviews (R106 step 2) -/

/-- A blower after its review against its own status reading, or as it was without one (R112, R115). -/
def reviewedBlower (s : State) (bl : Blower) : Blower :=
  match s.driveReading bl.config.statusPoint with
  | none => bl
  | some r => { bl with state := bl.state.reviewed bl.config r }

theorem driveReading_congr (points : t.points = s.points) (p : Option PointIdx) : t.driveReading p = s.driveReading p := by
  unfold driveReading
  rw [points]

theorem reviewBlower_blowers (b : BlowerIdx) (s : State) :
    (s.reviewBlower b).blowers = s.blowers.set b (s.reviewedBlower (s.blowers.get b)) := by
  unfold reviewBlower reviewedBlower
  cases s.driveReading (s.blowers.get b).config.statusPoint with
  | none => exact (Table.set_get ..).symm
  | some r => exact review_blowers ..

/-- The reviews in index order leave every blower as its own review does. -/
theorem reviews_blowers (s : State) : (s.each (indices 6) State.reviewBlower).blowers = s.blowersReviewed := by
  refine Table.ext_get fun b => ?_
  rw [each_table_of State.blowers (I := fun u => u.points = s.points) (g := fun _ => s.reviewedBlower) (fun b u points => ?_)
    (fun b u points => ?_) _ (indices_nodup 6) rfl, if_pos (mem_indices b), blowersReviewed, Table.get_build]
  · rfl
  · rw [reviewBlower_blowers]
    unfold reviewedBlower
    rw [driveReading_congr points]
  · exact (reviewBlower_but b u .points (by decide)).trans points

theorem reviews_other {o : OutputIdx} (unnamed : ∀ b, (s.blowers.get b).config.runOutput ≠ some o ∧ (s.blowers.get b).config.speedOutput ≠ some o) :
    (s.each (indices 6) State.reviewBlower).outputs.get o = s.outputs.get o := by
  have kept : (s.each (indices 6) State.reviewBlower).outputs.get o = s.outputs.get o ∧
      ∀ b, ((s.each (indices 6) State.reviewBlower).blowers.get b).config = (s.blowers.get b).config := by
    refine each_induction (P := fun u => u.outputs.get o = s.outputs.get o ∧ ∀ b, (u.blowers.get b).config = (s.blowers.get b).config) _
      (fun b _ u ⟨output, config⟩ => ⟨?_, fun c => ?_⟩) ⟨rfl, fun _ => rfl⟩
    · rw [← output]
      unfold reviewBlower
      split
      · rfl
      · exact review_other (config b ▸ (unnamed b).1) (config b ▸ (unnamed b).2) _
    · rw [reviewBlower_blowers, Table.get_set, ← config c]
      split
      · next same =>
        subst same
        unfold reviewedBlower
        split <;> rfl
      · rfl
  exact kept.1

/-! ### The grants, the sums and the levels (R108 to R110) -/

theorem writeGrants_eq (D C F : Nat) (s : State) : s.writeGrants D C F =
    s.withZones (Table.build fun z => if s.isIdle z then s.zones.get z else (s.zones.get z).granted D C F) := by
  have distinct : s.takingPart.Nodup := (indices_nodup 32).filter _
  unfold writeGrants
  rw [each_zones (g := fun _ zn => zn.granted D C F) (fun _ _ => rfl) _ distinct]
  refine congrArg s.withZones (Table.ext_get fun z => ?_)
  rw [Table.get_build, Table.get_build]
  by_cases idle : s.isIdle z = true
  · rw [if_pos idle, if_neg (by simp [takingPart, idle])]
  · rw [if_neg idle, if_pos (by simp [takingPart, mem_indices, idle])]

theorem setAirShort_eq (b : Bool) (s : State) : s.setLevel .airShort b = if s.allocator.airShort = b then s else
    ((s.withAllocator { s.allocator with airShort := b }).capture (.condition .airShort (!b) b)).raise (.level .airShort b) := rfl

theorem setFloorShort_eq (b : Bool) (s : State) : s.setLevel .floorShort b = if s.allocator.floorShort = b then s else
    ((s.withAllocator { s.allocator with floorShort := b }).capture (.condition .floorShort (!b) b)).raise (.level .floorShort b) := rfl

theorem setAirShort_allocator (b : Bool) (s : State) : (s.setLevel .airShort b).allocator = { s.allocator with airShort := b } := by
  unfold setLevel
  split
  · next same =>
    subst same
    rfl
  · rfl

theorem setFloorShort_allocator (b : Bool) (s : State) : (s.setLevel .floorShort b).allocator = { s.allocator with floorShort := b } := by
  unfold setLevel
  split
  · next same =>
    subst same
    rfl
  · rfl

theorem offerCommonSpeed_other {o : OutputIdx} (unnamed : ∀ b, (s.blowers.get b).config.speedOutput ≠ some o) (G : Nat) :
    (s.offerCommonSpeed G).outputs.get o = s.outputs.get o := by
  have eq : s.offerCommonSpeed G = _ := offerSpeeds_eq (s.speedFor G) s.runningBlowers s s rfl
  rw [eq]
  exact each_induction (P := fun u => u.outputs.get o = s.outputs.get o) s.runningBlowers
    (fun b _ u same => (offerTo_other (unnamed b) _ u).trans same) rfl

/-! ### The allocation (R106) -/

/-- The state of an allocation once every blower has been reviewed (R106 step 2). -/
def allocationReviewed (s : State) : State := s.restartAllocation.each (indices 6) State.reviewBlower

/-- The state once the grants, the sums and the two levels have been written (R106 steps 3 to 5). -/
def allocationLevelled (r : State) (D C F G : Nat) : State :=
  ((((r.writeGrants D C F).writeSums D C G).setLevel .airShort (decide (C < D))).setLevel .floorShort (decide (C < F)))

theorem allocate_eq (s : State) : s.allocate =
    let r := s.allocationReviewed
    let G := r.totalGrant r.totalDemand r.capacity r.totalFloor
    ((r.allocationLevelled r.totalDemand r.capacity r.totalFloor G).offerCommonSpeed G).stage r.totalDemand r.capacity := rfl

theorem allocationReviewed_but (s : State) : s.SameBut allocationParts s.allocationReviewed :=
  ((s.withAllocator_but _).mono (by decide)).trans
    (.each _ (fun b u => (reviewBlower_but b u).mono (by decide)) _ _)

theorem allocationReviewed_allocator (s : State) :
    s.allocationReviewed.allocator = { s.allocator with timer := some (s.allocator.config.period * 10) } := by
  have kept := SameBut.each _ (fun b u => reviewBlower_but b u) (indices 6) s.restartAllocation .allocator (by decide)
  exact kept

theorem allocationReviewed_zones (s : State) : s.allocationReviewed.zones = s.zones := by
  have kept := SameBut.each _ (fun b u => reviewBlower_but b u) (indices 6) s.restartAllocation .zones (by decide)
  exact kept

theorem allocationReviewed_blowers (s : State) : s.allocationReviewed.blowers = s.blowersReviewed := reviews_blowers s.restartAllocation

theorem allocationReviewed_isIdle (z : ZoneIdx) (s : State) : s.allocationReviewed.isIdle z = s.isIdle z :=
  isIdle_of_lane (allocationReviewed_but s .lanes (by decide)) z

section

variable {r : State} {D C F G : Nat}

theorem allocationLevelled_but (r : State) (D C F G : Nat) :
    (r.writeGrants D C F).SameBut [.allocator, .history, .raised] (r.allocationLevelled D C F G) := by
  have air := setLevel_short_but .airShort (decide (C < D)) ((r.writeGrants D C F).writeSums D C G) (.inl rfl)
  have floor := setLevel_short_but .floorShort (decide (C < F)) (((r.writeGrants D C F).writeSums D C G).setLevel .airShort (decide (C < D)))
    (.inr rfl)
  exact (((withAllocator_but _ _).mono (by decide)).trans (air.mono (by decide))).trans (floor.mono (by decide))

/-- Grants, sums and levels touch the zones, the allocator and the history only, and hand changes of the levels over. -/
theorem allocationLevelled_from (r : State) (D C F G : Nat) :
    r.SameBut [.zones, .allocator, .history, .raised] (r.allocationLevelled D C F G) := by
  have grants : r.SameBut [.zones] (r.writeGrants D C F) := by
    rw [writeGrants_eq]
    exact withZones_but _ _
  exact (grants.mono (by decide)).trans ((allocationLevelled_but r D C F G).mono (by decide))

theorem allocationLevelled_allocator (r : State) (D C F G : Nat) : (r.allocationLevelled D C F G).allocator =
    { r.allocator with lastDemand := D, lastCapacity := C, lastGrant := G, airShort := decide (C < D), floorShort := decide (C < F) } := by
  have kept : (r.writeGrants D C F).allocator = r.allocator := by
    rw [writeGrants_eq]
    rfl
  unfold allocationLevelled
  rw [setFloorShort_allocator, setAirShort_allocator, writeSums, withAllocator_allocator, kept]

theorem allocationLevelled_zones (r : State) (D C F G : Nat) : (r.allocationLevelled D C F G).zones =
    Table.build fun z => if r.isIdle z then r.zones.get z else (r.zones.get z).granted D C F := by
  rw [allocationLevelled_but r D C F G .zones (by decide), writeGrants_eq]
  rfl

end

theorem offerCommonSpeed_but (G : Nat) (s : State) : s.SameBut offerParts (s.offerCommonSpeed G) :=
  .each _ (fun _ u => offerTo_but _ _ u) _ _

theorem stage_zones (D C : Nat) (s : State) : (s.stage D C).zones = s.zones := by
  obtain same | ⟨up, down, counts⟩ | ⟨b, -, starts⟩ | ⟨b, -, stops⟩ := stage_cases D C s
  · rw [same]
  · rw [counts]
    rfl
  · rw [starts, startBlower_eq, withAllocator_zones, offerTo_but _ _ _ .zones (by decide), offerTo_but _ _ _ .zones (by decide)]
    rfl
  · rw [stops, stopBlower_eq, withAllocator_zones, offerTo_but _ _ _ .zones (by decide)]
    rfl

theorem blowersReviewed_config (b : BlowerIdx) (s : State) : (s.blowersReviewed.get b).config = (s.blowers.get b).config := by
  rw [blowersReviewed, Table.get_build]
  dsimp only
  split <;> rfl

/-- The state staging works on in an allocation: what the steps before it have written (R106). -/
theorem allocate_before_staging (s : State) : ∃ u : State, s.allocate = u.stage s.totalDemand s.allocationReviewed.capacity ∧
    u.zones = (Table.build fun z => if s.isIdle z then s.zones.get z else
      (s.zones.get z).granted s.totalDemand s.allocationReviewed.capacity s.totalFloor) ∧
    u.allocator = { s.allocator with
      timer := some (s.allocator.config.period * 10), lastDemand := s.totalDemand, lastCapacity := s.allocationReviewed.capacity
      lastGrant := s.totalGrant s.totalDemand s.allocationReviewed.capacity s.totalFloor
      airShort := decide (s.allocationReviewed.capacity < s.totalDemand), floorShort := decide (s.allocationReviewed.capacity < s.totalFloor) } ∧
    u.blowers = s.blowersReviewed ∧
    ∀ o, (∀ b, (s.blowers.get b).config.runOutput ≠ some o ∧ (s.blowers.get b).config.speedOutput ≠ some o) →
      u.outputs.get o = s.outputs.get o := by
  have zones := s.allocationReviewed_zones
  have part : s.allocationReviewed.takingPart = s.takingPart := by
    unfold takingPart
    simp only [allocationReviewed_isIdle]
  have demand : s.allocationReviewed.totalDemand = s.totalDemand := by rw [totalDemand, totalDemand, part, zones]
  have floor : s.allocationReviewed.totalFloor = s.totalFloor := by rw [totalFloor, totalFloor, part, zones]
  have grant (D C F) : s.allocationReviewed.totalGrant D C F = s.totalGrant D C F := by rw [totalGrant, totalGrant, part, zones]
  have eq := s.allocate_eq
  dsimp only at eq
  rw [demand, floor, grant] at eq
  have kept := s.allocationReviewed.allocationLevelled_from s.totalDemand s.allocationReviewed.capacity s.totalFloor
    (s.totalGrant s.totalDemand s.allocationReviewed.capacity s.totalFloor)
  have levelledZones := s.allocationReviewed.allocationLevelled_zones s.totalDemand s.allocationReviewed.capacity s.totalFloor
    (s.totalGrant s.totalDemand s.allocationReviewed.capacity s.totalFloor)
  have levelledAllocator := s.allocationReviewed.allocationLevelled_allocator s.totalDemand s.allocationReviewed.capacity s.totalFloor
    (s.totalGrant s.totalDemand s.allocationReviewed.capacity s.totalFloor)
  obtain ⟨l, levels⟩ : ∃ l, s.allocationReviewed.allocationLevelled s.totalDemand s.allocationReviewed.capacity s.totalFloor
    (s.totalGrant s.totalDemand s.allocationReviewed.capacity s.totalFloor) = l := ⟨_, rfl⟩
  rw [levels] at eq kept levelledZones levelledAllocator
  have blowers : l.blowers = s.blowersReviewed := (kept .blowers (by decide)).trans s.allocationReviewed_blowers
  refine ⟨_, eq, ?_, ?_, ?_, fun o unnamed => ?_⟩
  · rw [offerCommonSpeed_but _ _ .zones (by decide), levelledZones, zones]
    simp only [allocationReviewed_isIdle]
  · rw [offerCommonSpeed_but _ _ .allocator (by decide), levelledAllocator, allocationReviewed_allocator]
  · rw [offerCommonSpeed_but _ _ .blowers (by decide), blowers]
  · rw [offerCommonSpeed_other fun b => by rw [blowers, blowersReviewed_config]; exact (unnamed b).2]
    rw [kept .outputs (by decide)]
    exact reviews_other (s := s.restartAllocation) unnamed

end State

/-- Settles O27: the steps before staging by `State.allocate_before_staging`, staging by `State.stage_cases`. -/
theorem allocationGrantsTheAir : Obligations.AllocationGrantsTheAir := by
  intro s running
  refine ⟨fun stopped => congrArg Host.Outcome.next (State.expire_of_unset (by simpa using stopped)), fun runs calm => ?_, fun runs => ?_⟩
  · intro reviewed part d fl D F C g
    have capacity : s.allocationReviewed.capacity = C := by
      rw [State.capacity, State.runningBlowers, s.allocationReviewed_blowers]
    obtain ⟨u, eq, zones, allocator, blowers, outputs⟩ := s.allocate_before_staging
    rw [capacity] at eq zones allocator
    have but := s.allocate_but
    have taken := calm.drain_of_but but (by decide) (State.ConditionsWait.of_none calm.raised).allocate
    have outcome : exec .allocationExpiry s = .next (s.allocate.withRaised []) :=
      congrArg Host.Outcome.next ((State.expire_of_running running runs).trans taken)
    have same : s.SameOutside s.allocate := .of_but but (by decide)
    obtain ⟨t, allocated⟩ : ∃ t, s.allocate = t := ⟨_, rfl⟩
    rw [allocated] at eq but outcome same
    refine ⟨_, outcome, fun z => ?_, ?_, ?_, fun o unnamed => ?_, but .lanes (by decide), but .watches (by decide), rfl,
      but .freeIndex (by decide), ?_⟩
    · show t.zones.get z = _
      rw [eq, State.stage_zones, zones, Table.get_build]
      rfl
    · show t.allocator = { config := _, upCount := t.allocator.upCount, downCount := t.allocator.downCount, lastDemand := _, lastCapacity := _
                           lastGrant := _, timer := _, airShort := _, floorShort := _ }
      rw [eq, State.stage_allocator, allocator]
      rfl
    · show t.blowers = _ ∨ ∃ b, (reviewed.get b).Staged (t.blowers.get b) ∧ ∀ c, c ≠ b → t.blowers.get c = reviewed.get c
      rw [eq, show reviewed = u.blowers from blowers.symm]
      exact State.stage_blowers D C u
    · show t.outputs.get o = _
      rw [eq, State.stage_other (fun b => by rw [blowers, State.blowersReviewed_config]; exact unnamed b), outputs o unnamed]
    · exact ⟨same.power, same.ownAddress, same.timeCount, same.received, same.passing, same.inPassage, same.routes, same.points, same.plant,
        same.returns, same.supervision, same.management, same.pending⟩
  · intro r part d fl D F C g G granted air aired floor floored
    have reviewed : s.allocationReviewed = r := by
      change List.foldl (fun u b => State.reviewBlower b u) s.restartAllocation (indices 6) = List.foldl _ s.restartAllocation (indices 6)
      refine congrArg (fun f => List.foldl f s.restartAllocation (indices 6)) (funext fun u => funext fun b => ?_)
      unfold State.reviewBlower
      cases u.driveReading (u.blowers.get b).config.statusPoint <;> rfl
    have written : r.writeGrants D C F = r.withZones (Table.build fun z => if r.isIdle z then r.zones.get z else
        { r.zones.get z with grant := some (g z), cut := decide (g z < d z) }) := r.writeGrants_eq D C F
    have summed : (r.writeGrants D C F).writeSums D C G = granted := by
      rw [written]
      rfl
    have levelled : r.allocationLevelled D C F G = floored := by
      have airs : granted.setLevel .airShort air = aired := State.setAirShort_eq air granted
      have floors : aired.setLevel .floorShort floor = floored := State.setFloorShort_eq floor aired
      rw [State.allocationLevelled, summed, airs, floors]
    have eq := s.allocate_eq
    rw [reviewed] at eq
    refine congrArg Host.Outcome.next ((State.expire_of_running running runs).trans (congrArg State.drain (eq.trans ?_)))
    exact congrArg (fun u => (State.offerCommonSpeed G u).stage D C) levelled

end Sys2Proof.Machine
end

section
/-! One pacing of a return line (R129 to R135). -/
namespace Sys2Proof.Machine

theorem Table.rows_eq {n : Nat} {α : Type} (t : Table n α) : t.rows = (indices n).map t.get := by
  rw [← List.map_id t.rows]
  exact (Table.map_indices_get t id).symm

/-- The records of a table that pass a test, through their indices. -/
theorem Table.filter_rows {n : Nat} {α β : Type} (t : Table n α) (p : α → Bool) (f : α → β) :
    (t.rows.filter p).map f = ((indices n).filter fun i => p (t.get i)).map fun i => f (t.get i) := by
  rw [Table.rows_eq, List.filter_map, List.map_map]
  rfl

namespace State

variable {s : State} {r : LineIdx}

/-! ### The weights (R131) -/

/-- The lanes that count in the weights. -/
abbrev servedLanes (s : State) : List LaneIdx := (indices 8).filter fun k => (s.lanes.get k).state.regime != .offline

theorem plantWeight_eq (s : State) : s.plantWeight = (s.servedLanes.map fun k => (s.lanes.get k).config.influentWeight).sum := by
  rw [plantWeight, Table.filter_rows]
  rfl

theorem lineWeight_eq (r : LineIdx) (s : State) : s.lineWeight r = ((s.servedLanes.filter fun k =>
    (s.lanes.get k).config.returnLine == some r).map fun k => (s.lanes.get k).config.influentWeight).sum := by
  rw [lineWeight, Table.filter_rows, List.filter_filter]
  simp only [Bool.and_comm]
  rfl

theorem lineInStorm_iff (r : LineIdx) (s : State) : s.lineInStorm r = true ↔
    ∃ k, (s.lanes.get k).config.returnLine = some r ∧ (s.lanes.get k).state.regime = .storm := by
  rw [lineInStorm, Table.any_rows]
  simp

theorem isSupervised_iff (o : Option OutputIdx) (s : State) : s.isSupervised o = true ↔ ∃ p, o = some p ∧ (s.outputs.get p).state = .supervised := by
  unfold isSupervised
  cases o <;> simp

/-! ### The choice and the trim (R129 to R135) -/

/-- A line that has chosen its state and its target, its timer started again. -/
def lineChosen (s : State) (r : LineIdx) (st : LineState) (target : Nat) : State :=
  s.setReturn r { s.returns.get r with state := st, target := target, timer := some (tenths (s.returns.get r).config.period) }

/-- What a line's pump is offered by the state the line has chosen (R131, R135). -/
def servePump (r : LineIdx) (st : LineState) (u : State) : State :=
  match st with
  | .heldManual => u
  | .stopped => u.stopPump r
  | .pacing => u.trimPump r
  | .heldStorm _ => u.trimPump r
  | .heldStale => u.trimPump r

theorem pace_eq {st : LineState} {target : Nat} (choice : s.choosePacing r = (st, target)) :
    s.pace r = (s.lineChosen r st target).servePump r st := by
  unfold pace
  rw [choice]
  cases st <;> rfl

/-- The trim a line's pump is offered for a target (R135). -/
abbrev pumpTrim (s : State) (r : LineIdx) (target : Nat) (u : State) : State :=
  match (s.returns.get r).config.pumpOutput with
  | none => u
  | some o => u.offer o ((s.outputs.get o).last.getD (((s.outputs.get o).config.low + (s.outputs.get o).config.high).tdiv 2) +
      match s.usable (s.returns.get r).config.flowPoint with
      | some flow => clampInt (-(s.returns.get r).config.rate) (s.returns.get r).config.rate
          (((target - flow) * (s.returns.get r).config.gain).tdiv 1024)
      | none => 0)

theorem trimPump_eq (st : LineState) (target : Nat) (s : State) :
    (s.lineChosen r st target).trimPump r = s.pumpTrim r target (s.lineChosen r st target) := by
  have line : (s.lineChosen r st target).returns.get r =
      { s.returns.get r with state := st, target := target, timer := some (tenths (s.returns.get r).config.period) } := Table.get_set_self ..
  have outputs : (s.lineChosen r st target).outputs = s.outputs := rfl
  have usable (p) : (s.lineChosen r st target).usable p = s.usable p := rfl
  unfold trimPump pumpTrim
  rw [line]
  dsimp only
  cases (s.returns.get r).config.pumpOutput with
  | none => rfl
  | some o =>
    dsimp only
    rw [outputs, usable, base_eq]
    cases s.usable (s.returns.get r).config.flowPoint <;> rfl

theorem stopPump_eq (st : LineState) (target : Nat) (s : State) : (s.lineChosen r st target).stopPump r =
    match (s.returns.get r).config.pumpOutput with
    | none => s.lineChosen r st target
    | some o => (s.lineChosen r st target).offer o (s.outputs.get o).config.low := by
  have line : (s.lineChosen r st target).returns.get r =
      { s.returns.get r with state := st, target := target, timer := some (tenths (s.returns.get r).config.period) } := Table.get_set_self ..
  unfold stopPump
  rw [line]
  dsimp only
  cases (s.returns.get r).config.pumpOutput <;> rfl

/-- The target of a line in PACING (R134). -/
theorem pacedTarget_eq (c : ReturnConfig) (share : Nat) (blanket : Option Int) : c.pacedTarget share blanket =
    clampNat c.minFlow c.maxFlow (share * min (c.ratio + (match blanket with
      | some b => if c.blanketThreshold ≤ b then c.boost else 0
      | none => 0)) 2000 / 1000) := by
  unfold ReturnConfig.pacedTarget ReturnConfig.effectiveRatio ReturnConfig.limit
  cases blanket with
  | none => rfl
  | some b =>
    dsimp only
    split <;> rfl

end State

/-- Settles O31: the five states in their order by `State.pace_eq`. -/
theorem pacingSetsTheTarget : Obligations.PacingSetsTheTarget := by
  intro s r running l c served weight mine held manual still storm enter trim
  have paced (runs : l.timer.isSome = true) : exec (.pacingExpiry r) s = .next (s.pace r).drain :=
    congrArg Host.Outcome.next (State.expire_of_running running runs)
  have isManual : s.isSupervised c.pumpOutput = true ↔ manual := s.isSupervised_iff _
  have isStill : (s.lineWeight r = 0 ∨ s.plantWeight = 0) ↔ still := by rw [s.lineWeight_eq, s.plantWeight_eq]
  have inStorm : s.lineInStorm r = true ↔ storm := s.lineInStorm_iff r
  refine ⟨fun stopped => ?_, fun runs => ⟨fun hand => ?_, fun auto none => ?_, fun auto flows stormy => ?_, fun auto flows calm unusable => ?_,
    fun auto flows calm q usable => ?_⟩⟩
  · exact congrArg Host.Outcome.next (State.expire_of_unset (by simpa using stopped))
  · have choice : s.choosePacing r = (.heldManual, held) := if_pos (isManual.2 hand)
    rw [paced runs, State.pace_eq choice]
    rfl
  · have choice : s.choosePacing r = (.stopped, 0) := (if_neg (mt isManual.1 auto)).trans (if_pos (isStill.2 none))
    rw [paced runs, State.pace_eq choice, State.servePump, State.stopPump_eq]
    rfl
  · intro h
    have choice : s.choosePacing r = (.heldStorm h, h) := by
      have held : l.stormTarget = h := by
        unfold ReturnLine.stormTarget
        cases state : l.state <;> simp only [h, state] <;> rfl
      refine ((if_neg (mt isManual.1 auto)).trans ((if_neg (mt isStill.1 flows)).trans (if_pos (inStorm.2 stormy)))).trans ?_
      rw [held]
    rw [paced runs, State.pace_eq choice, State.servePump, State.trimPump_eq]
    rfl
  · have choice : s.choosePacing r = (.heldStale, held) := by
      refine ((if_neg (mt isManual.1 auto)).trans ((if_neg (mt isStill.1 flows)).trans (if_neg (mt inStorm.1 calm)))).trans ?_
      rw [unusable]
      rfl
    rw [paced runs, State.pace_eq choice, State.servePump, State.trimPump_eq]
    rfl
  · intro boost target
    have choice : s.choosePacing r = (.pacing, target) := by
      refine ((if_neg (mt isManual.1 auto)).trans ((if_neg (mt isStill.1 flows)).trans (if_neg (mt inStorm.1 calm)))).trans ?_
      rw [usable]
      dsimp only
      rw [State.pacedTarget_eq, s.lineWeight_eq, s.plantWeight_eq]
      rfl
    rw [paced runs, State.pace_eq choice, State.servePump, State.trimPump_eq]
    rfl

end Sys2Proof.Machine
end

section
/-! Trips and firings: one lane's trip, the spread over its group, and the steps of a firing (R69 to R71, R99, R151, R165 to R171). -/
namespace Sys2Proof.Machine

namespace State

variable {s t u : State} {k : LaneIdx} {z : ZoneIdx} {o : OutputIdx}

/-! ### One lane's trip, in full (R69, R71, R99) -/

theorem eachWorking_eq (k : LaneIdx) (f : Zone → Zone) (s : State) : s.eachWorking k f = s.withZones (Table.build fun z =>
    if laneOf z = k ∧ s.isIdle z = false then f (s.zones.get z) else s.zones.get z) := by
  refine (eachWorking_but k f s).eq_of (s.withZones_but _) ?_
  intro p mem
  obtain rfl := List.mem_singleton.1 mem
  refine Table.ext_get fun z => ?_
  rw [withZones_zones, Table.get_build, eachWorking_zones]

/-- A zone as its lane trips: one that the lane counts asks for trip air (R99). -/
def tripZone (s : State) (k : LaneIdx) (z : ZoneIdx) : Zone :=
  if laneOf z = k ∧ (placeOf z).val < (s.lanes.get k).config.zoneCount then
    { s.zones.get z with demand := (s.zones.get z).config.tripAir, offDemand := false }
  else s.zones.get z

/-- The state of a trip before the lane's valve outputs take it (R69, R99). -/
def tripBegun (s : State) (k : LaneIdx) (cause : WatchIdx) : State :=
  (((s.capture (.trip k cause)).withLanes (s.lanes.set k { s.lanes.get k with state := .tripped cause, dwell := 0 })).capture
    (.regime k (s.lanes.get k).state.regime .tripped)).withZones (Table.build (s.tripZone k))

/-- A zone that ends its cycle as the lane trips is one the lane counts, so its trip air replaces the AIR_ON demand. -/
theorem regimeLeft_counted (z : ZoneIdx) (left : s.regimeLeft k z ≠ s.zones.get z) :
    laneOf z = k ∧ (placeOf z).val < (s.lanes.get k).config.zoneCount ∧ s.regimeLeft k z = (s.zones.get z).airOn := by
  unfold regimeLeft cycleEnded at left ⊢
  split at left
  · next economy =>
    split at left
    · next ended =>
      obtain ⟨mine, follows, off⟩ := ended
      have working : s.isIdle z = false := by
        rw [follows_eq] at follows
        simp [Zone.cycles] at follows
        exact follows.1.1
      have counted : ¬((s.laneOfZone z).state.regime = .offline ∨ (s.laneOfZone z).config.zoneCount ≤ (placeOf z).val) := by
        rw [← Lane.idles_iff]
        exact ne_true_of_eq_false working
      rw [if_pos economy, if_pos ⟨mine, follows, off⟩]
      exact ⟨mine, mine ▸ Nat.lt_of_not_le fun le => counted (.inr le), rfl⟩
    · exact absurd rfl left
  · exact absurd rfl left

theorem tripLane_eq (k : LaneIdx) (cause : WatchIdx) (s : State) : s.tripLane k cause = (s.tripBegun k cause).tripOutputs k := by
  have zone (z : ZoneIdx) : (((s.capture (.trip k cause)).changeRegime k (.tripped cause)).tripZones k).zones.get z = s.tripZone k z := by
    rw [tripZones, eachWorking_zones, changeRegime_zone]
    have left : (s.capture (.trip k cause)).regimeLeft k z = s.regimeLeft k z := rfl
    rw [left, tripZone]
    have lane : ((s.capture (.trip k cause)).changeRegime k (.tripped cause)).lanes.get k =
        { s.lanes.get k with state := .tripped cause, dwell := 0 } := by
      rw [changeRegime_lanes]
      exact Table.get_set_self ..
    by_cases mine : laneOf z = k
    · have idle : ((s.capture (.trip k cause)).changeRegime k (.tripped cause)).isIdle z = false ↔
          (placeOf z).val < (s.lanes.get k).config.zoneCount := by
        rw [← Bool.not_eq_true, isIdle, laneOfZone, mine, lane, Lane.idles_iff]
        simp [LaneState.regime]
      by_cases counted : (placeOf z).val < (s.lanes.get k).config.zoneCount
      · rw [if_pos ⟨mine, idle.2 counted⟩, if_pos ⟨mine, counted⟩]
        by_cases same : s.regimeLeft k z = s.zones.get z
        · rw [same]
          rfl
        · obtain ⟨-, -, airOn⟩ := regimeLeft_counted z same
          rw [airOn]
          rfl
      · rw [if_neg fun h => counted (idle.1 h.2), if_neg fun h => counted h.2]
        by_contra other
        exact counted (regimeLeft_counted z other).2.1
    · rw [if_neg fun h => mine h.1, if_neg fun h => mine h.1]
      by_contra other
      exact mine (regimeLeft_counted z other).1
  have begun : ((s.capture (.trip k cause)).changeRegime k (.tripped cause)).tripZones k = s.tripBegun k cause := by
    have zones : (((s.capture (.trip k cause)).changeRegime k (.tripped cause)).tripZones k).zones = Table.build (s.tripZone k) :=
      Table.ext_get fun z => by rw [zone, Table.get_build]
    rw [tripZones, eachWorking_eq] at zones ⊢
    rw [withZones_zones] at zones
    rw [zones, changeRegime_eq]
    rfl
  exact congrArg (tripOutputs k) begun

/-! ### The valve outputs of a trip (R141, R151) -/

theorem mem_valvesOf : o ∈ s.valvesOf k ↔ (s.outputs.get o).config.kind = .zoneValve ∧ laneOf (s.outputs.get o).config.owner = k := by
  unfold valvesOf OutputConfig.valveLane
  rw [List.mem_filter]
  simp [mem_indices]

theorem valvesOf_eq (k : LaneIdx) (s : State) : s.valvesOf k = (indices 64).filter fun o =>
    decide ((s.outputs.get o).config.kind = .zoneValve ∧ laneOf (s.outputs.get o).config.owner = k) := by
  refine List.filter_congr fun o _ => Bool.eq_iff_iff.2 ?_
  unfold OutputConfig.valveLane
  simp

/-- The step of a trip at one valve output: released, and given its trip value as a forced offer (R151). -/
def tripOutput (o : OutputIdx) (v : Int) (u : State) : State := (u.changeOutput o .auto).forcedOffer o v

theorem tripOutput_keeps (o p : OutputIdx) (v : Int) (u : State) : ((u.tripOutput o v).outputs.get p).config = (u.outputs.get p).config := by
  obtain ⟨c1, -⟩ := changeOutput_keeps o .auto u p
  obtain ⟨c2, -⟩ := forcedOffer_keeps o v (u.changeOutput o .auto) p
  exact c2.trans c1

/-- The trip values are those the outputs had at the start: no step of the trip changes a configuration. -/
theorem tripOutputs_eq (k : LaneIdx) (s : State) : s.tripOutputs k =
    (s.valvesOf k).foldl (fun u o => u.tripOutput o (s.outputs.get o).config.trip) s := by
  have all (l : List OutputIdx) (u : State) (config : ∀ o, (u.outputs.get o).config = (s.outputs.get o).config) :
      u.each l (fun o v => (v.changeOutput o .auto).forcedOffer o ((v.changeOutput o .auto).outputs.get o).config.trip) =
        l.foldl (fun u o => u.tripOutput o (s.outputs.get o).config.trip) u := by
    induction l generalizing u with
    | nil => rfl
    | cons o l ih =>
      have trip : ((u.changeOutput o .auto).outputs.get o).config = (s.outputs.get o).config := (changeOutput_keeps o .auto u o).1.trans (config o)
      rw [each_cons, List.foldl_cons, trip]
      exact ih _ fun p => (tripOutput_keeps o p _ u).trans (config p)
  exact all _ s fun _ => rfl

theorem forcedOffer_other {p : OutputIdx} (other : p ≠ o) (v : Int) (s : State) : (s.forcedOffer o v).outputs.get p = s.outputs.get p := by
  unfold forcedOffer
  dsimp only
  split
  · rfl
  · split
    · rfl
    · split
      · obtain ⟨r, outputs⟩ := sendValue_outputs o ((s.outputs.get o).config.limit v) s
        rw [outputs, Table.get_set_other _ _ other]
      · rfl

theorem tripOutput_other {p : OutputIdx} (other : p ≠ o) (v : Int) (s : State) : (s.tripOutput o v).outputs.get p = s.outputs.get p := by
  rw [tripOutput, forcedOffer_other other, changeOutput_outputs, Table.get_set_other _ _ other]

/-- A used AUTO output holds the value of a forced offer, whether it was sent now or before (R151). -/
theorem forcedOffer_last (used : (s.outputs.get o).config.destination ≠ 0) (auto : (s.outputs.get o).state = .auto) (v : Int) :
    ((s.forcedOffer o v).outputs.get o).last = some ((s.outputs.get o).config.limit v) := by
  rw [forcedOffer_of_auto used auto]
  split
  · obtain ⟨r, outputs⟩ := sendValue_outputs o ((s.outputs.get o).config.limit v) s
    rw [outputs, Table.get_set_self, Output.sent_last]
  · next stands => exact ((Output.sendsForced_eq_false_iff _).1 (Bool.not_eq_true _ ▸ stands)).1

theorem tripOutput_self (o : OutputIdx) (v : Int) (s : State) : ((s.tripOutput o v).outputs.get o).state = .auto ∧
    ((s.outputs.get o).config.destination ≠ 0 → ((s.tripOutput o v).outputs.get o).last = some ((s.outputs.get o).config.limit v)) := by
  obtain ⟨config, released⟩ := changeOutput_keeps o .auto s o
  rw [if_pos rfl] at released
  refine ⟨(forcedOffer_keeps o v (s.changeOutput o .auto) o).2.trans released, fun used => ?_⟩
  rw [tripOutput, forcedOffer_last (by rw [config]; exact used) released, config]

/-- The outputs after a trip's steps at a list of them. -/
theorem tripOutputs_list (v : OutputIdx → Int) (l : List OutputIdx) (distinct : l.Nodup) (s : State) (o : OutputIdx) :
    let t := l.foldl (fun u o => u.tripOutput o (v o)) s
    (o ∉ l → t.outputs.get o = s.outputs.get o) ∧
    (o ∈ l → (t.outputs.get o).config = (s.outputs.get o).config ∧ (t.outputs.get o).state = .auto ∧
      ((s.outputs.get o).config.destination ≠ 0 → (t.outputs.get o).last = some ((s.outputs.get o).config.limit (v o)))) := by
  induction l generalizing s with
  | nil => exact ⟨fun _ => rfl, nofun⟩
  | cons p l ih =>
    obtain ⟨fresh, distinct⟩ := List.nodup_cons.1 distinct
    obtain ⟨out, within⟩ := ih distinct (s.tripOutput p (v p))
    rw [List.foldl_cons]
    refine ⟨fun absent => ?_, fun mem => ?_⟩
    · have other : o ≠ p := fun same => absent (same ▸ List.mem_cons_self)
      exact (out fun mem => absent (List.mem_cons_of_mem _ mem)).trans (tripOutput_other other _ s)
    · by_cases same : o = p
      · subst same
        obtain ⟨auto, last⟩ := tripOutput_self o (v o) s
        rw [out fresh]
        exact ⟨tripOutput_keeps o o _ s, auto, last⟩
      · have kept := tripOutput_other (o := p) same (v p) s
        have done := within ((List.mem_cons.1 mem).resolve_left same)
        rw [kept] at done
        exact done

/-! ### What a trip leaves of lanes, zones and outputs -/

end State

/-- The zone is as it was but for its mode and its pending re-seed. -/
def Zone.SameButMode (zn zn' : Zone) : Prop := ∃ m r, zn' = { zn with mode := m, reseed := r }

theorem Zone.SameButMode.refl (zn : Zone) : zn.SameButMode zn := ⟨zn.mode, zn.reseed, rfl⟩

theorem Zone.SameButMode.trans {a b c : Zone} : a.SameButMode b → b.SameButMode c → a.SameButMode c := by
  rintro ⟨-, -, rfl⟩ ⟨m, r, rfl⟩
  exact ⟨m, r, rfl⟩

namespace State

variable {s t u : State} {k : LaneIdx} {z : ZoneIdx} {o : OutputIdx}

theorem decideMode_sameButMode (y z : ZoneIdx) (s : State) : (s.zones.get z).SameButMode ((s.decideMode y).zones.get z) := by
  rw [decideMode_eq]
  change (s.zones.get z).SameButMode ((s.zones.set y _).get z)
  rw [Table.get_set]
  split
  · next same =>
    subst same
    exact ⟨_, _, rfl⟩
  · exact .refl _

theorem changeOutput_sameButMode (o : OutputIdx) (new : OutputState) (z : ZoneIdx) (s : State) :
    (s.zones.get z).SameButMode ((s.changeOutput o new).zones.get z) := by
  unfold changeOutput
  dsimp only
  split
  · exact .refl _
  · refine each_induction (P := fun u => (s.zones.get z).SameButMode (u.zones.get z)) _ (fun y _ u h => ?_) (.refl _)
    split
    · exact h.trans (decideMode_sameButMode y z u)
    · exact h

theorem tripOutputs_sameButMode (k : LaneIdx) (z : ZoneIdx) (s : State) : (s.zones.get z).SameButMode ((s.tripOutputs k).zones.get z) := by
  refine each_induction (P := fun u => (s.zones.get z).SameButMode (u.zones.get z)) _ (fun o _ u h => ?_) (.refl _)
  rw [(forcedOffer_but o _ _) .zones (by decide)]
  exact h.trans (changeOutput_sameButMode o .auto z u)

theorem tripLane_lanes (k : LaneIdx) (cause : WatchIdx) (s : State) :
    (s.tripLane k cause).lanes = s.lanes.set k { s.lanes.get k with state := .tripped cause, dwell := 0 } := by
  rw [tripLane_eq, (tripOutputs_but k _) .lanes (by decide)]
  rfl

theorem tripLane_other_lane {j : LaneIdx} (other : j ≠ k) (cause : WatchIdx) (s : State) : (s.tripLane k cause).lanes.get j = s.lanes.get j := by
  rw [tripLane_lanes, Table.get_set_other _ _ other]

theorem tripLane_zone (k : LaneIdx) (cause : WatchIdx) (z : ZoneIdx) (s : State) :
    (s.tripZone k z).SameButMode ((s.tripLane k cause).zones.get z) := by
  have begun : (s.tripBegun k cause).zones.get z = s.tripZone k z := Table.get_build ..
  rw [tripLane_eq, ← begun]
  exact tripOutputs_sameButMode k z _

theorem tripLane_config (k : LaneIdx) (cause : WatchIdx) (o : OutputIdx) (s : State) :
    ((s.tripLane k cause).outputs.get o).config = (s.outputs.get o).config := by
  rw [tripLane_eq]
  exact (tripOutputs_keeps k (s.tripBegun k cause) o).1

/-- One lane's trip leaves every output but its own valves alone; those are AUTO and, where used, at the trip value (R71, R151). -/
theorem tripLane_output (k : LaneIdx) (cause : WatchIdx) (o : OutputIdx) (s : State) :
    let t := s.tripLane k cause
    (o ∉ s.valvesOf k → t.outputs.get o = s.outputs.get o) ∧
    (o ∈ s.valvesOf k → (t.outputs.get o).state = .auto ∧
      ((s.outputs.get o).config.destination ≠ 0 →
        (t.outputs.get o).last = some ((s.outputs.get o).config.limit (s.outputs.get o).config.trip))) := by
  have begun : (s.tripBegun k cause).outputs = s.outputs := rfl
  have valves : (s.tripBegun k cause).valvesOf k = s.valvesOf k := rfl
  have listed := tripOutputs_list (fun o => (s.outputs.get o).config.trip) (s.valvesOf k) ((indices_nodup _).filter _) (s.tripBegun k cause) o
  dsimp only at listed ⊢
  rw [tripLane_eq, tripOutputs_eq, valves, begun]
  rw [begun] at listed
  obtain ⟨out, within⟩ := listed
  exact ⟨out, fun mem => (within mem).2⟩

/-! ### The trip request (R69, R70) -/

/-- The trip request trips the lane: it is in a working regime and is the named lane or shares its spreading group (R69, R70). -/
def reaches (s : State) (k j : LaneIdx) : Bool := (s.lanes.get j).state.isWorking &&
  (decide (j = k) || s.spreads k && decide ((s.lanes.get j).config.tripGroup = (s.lanes.get k).config.tripGroup))

/-- The lanes a request trips, the named lane first and the others in index order. -/
def tripList (s : State) (k : LaneIdx) : List LaneIdx := (k :: (indices 8).filter (· ≠ k)).filter (s.reaches k)

theorem tripList_nodup (s : State) (k : LaneIdx) : (s.tripList k).Nodup :=
  (List.nodup_cons.2 ⟨fun mem => by simp at mem, (indices_nodup _).filter _⟩).filter _

theorem mem_tripList {j : LaneIdx} : j ∈ s.tripList k ↔ s.reaches k j = true := by
  unfold tripList
  rw [List.mem_filter, List.mem_cons, List.mem_filter]
  by_cases same : j = k <;> simp [same, mem_indices]

theorem spreads_iff : s.spreads k = true ↔ ∃ g, (s.lanes.get k).config.tripGroup = some g ∧ s.plant.config.crossTrip.get g = true := by
  unfold spreads
  cases (s.lanes.get k).config.tripGroup <;> simp

theorem reaches_iff {j : LaneIdx} : s.reaches k j = true ↔
    ((s.lanes.get j).state.regime ≠ .offline ∧ (s.lanes.get j).state.regime ≠ .tripped) ∧
    (j = k ∨ ((∃ g, (s.lanes.get k).config.tripGroup = some g ∧ s.plant.config.crossTrip.get g = true) ∧
      (s.lanes.get j).config.tripGroup = (s.lanes.get k).config.tripGroup)) := by
  unfold reaches
  rw [Bool.and_eq_true, Bool.or_eq_true, Bool.and_eq_true, isWorking_iff, spreads_iff]
  simp

/-- The other lanes of a request are met as they were before it: a trip changes no other lane and no configuration. -/
theorem others_trip_eq (k : LaneIdx) (cause : WatchIdx) (l : List LaneIdx) (distinct : l.Nodup) (spreads : s.spreads k = true)
    (configs : ∀ j, (u.lanes.get j).config = (s.lanes.get j).config) (ahead : ∀ j ∈ l, j ≠ k → u.lanes.get j = s.lanes.get j) :
    u.each l (fun j s => if j ≠ k ∧ (s.lanes.get j).config.tripGroup = (s.lanes.get k).config.tripGroup then s.tripIfWorking j cause else s) =
      ((l.filter (· ≠ k)).filter (s.reaches k)).foldl (fun u j => u.tripLane j cause) u := by
  induction l generalizing u with
  | nil => rfl
  | cons j l ih =>
    obtain ⟨fresh, distinct⟩ := List.nodup_cons.1 distinct
    have later (i : LaneIdx) (mem : i ∈ l) : i ≠ k → u.lanes.get i = s.lanes.get i := ahead i (List.mem_cons_of_mem _ mem)
    rw [each_cons, configs j, configs k]
    by_cases named : j = k
    · rw [if_neg fun h => h.1 named, List.filter_cons_of_neg (by simpa using named)]
      exact ih distinct configs later
    · rw [List.filter_cons_of_pos (by simpa using named)]
      have reached : s.reaches k j = true ↔
          (s.lanes.get j).state.isWorking = true ∧ (s.lanes.get j).config.tripGroup = (s.lanes.get k).config.tripGroup := by
        simp [reaches, named, spreads]
      by_cases trips : s.reaches k j = true
      · obtain ⟨working, group⟩ := reached.1 trips
        rw [List.filter_cons_of_pos trips, List.foldl_cons, if_pos ⟨named, group⟩, tripIfWorking, ahead j List.mem_cons_self named, if_pos working]
        refine ih distinct (fun i => ?_) fun i mem other => ?_
        · rw [tripLane_lanes, Table.get_set]
          split
          · next same => exact same ▸ configs j
          · exact configs i
        · rw [tripLane_other_lane (fun same => fresh (Eq.mp (congrArg (· ∈ l) same) mem)), later i mem other]
      · rw [List.filter_cons_of_neg trips]
        split
        · next group =>
          rw [tripIfWorking, ahead j List.mem_cons_self named, if_neg fun working => trips (reached.2 ⟨working, group.2⟩)]
          exact ih distinct configs later
        · exact ih distinct configs later

theorem tripRequest_eq (k : LaneIdx) (cause : WatchIdx) (s : State) : s.tripRequest k cause =
    (s.tripList k).foldl (fun u j => u.tripLane j cause) s := by
  obtain ⟨first, named⟩ : ∃ u, s.tripIfWorking k cause = u := ⟨_, rfl⟩
  have lanes (j : LaneIdx) : (first.lanes.get j).config = (s.lanes.get j).config ∧ (j ≠ k → first.lanes.get j = s.lanes.get j) := by
    rw [← named, tripIfWorking]
    split
    · rw [tripLane_lanes, Table.get_set]
      split
      · next same => exact ⟨same ▸ rfl, fun other => absurd same.symm other⟩
      · exact ⟨rfl, fun _ => rfl⟩
    · exact ⟨rfl, fun _ => rfl⟩
  have plant : first.plant = s.plant := by rw [← named]; exact tripIfWorking_but k cause s .plant (by decide)
  have spreads : first.spreads k = s.spreads k := by
    unfold State.spreads
    rw [(lanes k).1, plant]
  have front (l : List LaneIdx) : ((k :: l).filter (s.reaches k)).foldl (fun u j => u.tripLane j cause) s =
      (l.filter (s.reaches k)).foldl (fun u j => u.tripLane j cause) first := by
    rw [← named, tripIfWorking]
    by_cases working : (s.lanes.get k).state.isWorking = true
    · rw [List.filter_cons_of_pos (by simp [reaches, working]), if_pos working]
      rfl
    · rw [List.filter_cons_of_neg (by simp [reaches, working]), if_neg working]
  rw [tripRequest, tripList, front, named, spreads]
  by_cases spread : s.spreads k = true
  · rw [if_pos spread]
    exact others_trip_eq k cause _ (indices_nodup _) spread (fun j => (lanes j).1) fun j _ => (lanes j).2
  · rw [if_neg spread]
    have none : ((indices 8).filter (· ≠ k)).filter (s.reaches k) = [] := by
      refine List.filter_eq_nil_iff.2 fun j mem => ?_
      have other : j ≠ k := by simpa using (List.mem_filter.1 mem).2
      simp [reaches, other, spread]
    rw [none]
    rfl

/-! ### What the trips of a list of lanes leave -/

section
variable {cause : WatchIdx}

theorem trips_lane (l : List LaneIdx) (distinct : l.Nodup) (s : State) (j : LaneIdx) :
    (l.foldl (fun u j => u.tripLane j cause) s).lanes.get j =
      if j ∈ l then { s.lanes.get j with state := .tripped cause, dwell := 0 } else s.lanes.get j := by
  induction l generalizing s with
  | nil => rw [if_neg List.not_mem_nil]; rfl
  | cons i l ih =>
    obtain ⟨fresh, distinct⟩ := List.nodup_cons.1 distinct
    rw [List.foldl_cons, ih distinct]
    by_cases same : j = i
    · subst same
      rw [if_neg fresh, if_pos List.mem_cons_self, tripLane_lanes, Table.get_set_self]
    · rw [tripLane_other_lane same]
      exact if_congr (by simp [same]) rfl rfl

theorem tripZone_of_other (other : laneOf z ≠ k) (s : State) : s.tripZone k z = s.zones.get z := if_neg fun h => other h.1

theorem tripZone_congr (lane : t.lanes.get k = s.lanes.get k) (zone : (s.zones.get z).SameButMode (t.zones.get z)) :
    (s.tripZone k z).SameButMode (t.tripZone k z) := by
  obtain ⟨m, r, zone⟩ := zone
  unfold tripZone
  rw [lane, zone]
  split <;> exact ⟨m, r, rfl⟩

theorem trips_zone (l : List LaneIdx) (distinct : l.Nodup) (s : State) (z : ZoneIdx) :
    let t := l.foldl (fun u j => u.tripLane j cause) s
    (laneOf z ∉ l → (s.zones.get z).SameButMode (t.zones.get z)) ∧
    (laneOf z ∈ l → (s.tripZone (laneOf z) z).SameButMode (t.zones.get z)) := by
  induction l generalizing s with
  | nil => exact ⟨fun _ => .refl _, nofun⟩
  | cons j l ih =>
    obtain ⟨fresh, distinct⟩ := List.nodup_cons.1 distinct
    obtain ⟨out, within⟩ := ih distinct (s.tripLane j cause)
    have first := tripLane_zone j cause z s
    rw [List.foldl_cons]
    by_cases same : laneOf z = j
    · subst same
      exact ⟨fun absent => absurd List.mem_cons_self absent, fun _ => first.trans (out fresh)⟩
    · rw [tripZone_of_other same] at first
      refine ⟨fun absent => first.trans (out fun mem => absent (List.mem_cons_of_mem _ mem)), fun mem => ?_⟩
      exact (tripZone_congr (tripLane_other_lane same cause s) first).trans (within ((List.mem_cons.1 mem).resolve_left same))

theorem valvesOf_congr (config : ∀ o, (t.outputs.get o).config = (s.outputs.get o).config) (k : LaneIdx) : t.valvesOf k = s.valvesOf k := by
  unfold valvesOf
  simp only [config]

theorem trips_output (l : List LaneIdx) (s : State) (o : OutputIdx) :
    let t := l.foldl (fun u j => u.tripLane j cause) s
    (t.outputs.get o).config = (s.outputs.get o).config ∧
    ((∀ j ∈ l, o ∉ s.valvesOf j) → t.outputs.get o = s.outputs.get o) ∧
    ((∃ j ∈ l, o ∈ s.valvesOf j) → (t.outputs.get o).state = .auto ∧
      ((s.outputs.get o).config.destination ≠ 0 →
        (t.outputs.get o).last = some ((s.outputs.get o).config.limit (s.outputs.get o).config.trip))) := by
  induction l generalizing s with
  | nil => exact ⟨rfl, fun _ => rfl, nofun⟩
  | cons j l ih =>
    obtain ⟨config, out, within⟩ := ih (s.tripLane j cause)
    obtain ⟨other, mine⟩ := tripLane_output j cause o s
    rw [tripLane_config] at config within
    simp only [valvesOf_congr (tripLane_config j cause · s)] at out within
    rw [List.foldl_cons]
    refine ⟨config, fun absent => ?_, fun ⟨i, mem, valve⟩ => ?_⟩
    · rw [out fun i mem => absent i (List.mem_cons_of_mem _ mem), other (absent j List.mem_cons_self)]
    · by_cases later : ∃ i ∈ l, o ∈ s.valvesOf i
      · exact within later
      · rw [out fun i mem valve => later ⟨i, mem, valve⟩]
        obtain rfl | mem := List.mem_cons.1 mem
        · exact mine valve
        · exact absurd ⟨i, mem, valve⟩ later

end
end State

/-- Settles O40: a lane's trip is its beginning and then its valve outputs, and the request's lanes trip one after another, each as it was before. -/
theorem tripRequestSpreads : Obligations.TripRequestSpreads := by
  refine ⟨fun s k cause => ?_, fun s k cause => ?_⟩
  · refine (State.tripLane_eq k cause s).trans ((State.tripOutputs_eq k _).trans ?_)
    exact congrArg (fun l => List.foldl _ _ l) (State.valvesOf_eq k _)
  · extract_lets group spreads working trips valve t
    have reached (j : LaneIdx) : s.reaches k j = true ↔ trips j := State.reaches_iff
    have eq : t = (s.tripList k).foldl (fun u j => u.tripLane j cause) s := State.tripRequest_eq k cause s
    have but := State.tripRequest_but k cause s
    refine ⟨?_, fun j => ?_, fun z => ?_, fun o => ?_, but .allocator (by decide), but .blowers (by decide), but .watches (by decide),
      but .freeIndex (by decide), .of_but but (by decide)⟩
    · rw [eq, State.tripList]
      refine congrArg (List.foldl _ s) (List.filter_congr fun j _ => ?_)
      exact Bool.eq_iff_iff.2 ((reached j).trans decide_eq_true_iff.symm)
    · rw [eq, State.trips_lane _ (s.tripList_nodup k)]
      exact if_congr (State.mem_tripList.trans (reached j)) rfl rfl
    · obtain ⟨out, within⟩ := State.trips_zone (cause := cause) _ (s.tripList_nodup k) s z
      rw [← eq, State.mem_tripList, reached] at out within
      intro zn zn'
      by_cases hit : trips (laneOf z)
      · obtain ⟨m, r, zone⟩ := within hit
        have zone : zn' = { s.tripZone (laneOf z) z with mode := m, reseed := r } := zone
        have idle : s.isIdle z = false ↔ (placeOf z).val < (s.lanes.get (laneOf z)).config.zoneCount := by
          rw [← Bool.not_eq_true, State.isIdle, State.laneOfZone, Lane.idles_iff, not_or, Nat.not_le]
          exact and_iff_right hit.1.1
        by_cases counted : (placeOf z).val < (s.lanes.get (laneOf z)).config.zoneCount
        · rw [State.tripZone, if_pos ⟨rfl, counted⟩] at zone
          rw [zone]
          exact ⟨rfl, rfl, rfl, rfl, rfl, fun _ => ⟨rfl, rfl⟩, fun h => absurd (idle.2 counted) (by simpa using h.resolve_left (absurd hit))⟩
        · rw [State.tripZone, if_neg fun h => counted h.2] at zone
          rw [zone]
          exact ⟨rfl, rfl, rfl, rfl, rfl, fun h => absurd (idle.1 h.2) counted, fun _ => ⟨rfl, rfl⟩⟩
      · obtain ⟨m, r, zone⟩ := out hit
        have zone : zn' = { zn with mode := m, reseed := r } := zone
        rw [zone]
        exact ⟨rfl, rfl, rfl, rfl, rfl, fun h => absurd h.1 hit, fun _ => ⟨rfl, rfl⟩⟩
    · obtain ⟨config, out, within⟩ := State.trips_output (cause := cause) (s.tripList k) s o
      rw [← eq] at config out within
      have valves : valve o ↔ ∃ j ∈ s.tripList k, o ∈ s.valvesOf j := by
        simp only [State.mem_tripList, reached, State.mem_valvesOf]
        exact ⟨fun ⟨kind, trips⟩ => ⟨_, trips, kind, rfl⟩, fun ⟨_, trips, kind, lane⟩ => ⟨kind, lane ▸ trips⟩⟩
      rw [valves]
      refine ⟨fun other => out fun j mem valve => other ⟨j, mem, valve⟩, fun hit => ⟨config, within hit⟩⟩

/-! ### A firing (R165 to R168, R171) -/

theorem Watch.holds_iff (w : Watch) (k : Fin 4) : w.holds k = true ↔ w.state.isFired = true ∧ w.config.armed = true ∧
    w.config.actions.getLsbD 1 = true ∧ w.config.relayLine = k := by
  unfold Watch.holds WatchConfig.doesRelay
  rw [Bool.and_eq_true, Bool.and_eq_true, Bool.and_eq_true, beq_iff_eq, and_assoc, and_assoc]

theorem State.alarmLine_iff (s : State) (k : Fin 4) : s.alarmLine k = true ↔ s.power = .running ∧ ∃ w, (s.watches.get w).holds k = true := by
  unfold State.alarmLine
  rw [Bool.and_eq_true, beq_iff_eq, Table.rows_eq, List.any_map, List.any_eq_true]
  exact and_congr_right' ⟨fun ⟨w, _, holds⟩ => ⟨w, holds⟩, fun ⟨w, holds⟩ => ⟨w, mem_indices w, holds⟩⟩

theorem WatchConfig.holdTimer_eq (c : WatchConfig) : c.holdTimer = if c.rearm = .auto then some (c.hold * 10) else none := by
  unfold WatchConfig.holdTimer
  cases c.rearm <;> rfl

namespace State

variable {s : State} {w : WatchIdx} {c : WatchConfig}

/-- The state of a firing once the watch is FIRED and its entry captured (R165). -/
def firedBy (s : State) (w : WatchIdx) (value : Int) : State :=
  (s.withWatches (s.watches.set w { s.watches.get w with state := .fired (s.watches.get w).config.holdTimer, occurrence := true })).capture
    (.watchFired w value)

theorem fire_eq (w : WatchIdx) (value : Int) (s : State) : s.fire w value =
    (((s.firedBy w value).actNotice w (s.watches.get w).config value).actTrip w (s.watches.get w).config).actWakeAndFreeze w
      (s.watches.get w).config := rfl

theorem actNotice_of_armed (armed : c.armed = true) (value : Int) : s.actNotice w c value =
    if c.actions.getLsbD 0 = true ∧ s.plant.config.noticeAddress ≠ 0 then
      (s.enqueue { dst := s.plant.config.noticeAddress
                   body := .notice w (BitVec.ofNat 8 (s.watches.get w).config.subject.code) value s.timeCount }).1
    else s := by
  rw [actNotice, armed, Bool.true_and, WatchConfig.doesNotice]
  by_cases does : c.actions.getLsbD 0 = true
  · by_cases unaddressed : s.plant.config.noticeAddress = 0
    · rw [if_pos does, if_neg fun h => h.2 unaddressed]
      exact if_pos unaddressed
    · rw [if_pos does, if_pos ⟨does, unaddressed⟩]
      exact if_neg unaddressed
  · rw [if_neg does, if_neg fun h => does h.1]

theorem actTrip_of_armed (armed : c.armed = true) : s.actTrip w c = if c.actions.getLsbD 2 then s.tripRequest c.targetLane w else s := by
  rw [actTrip, armed, Bool.true_and, WatchConfig.doesTrip]

theorem actFreeze_of_armed (armed : c.armed = true) :
    s.actFreeze c = if c.actions.getLsbD 4 then s.withHistory { s.history with frozen := true } else s := by
  rw [actFreeze, armed, Bool.true_and, WatchConfig.doesFreeze]
  rfl

theorem wakesLane_iff (armed : c.armed = true) :
    s.wakesLane c = true ↔ c.actions.getLsbD 3 = true ∧ (s.lanes.get c.targetLane).state.regime = .economy := by
  rw [wakesLane, armed, Bool.true_and, WatchConfig.doesWake, Bool.and_eq_true, isEconomy_iff]

/-- Without armed actions a firing is its entry and its links (R165). -/
theorem fire_of_disarmed (disarmed : (s.watches.get w).config.armed = false) (value : Int) :
    s.fire w value = (s.firedBy w value).armLinked w := by
  rw [fire_eq, actNotice, actTrip, actWakeAndFreeze, wakesLane, disarmed]
  simp [actFreeze, disarmed]

/-- The wake's allocation is taken within the firing: before the links, or behind links and freeze where the firing freezes (R168). -/
theorem actWakeAndFreeze_of_wake (wakes : s.wakesLane c = true) :
    let woken := s.changeRegime c.targetLane .normal
    let settled := woken.withFreeIndex (woken.freeIndex + 1)
    (c.doesFreeze = false → s.actWakeAndFreeze w c = (woken.allocate.armLinked w).actFreeze c) ∧
    (c.doesFreeze = true → s.actWakeAndFreeze w c = (settled.allocate.armLinked w).actFreeze c ∨
      s.actWakeAndFreeze w c = ((settled.armLinked w).actFreeze c).allocate) := by
  intro woken settled
  refine ⟨fun keeps => ?_, fun freezes => ?_⟩
  · have pick : (if c.doesFreeze then woken.choose 2 else (0, woken)) = (0, woken) := if_neg (ne_true_of_eq_false keeps)
    rw [actWakeAndFreeze, if_pos wakes]
    dsimp only
    rw [pick, if_pos rfl]
  · have pick : (if c.doesFreeze then woken.choose 2 else (0, woken)) = (Config.freeOrder woken.freeIndex % 2, settled) := if_pos freezes
    rw [actWakeAndFreeze, if_pos wakes]
    dsimp only
    rw [pick]
    by_cases first : Config.freeOrder woken.freeIndex % 2 = 0
    · rw [if_pos first]
      exact .inl rfl
    · rw [if_neg first]
      exact .inr rfl

end State

/-- Settles O37: the steps of a firing in their order, by what its actions set has armed. -/
theorem firingTakesItsSteps : Obligations.FiringTakesItsSteps := by
  refine ⟨fun s k => ?_, fun s w value => ?_⟩
  · rw [State.alarmLine_iff]
    exact and_congr_right' (exists_congr fun w => Watch.holds_iff _ k)
  · extract_lets x c hold fired link freeze noticed tripped wakes woken settled
    have begun : s.firedBy w value = fired := by rw [State.firedBy, WatchConfig.holdTimer_eq]
    have steps (armed : c.armed = true) : s.fire w value = tripped.actWakeAndFreeze w c := by
      have subject : (fired.watches.get w).config.subject = c.subject := by
        have self : fired.watches.get w = { x with state := .fired hold, occurrence := true } := Table.get_set_self ..
        rw [self]
      have begins : fired.actNotice w c value = noticed := by
        rw [State.actNotice_of_armed armed, subject]
        rfl
      rw [State.fire_eq, begun]
      exact congrArg (State.actWakeAndFreeze w c) ((congrArg (State.actTrip w c) begins).trans (State.actTrip_of_armed armed))
    have freezes (armed : c.armed = true) (u : State) : u.actFreeze c = freeze u := State.actFreeze_of_armed armed
    refine ⟨fun disarmed => ?_, fun armed idle => ?_, fun armed wake keeps => ?_, fun armed wake does => ?_, fun runs armed relay => ?_⟩
    · rw [State.fire_of_disarmed disarmed, begun]
      rfl
    · rw [steps armed, State.actWakeAndFreeze, if_neg fun wake => idle ((State.wakesLane_iff armed).1 wake), freezes armed]
      rfl
    · obtain ⟨without, -⟩ := State.actWakeAndFreeze_of_wake (w := w) ((State.wakesLane_iff armed).2 wake)
      rw [steps armed, without keeps, freezes armed]
      exact if_neg (ne_true_of_eq_false keeps)
    · obtain ⟨-, within⟩ := State.actWakeAndFreeze_of_wake (w := w) ((State.wakesLane_iff armed).2 wake)
      rw [steps armed, ← freezes armed, ← freezes armed]
      exact within does
    · rw [State.alarmLine_iff, State.fire_but w value s .power (by decide)]
      refine ⟨runs, w, (Watch.holds_iff _ _).2 ?_⟩
      rw [State.fire_watches, Table.get_map, Table.get_set_self, Watch.armBy, if_neg fun h => by cases h.2]
      exact ⟨rfl, armed, relay, rfl⟩

end Sys2Proof.Machine
end

section
/-! READ_FIELDS: what a run of fields reads as, and how the request answers (R184, R22). -/
namespace Sys2Proof.Machine

/-! ### Codes as the statement writes them -/

theorem linkCode_eq {n : Nat} (x : Option (Fin n)) : linkCode x = ((x.map (·.val)).map fun (n : Nat) => (n : Int)).getD (-1) := by
  cases x <;> rfl

theorem timerCode_eq (t : Option Nat) : timerCode t =
    ((t.map fun n => if n = 0 then 1 else n).map fun (n : Nat) => (n : Int)).getD (-2147483648) := by
  cases t with
  | none => rfl
  | some t =>
    change ((max t 1 : Nat) : Int) = ((if t = 0 then 1 else t : Nat) : Int)
    split <;> omega

theorem optionCode_map_val {n : Nat} (x : Option (Fin n)) :
    optionCode (x.map fun i => (i.val : Int)) = ((x.map (·.val)).map fun (n : Nat) => (n : Int)).getD (-2147483648) := by
  cases x <;> rfl

theorem Subject.code_int (x : Subject) : (x.code : Int) = match x with
    | .point p => (p.val : Int)
    | .level .airShort => 128
    | .level .floorShort => 129
    | .level .stormActive => 130
    | .level .supervisionLost => 131
    | .level .ringSilent => 132
    | .event .routeRange => 133
    | .event .queueOverflow => 134
    | .event .loopCongestion => 135
    | .event .blowerStartFail => 136
    | .event .blowerTrip => 137
    | .event .storeFault => 138 := by
  cases x with
  | point p => rfl
  | level c => cases c <;> rfl
  | event e => cases e <;> rfl

/-! ### The reader of a record -/

namespace State

variable {s : State}

/-- The record an index byte names, found by the byte of its index. -/
theorem dite_ofNat {n : Nat} {β : Type} (small : n ≤ 256) (i : Fin n) (f : Fin n → β) :
    (if h : (BitVec.ofNat 8 i.val).toNat < n then some (f ⟨(BitVec.ofNat 8 i.val).toNat, h⟩) else none) = some (f i) := by
  have same : (BitVec.ofNat 8 i.val).toNat = i.val := by
    rw [BitVec.toNat_ofNat]
    exact Nat.mod_eq_of_lt (Nat.lt_of_lt_of_le i.isLt small)
  have within : (BitVec.ofNat 8 i.val).toNat < n := by omega
  rw [dif_pos within]
  exact congrArg (fun j => some (f j)) (Fin.ext same)

theorem field_of {t : TableName} {i : Nat} {read : Nat → Option Int} (named : s.reader t (BitVec.ofNat 8 i) = some read) :
    s.field t i = fun id => (read id).getD 0 := by
  funext id
  rw [field, named]
  rfl

theorem field_route (i : RouteIdx) : s.field .route i = fun id => ((s.routes.get i).read id).getD 0 :=
  field_of (dite_ofNat (by decide) i fun j => (s.routes.get j).read)

theorem field_point (i : PointIdx) : s.field .point i = fun id => ((s.points.get i).read id).getD 0 :=
  field_of (dite_ofNat (by decide) i fun j => (s.points.get j).read)

theorem field_output (i : OutputIdx) : s.field .output i = fun id => ((s.outputs.get i).read id).getD 0 :=
  field_of (dite_ofNat (by decide) i fun j => (s.outputs.get j).read)

theorem field_lane (i : LaneIdx) : s.field .lane i = fun id => ((s.lanes.get i).read id).getD 0 :=
  field_of (dite_ofNat (by decide) i fun j => (s.lanes.get j).read)

theorem field_zone (i : ZoneIdx) : s.field .zone i = fun id => ((s.zones.get i).read id).getD 0 :=
  field_of (dite_ofNat (by decide) i fun j => (s.zones.get j).read)

theorem field_blower (i : BlowerIdx) : s.field .blower i = fun id => ((s.blowers.get i).read id).getD 0 :=
  field_of (dite_ofNat (by decide) i fun j => (s.blowers.get j).read)

theorem field_returnLine (i : LineIdx) : s.field .returnLine i = fun id => ((s.returns.get i).read id).getD 0 :=
  field_of (dite_ofNat (by decide) i fun j => (s.returns.get j).read)

theorem field_watch (i : WatchIdx) : s.field .watch i = fun id => ((s.watches.get i).read id).getD 0 :=
  field_of (dite_ofNat (by decide) i fun j => (s.watches.get j).read)

theorem field_plant : s.field .plant 0 = fun id => (s.plant.read id).getD 0 := field_of rfl

theorem field_allocator : s.field .allocator 0 = fun id => (s.allocator.read id).getD 0 := field_of rfl

/-! ### The fields a table has -/

end State

theorem isSome_iff_lt {read : Nat → Option Int} {n : Nat} (low : ∀ id < n, (read id).isSome = true) (high : ∀ k, read (k + n) = none) {id : Nat} :
    (read id).isSome = true ↔ id < n := by
  refine ⟨fun has => ?_, low id⟩
  by_contra ge
  obtain ⟨k, rfl⟩ := Nat.exists_eq_add_of_le' (Nat.le_of_not_lt ge)
  rw [high] at has
  cases has

section
variable {id : Nat}

theorem Route.read_isSome (r : Route) : (r.read id).isSome = true ↔ id < 11 :=
  isSome_iff_lt (fun id lt => by interval_cases id <;> rfl) fun _ => rfl

theorem Point.read_isSome (p : Point) : (p.read id).isSome = true ↔ id < 10 :=
  isSome_iff_lt (fun id lt => by interval_cases id <;> rfl) fun _ => rfl

theorem Output.read_isSome (o : Output) : (o.read id).isSome = true ↔ id < 13 :=
  isSome_iff_lt (fun id lt => by interval_cases id <;> rfl) fun _ => rfl

theorem Lane.read_isSome (l : Lane) : (l.read id).isSome = true ↔ id < 28 :=
  isSome_iff_lt (fun id lt => by interval_cases id <;> rfl) fun _ => rfl

theorem Zone.read_isSome (z : Zone) : (z.read id).isSome = true ↔ id < 24 :=
  isSome_iff_lt (fun id lt => by interval_cases id <;> rfl) fun _ => rfl

theorem Blower.read_isSome (b : Blower) : (b.read id).isSome = true ↔ id < 15 :=
  isSome_iff_lt (fun id lt => by interval_cases id <;> rfl) fun _ => rfl

theorem ReturnLine.read_isSome (r : ReturnLine) : (r.read id).isSome = true ↔ id < 15 :=
  isSome_iff_lt (fun id lt => by interval_cases id <;> rfl) fun _ => rfl

theorem Watch.read_isSome (w : Watch) : (w.read id).isSome = true ↔ id < 19 :=
  isSome_iff_lt (fun id lt => by interval_cases id <;> rfl) fun _ => rfl

theorem Plant.read_isSome (p : Plant) : (p.read id).isSome = true ↔ id < 12 :=
  isSome_iff_lt (fun id lt => by interval_cases id <;> rfl) fun _ => rfl

theorem Allocator.read_isSome (a : Allocator) : (a.read id).isSome = true ↔ id < 11 :=
  isSome_iff_lt (fun id lt => by interval_cases id <;> rfl) fun _ => rfl

end

namespace State

variable {s : State} {t : TableName} {index : Byte} {read : Nat → Option Int}

theorem reader_of_le (outside : t.records ≤ index.toNat) : s.reader t index = none := by
  cases t <;> exact dif_neg (Nat.not_lt_of_le outside)

/-- A reader is one of the ten record readers, so it has exactly the fields of its table. -/
theorem reader_of_lt (inside : index.toNat < t.records) :
    ∃ read, s.reader t index = some read ∧ ∀ id, (read id).isSome = true ↔ id < t.fields := by
  cases t with
  | route => exact ⟨_, dif_pos inside, fun _ => Route.read_isSome _⟩
  | point => exact ⟨_, dif_pos inside, fun _ => Point.read_isSome _⟩
  | output => exact ⟨_, dif_pos inside, fun _ => Output.read_isSome _⟩
  | lane => exact ⟨_, dif_pos inside, fun _ => Lane.read_isSome _⟩
  | zone => exact ⟨_, dif_pos inside, fun _ => Zone.read_isSome _⟩
  | blower => exact ⟨_, dif_pos inside, fun _ => Blower.read_isSome _⟩
  | returnLine => exact ⟨_, dif_pos inside, fun _ => ReturnLine.read_isSome _⟩
  | watch => exact ⟨_, dif_pos inside, fun _ => Watch.read_isSome _⟩
  | plant => exact ⟨_, if_pos inside, fun _ => Plant.read_isSome _⟩
  | allocator => exact ⟨_, if_pos inside, fun _ => Allocator.read_isSome _⟩

end State

/-! ### A run of fields (R184) -/

section
variable {read : Nat → Option Int} {fields : Nat} (defined : ∀ id, (read id).isSome = true ↔ id < fields)
include defined

theorem readRun_of_le (n : Nat) (first : Nat) (within : first + n ≤ fields) :
    readRun read first n = some ((List.range n).map fun i => (read (first + i)).getD 0) := by
  induction n generalizing first with
  | zero => rfl
  | succ n ih =>
    obtain ⟨v, value⟩ := Option.isSome_iff_exists.1 ((defined first).2 (by omega))
    rw [readRun, value]
    dsimp only
    rw [ih (first + 1) (by omega), List.range_succ_eq_map, List.map_cons, List.map_map]
    simp only [Nat.add_zero, value, Option.map_some, Option.getD_some, Function.comp_def, Nat.succ_eq_add_one]
    simp only [Nat.add_comm, Nat.add_left_comm]

theorem readRun_of_lt (n : Nat) (first : Nat) (beyond : fields < first + n) (some : 1 ≤ n) : readRun read first n = none := by
  induction n generalizing first with
  | zero => cases some
  | succ n ih =>
    rw [readRun]
    cases value : read first with
    | none => rfl
    | some v =>
      have inside : first < fields := (defined first).1 (by rw [value]; rfl)
      dsimp only
      rw [ih (first + 1) (by omega) (by omega)]
      rfl

end

/-! ### The request -/

theorem TableName.ofCode_of_lt {c : Byte} (beyond : 9 < c.toNat) : TableName.ofCode c = none := by
  unfold TableName.ofCode
  obtain ⟨k, code⟩ := Nat.exists_eq_add_of_le' beyond
  rw [code]
  rfl

namespace State

variable {s : State} {src : Addr} {t : TableName} {table index first count : Byte}

theorem exec_readFields (serves : s.Serves src) (tag table index first count : Byte) :
    exec (.readFields src tag table index first count) s =
      .next (reply src 1 tag ((s.hearing.readFields table index first count).1, some (s.hearing.readFields table index first count).2)) :=
  congrArg Host.Outcome.next (requestArrives_of_serves serves 1 tag (.readFields table index first count))

theorem readFields_of_count (none : ¬(1 ≤ count.toNat ∧ count.toNat ≤ 8)) : s.readFields table index first count = (s, .badArgument, []) := by
  unfold readFields
  split
  · rfl
  · exact if_neg none

theorem readFields_of_outside (named : TableName.ofCode table = some t) (counts : 1 ≤ count.toNat ∧ count.toNat ≤ 8)
    (outside : t.records ≤ index.toNat) : s.readFields table index first count = (s, .badIndex, []) := by
  simp only [readFields, named, if_pos counts, reader_of_le outside]

theorem readFields_of_beyond (named : TableName.ofCode table = some t) (counts : 1 ≤ count.toNat ∧ count.toNat ≤ 8)
    (inside : index.toNat < t.records) (beyond : t.fields < first.toNat + count.toNat) :
    s.readFields table index first count = (s, .badArgument, []) := by
  obtain ⟨read, reader, defined⟩ := reader_of_lt (s := s) inside
  simp only [readFields, named, if_pos counts, reader, readRun_of_lt defined _ _ beyond counts.1]

theorem readFields_of_within (named : TableName.ofCode table = some t) (counts : 1 ≤ count.toNat ∧ count.toNat ≤ 8)
    (inside : index.toNat < t.records) (within : first.toNat + count.toNat ≤ t.fields) :
    s.readFields table index first count = (s.afterRead t index first count.toNat, .ok,
      (List.range count.toNat).flatMap fun i => bytesOfInt (s.field t index.toNat (first.toNat + i))) := by
  obtain ⟨read, reader, defined⟩ := reader_of_lt (s := s) inside
  have byte : BitVec.ofNat 8 index.toNat = index := by simp
  have field : s.field t index.toNat = fun id => (read id).getD 0 := field_of (by rw [byte, reader])
  simp only [readFields, named, if_pos counts, reader, readRun_of_le defined _ _ within, List.flatMap_map, field]

theorem reply_hearing_withRoutes (serves : s.Serves src) (routes : Table 64 Route) (code tag : Byte) (result : Result) (data : List Byte) :
    reply src code tag (s.hearing.withRoutes routes, some (result, data)) = (s.replied src code tag result data).withRoutes routes :=
  reply_of_room (s := s.hearing.withRoutes routes) serves.raised serves.room code tag result data

end State

/-- Settles O42: the record readers field by field, and the request's steps on the hearing state. -/
theorem readFieldsReturnsTheRun : Obligations.ReadFieldsReturnsTheRun := by
  refine ⟨fun s => ?_, fun s src tag table index first count serves => ?_⟩
  · extract_lets absent value number left flag link read
    refine ⟨fun i => ?route, fun i => ?point, fun i => ?lane, ?plant, fun i => ?zone, ?allocator, fun i => ?blower, fun i => ?line, fun i => ?output,
      fun i => ?watch, fun i => ?routeRun, fun i => ?pointRun, fun i => ?laneRun, ?plantRun, fun i => ?zoneRun, ?allocatorRun, fun i => ?blowerRun,
      fun i => ?lineRun, fun i => ?outputRun, fun i => ?watchRun⟩
    case route =>
      intro c
      have ids : (List.range (8 + 1)).drop 0 = [0, 1, 2, 3, 4, 5, 6, 7, 8] := rfl
      simp only [read, State.field_route, ids, List.map_cons, List.map_nil, List.cons.injEq, and_true]
      refine ⟨rfl, ?_, rfl, rfl, rfl, ?_, rfl, rfl, rfl⟩
      · change (match c.matchField with | .source => (0 : Int) | .destination => 1) = _
        cases c.matchField <;> rfl
      · change (c.disposition.code : Int) = _
        cases c.disposition <;> rfl
    case point =>
      intro c
      have ids : (List.range (4 + 1)).drop 0 = [0, 1, 2, 3, 4] := rfl
      simp only [read, State.field_point, ids, List.map_cons, List.map_nil, List.cons.injEq, and_true]
      refine ⟨?_, rfl, rfl, rfl, rfl⟩
      change (c.kind.code : Int) = _
      cases c.kind <;> rfl
    case lane =>
      intro c
      have ids : (List.range (20 + 1)).drop 0 = [0, 1, 2, 3, 4, 5, 6, 7, 8, 9, 10, 11, 12, 13, 14, 15, 16, 17, 18, 19, 20] := rfl
      simp only [read, State.field_lane, ids, List.map_cons, List.map_nil, List.cons.injEq, and_true]
      exact ⟨rfl, rfl, rfl, linkCode_eq _, rfl, rfl, rfl, rfl, rfl, linkCode_eq _, linkCode_eq _, rfl, rfl, rfl, rfl, rfl, rfl, rfl, rfl, rfl, rfl⟩
    case plant =>
      have ids : (List.range (9 + 1)).drop 0 = [0, 1, 2, 3, 4, 5, 6, 7, 8, 9] := rfl
      simp only [read, State.field_plant, ids, List.map_cons, List.map_nil, List.cons.injEq, and_true]
      exact ⟨linkCode_eq _, rfl, rfl, rfl, rfl, rfl, rfl, rfl, rfl, rfl⟩
    case zone =>
      intro c
      have ids : (List.range (15 + 1)).drop 0 = [0, 1, 2, 3, 4, 5, 6, 7, 8, 9, 10, 11, 12, 13, 14, 15] := rfl
      simp only [read, State.field_zone, ids, List.map_cons, List.map_nil, List.cons.injEq, and_true]
      exact ⟨linkCode_eq _, linkCode_eq _, linkCode_eq _, rfl, rfl, rfl, rfl, rfl, rfl, rfl, rfl, rfl, rfl, rfl, rfl, rfl⟩
    case allocator =>
      have ids : (List.range (4 + 1)).drop 0 = [0, 1, 2, 3, 4] := rfl
      simp only [read, State.field_allocator, ids, List.map_cons, List.map_nil]
      rfl
    case blower =>
      intro c
      have ids : (List.range (9 + 1)).drop 0 = [0, 1, 2, 3, 4, 5, 6, 7, 8, 9] := rfl
      simp only [read, State.field_blower, ids, List.map_cons, List.map_nil, List.cons.injEq, and_true]
      exact ⟨rfl, linkCode_eq _, linkCode_eq _, linkCode_eq _, rfl, rfl, rfl, rfl, rfl, rfl⟩
    case line =>
      intro c
      have ids : (List.range (10 + 1)).drop 0 = [0, 1, 2, 3, 4, 5, 6, 7, 8, 9, 10] := rfl
      simp only [read, State.field_returnLine, ids, List.map_cons, List.map_nil, List.cons.injEq, and_true]
      exact ⟨linkCode_eq _, linkCode_eq _, linkCode_eq _, rfl, rfl, rfl, rfl, rfl, rfl, rfl, rfl⟩
    case output =>
      intro c
      have ids : (List.range (8 + 1)).drop 0 = [0, 1, 2, 3, 4, 5, 6, 7, 8] := rfl
      simp only [read, State.field_output, ids, List.map_cons, List.map_nil, List.cons.injEq, and_true]
      refine ⟨rfl, rfl, ?_, rfl, rfl, rfl, rfl, rfl, rfl⟩
      change (c.kind.code : Int) = _
      cases c.kind <;> rfl
    case watch =>
      intro c
      have ids : (List.range (13 + 1)).drop 0 = [0, 1, 2, 3, 4, 5, 6, 7, 8, 9, 10, 11, 12, 13] := rfl
      simp only [read, State.field_watch, ids, List.map_cons, List.map_nil, List.cons.injEq, and_true]
      refine ⟨rfl, Subject.code_int c.subject, ?_, rfl, rfl, rfl, rfl, linkCode_eq _, rfl, rfl, rfl, rfl, ?_, rfl⟩
      · change (c.test.code : Int) = _
        cases c.test <;> rfl
      · change (match c.rearm with | .manual => (0 : Int) | .auto => 1) = _
        cases c.rearm <;> rfl
    case routeRun =>
      have ids : (List.range (10 + 1)).drop 9 = [9, 10] := rfl
      simp only [read, State.field_route, ids, List.map_cons, List.map_nil]
      rfl
    case pointRun =>
      intro p
      have ids : (List.range (9 + 1)).drop 5 = [5, 6, 7, 8, 9] := rfl
      simp only [read, State.field_point, ids, List.map_cons, List.map_nil, List.cons.injEq, and_true]
      refine ⟨rfl, rfl, ?_, timerCode_eq _, ?_⟩
      · change (p.state.quality.code : Int) = _
        cases p.state <;> rfl
      · change optionCode (p.lastSeq.map fun q => (q.toNat : Int)) = number (p.lastSeq.map (·.toNat))
        cases p.lastSeq <;> rfl
    case laneRun =>
      intro l
      have ids : (List.range (27 + 1)).drop 21 = [21, 22, 23, 24, 25, 26, 27] := rfl
      simp only [read, State.field_lane, ids, List.map_cons, List.map_nil, List.cons.injEq, and_true]
      refine ⟨?_, ?_, rfl, ?_, ?_, timerCode_eq _, rfl⟩
      · change (l.state.regime.code : Int) = _
        cases l.state <;> rfl
      · change optionCode (l.state.cause?.map fun w => (w.val : Int)) = _
        cases l.state <;> rfl
      · change optionCode (l.state.cycle?.map fun c => (c.phase.code : Int)) = _
        cases l.state with
        | economy c =>
          change (c.phase.code : Int) = if c.phase = .airOn then 0 else 1
          cases c.phase <;> rfl
        | _ => rfl
      · change optionCode (l.state.cycle?.map fun c => (c.onFraction : Int)) = _
        cases l.state <;> rfl
    case plantRun =>
      have ids : (List.range (11 + 1)).drop 10 = [10, 11] := rfl
      simp only [read, State.field_plant, ids, List.map_cons, List.map_nil, List.cons.injEq, and_true]
      exact ⟨rfl, timerCode_eq _⟩
    case zoneRun =>
      intro z
      have ids : (List.range (23 + 1)).drop 16 = [16, 17, 18, 19, 20, 21, 22, 23] := rfl
      simp only [read, State.field_zone, ids, List.map_cons, List.map_nil, List.cons.injEq, and_true]
      refine ⟨?_, rfl, rfl, rfl, ?_, rfl, rfl, rfl⟩
      · change (z.mode.code : Int) = _
        cases z.mode <;> rfl
      · change ((Zone.read z 20).getD 0) = _
        rw [Zone.read]
        cases z.grant <;> rfl
    case allocatorRun =>
      have ids : (List.range (10 + 1)).drop 5 = [5, 6, 7, 8, 9, 10] := rfl
      simp only [read, State.field_allocator, ids, List.map_cons, List.map_nil, List.cons.injEq, and_true]
      exact ⟨rfl, rfl, rfl, rfl, rfl, timerCode_eq _⟩
    case blowerRun =>
      have ids : (List.range (14 + 1)).drop 10 = [10, 11, 12, 13, 14] := rfl
      simp only [read, State.field_blower, ids, List.map_cons, List.map_nil, Blower.read, timerCode_eq]
      cases (s.blowers.get i).state <;> rfl
    case lineRun =>
      have ids : (List.range (14 + 1)).drop 11 = [11, 12, 13, 14] := rfl
      simp only [read, State.field_returnLine, ids, List.map_cons, List.map_nil, ReturnLine.read, timerCode_eq]
      cases (s.returns.get i).state <;> rfl
    case outputRun =>
      intro o
      have ids : (List.range (12 + 1)).drop 9 = [9, 10, 11, 12] := rfl
      simp only [read, State.field_output, ids, List.map_cons, List.map_nil, List.cons.injEq, and_true]
      refine ⟨?_, rfl, rfl, timerCode_eq _⟩
      change (o.state.code : Int) = if o.state = .auto then 0 else 1
      cases o.state <;> rfl
    case watchRun =>
      intro w
      have ids : (List.range (18 + 1)).drop 14 = [14, 15, 16, 17, 18] := rfl
      simp only [read, State.field_watch, ids, List.map_cons, List.map_nil, List.cons.injEq, and_true]
      refine ⟨?_, rfl, rfl, rfl, ?_⟩
      · change (w.state.code : Int) = _
        cases w.state <;> rfl
      · change timerCode w.state.hold? = _
        rw [timerCode_eq]
        cases w.state <;> rfl
  · have reads := State.exec_readFields serves tag table index first count
    refine ⟨fun refused => ?_, fun some few t named => ?_⟩
    · have refuses : s.hearing.readFields table index first count = (s.hearing, .badArgument, []) := by
        obtain beyond | none := refused
        · rw [State.readFields, TableName.ofCode_of_lt beyond]
        · refine State.readFields_of_count fun counts => ?_
          obtain rfl | many := none
          · exact absurd counts.1 (by decide)
          · exact absurd counts.2 (Nat.not_le_of_lt many)
      rw [refuses] at reads
      exact reads.trans (congrArg Host.Outcome.next (State.reply_hearing serves ..))
    · have counts := And.intro some few
      refine ⟨fun outside => ?_, fun inside beyond => ?_, fun inside within => ?_⟩
      · rw [State.readFields_of_outside named counts outside] at reads
        exact reads.trans (congrArg Host.Outcome.next (State.reply_hearing serves ..))
      · rw [State.readFields_of_beyond named counts inside beyond] at reads
        exact reads.trans (congrArg Host.Outcome.next (State.reply_hearing serves ..))
      · rw [State.readFields_of_within named counts inside within] at reads
        refine ⟨fun keeps => ?_, fun i route at_ low high => ?_⟩
        · have kept : s.hearing.afterRead t index first count.toNat = s.hearing :=
            if_neg fun ⟨route, low, high⟩ => keeps.elim (absurd route) fun h => h.elim (Nat.not_lt_of_le low) (Nat.not_le_of_lt high)
          rw [kept] at reads
          exact reads.trans (congrArg Host.Outcome.next (State.reply_hearing serves ..))
        · have cleared : s.hearing.afterRead t index first count.toNat =
              s.hearing.withRoutes (s.routes.set i { s.routes.get i with hit := false }) := by
            have named : (⟨index.toNat, at_ ▸ i.isLt⟩ : RouteIdx) = i := Fin.ext at_
            rw [State.afterRead, if_pos ⟨route, low, high⟩, dif_pos (at_ ▸ i.isLt), named]
            rfl
          rw [cleared] at reads
          exact reads.trans (congrArg Host.Outcome.next (State.reply_hearing_withRoutes serves ..))

end Sys2Proof.Machine
end

section
/-! WRITE_FIELDS: its refusals in their order (R185), and the written record of each table. -/
namespace Sys2Proof.Machine

/-! ### Read-only fields (R185) -/

theorem RouteConfig.write_of_le (c : RouteConfig) (id : Nat) (v : Int) (beyond : 9 ≤ id) : c.write id v = none := by
  obtain ⟨k, rfl⟩ := Nat.exists_eq_add_of_le' beyond
  rfl

theorem PointConfig.write_of_le (c : PointConfig) (id : Nat) (v : Int) (beyond : 5 ≤ id) : c.write id v = none := by
  obtain ⟨k, rfl⟩ := Nat.exists_eq_add_of_le' beyond
  rfl

theorem OutputConfig.write_of_le (c : OutputConfig) (id : Nat) (v : Int) (beyond : 9 ≤ id) : c.write id v = none := by
  obtain ⟨k, rfl⟩ := Nat.exists_eq_add_of_le' beyond
  rfl

theorem LaneConfig.write_of_le (c : LaneConfig) (id : Nat) (v : Int) (beyond : 21 ≤ id) : c.write id v = none := by
  obtain ⟨k, rfl⟩ := Nat.exists_eq_add_of_le' beyond
  rfl

theorem ZoneConfig.write_of_le (accepts : OutputIdx → Bool) (c : ZoneConfig) (id : Nat) (v : Int) (beyond : 16 ≤ id) : c.write accepts id v = none := by
  obtain ⟨k, rfl⟩ := Nat.exists_eq_add_of_le' beyond
  rfl

theorem BlowerConfig.write_of_le (c : BlowerConfig) (id : Nat) (v : Int) (beyond : 10 ≤ id) : c.write id v = none := by
  obtain ⟨k, rfl⟩ := Nat.exists_eq_add_of_le' beyond
  rfl

theorem ReturnConfig.write_of_le (c : ReturnConfig) (id : Nat) (v : Int) (beyond : 11 ≤ id) : c.write id v = none := by
  obtain ⟨k, rfl⟩ := Nat.exists_eq_add_of_le' beyond
  rfl

theorem WatchConfig.write_of_le (c : WatchConfig) (id : Nat) (v : Int) (beyond : 14 ≤ id) : c.write id v = none := by
  obtain ⟨k, rfl⟩ := Nat.exists_eq_add_of_le' beyond
  rfl

theorem PlantConfig.write_of_le (c : PlantConfig) (id : Nat) (v : Int) (beyond : 10 ≤ id) : c.write id v = none := by
  obtain ⟨k, rfl⟩ := Nat.exists_eq_add_of_le' beyond
  rfl

theorem AllocatorConfig.write_of_le (c : AllocatorConfig) (id : Nat) (v : Int) (beyond : 5 ≤ id) : c.write id v = none := by
  obtain ⟨k, rfl⟩ := Nat.exists_eq_add_of_le' beyond
  rfl


section
variable {α : Type} {write : α → Nat → Int → Written α} {settle : α → α × Bool} {first : Byte} {vs : List Int} {c : α} {s : State}

/-- A run that reaches a read-only field or beyond the last refuses the whole write. -/
theorem writeRun_of_lt {n : Nat} (refuses : ∀ (c : α) (id : Nat) (v : Int), n ≤ id → write c id v = none) (vs : List Int) (first : Nat) (c : α)
    (nonempty : 1 ≤ vs.length) (beyond : n < first + vs.length) : writeRun write first vs c = none := by
  induction vs generalizing first c with
  | nil => cases nonempty
  | cons v vs ih =>
    rw [writeRun]
    split
    · rfl
    · next c' b written =>
      have inside : first < n := by
        by_contra outside
        rw [refuses c first v (Nat.le_of_not_lt outside)] at written
        cases written
      rw [List.length_cons] at beyond
      rw [ih (first + 1) c' (by omega) (by omega)]
      rfl

theorem examine_eq {r : α × Bool} (run : writeRun write first.toNat vs c = some r) :
    examine write settle first vs c = some ((settle r.1).1, r.2 || (settle r.1).2) := by rw [examine, run]; rfl

theorem examine_none (run : writeRun write first.toNat vs c = none) : examine write settle first vs c = none := by rw [examine, run]; rfl

theorem Written.suiting_of_none (ok : α → Bool) : Written.suiting none ok = none := rfl

theorem Written.suiting_of_suits {r : α × Bool} {ok : α → Bool} (suits : ok r.1 = true) : Written.suiting (some r) ok = some r := if_pos suits

theorem Written.suiting_of_not {r : α × Bool} {ok : α → Bool} (unfit : ok r.1 ≠ true) : Written.suiting (some r) ok = none := if_neg unfit

end

theorem TableName.ofCode_code (t : TableName) : TableName.ofCode t.code = some t := by cases t <;> rfl

namespace State

variable {s : State} {src : Addr} {t : TableName} {index first : Byte} {vs : List Word32}

theorem writeTable_of_le (outside : t.records ≤ index.toNat) (vs : List Int) : s.writeTable t index first vs = (s, .badIndex) := by
  cases t <;> exact dif_neg (Nat.not_lt_of_le outside)

/-! What a write does to the record its index names. -/

section
variable {vs : List Int}

theorem writeTable_route {i : RouteIdx} (named : index.toNat = i.val) : s.writeTable .route index first vs =
    if (s.routes.get i).locked then (s, .locked)
    else s.accept (examine RouteConfig.write RouteConfig.settle first vs (s.routes.get i).config) fun c =>
      s.setRoute i { s.routes.get i with config := c } := by
  rw [writeTable, writeRouteTable, atIndex_of_eq named]

theorem writeTable_point {i : PointIdx} (named : index.toNat = i.val) : s.writeTable .point index first vs =
    s.accept (examine PointConfig.write PointConfig.settle first vs (s.points.get i).config) fun c => s.writePoint i c := by
  rw [writeTable, writePointTable, atIndex_of_eq named]

theorem writeTable_output {i : OutputIdx} (named : index.toNat = i.val) : s.writeTable .output index first vs =
    s.accept ((examine OutputConfig.write OutputConfig.settle first vs (s.outputs.get i).config).suiting (s.outputSuits i)) fun c =>
      s.writeOutput i c := by
  rw [writeTable, writeOutputTable, atIndex_of_eq named]

theorem writeTable_lane {k : LaneIdx} (named : index.toNat = k.val) : s.writeTable .lane index first vs =
    s.accept (examine LaneConfig.write LaneConfig.settle first vs (s.staged k).lane) fun c =>
      s.setLane k { s.lanes.get k with pending := some { s.staged k with lane := c } } := by
  rw [writeTable, writeLaneTable, atIndex_of_eq named]

theorem writeTable_zone {z : ZoneIdx} (named : index.toNat = z.val) : s.writeTable .zone index first vs =
    s.accept (examine (ZoneConfig.write fun o => (s.outputs.get o).config.servesZone z) ZoneConfig.settle first vs
        ((s.staged (laneOf z)).zones.get (placeOf z))) fun c =>
      s.setLane (laneOf z) { s.lanes.get (laneOf z) with
        pending := some { s.staged (laneOf z) with zones := (s.staged (laneOf z)).zones.set (placeOf z) c } } := by
  rw [writeTable, writeZoneTable, atIndex_of_eq named]

theorem writeTable_blower {b : BlowerIdx} (named : index.toNat = b.val) : s.writeTable .blower index first vs =
    s.accept ((examine BlowerConfig.write BlowerConfig.settle first vs (s.blowers.get b).config).suiting (s.rankSuits b)) fun c =>
      s.writeBlower b c := by
  rw [writeTable, writeBlowerTable, atIndex_of_eq named]

theorem writeTable_returnLine {r : LineIdx} (named : index.toNat = r.val) : s.writeTable .returnLine index first vs =
    s.accept (examine ReturnConfig.write ReturnConfig.settle first vs (s.returns.get r).config) fun c =>
      s.setReturn r ((s.returns.get r).rewrite c) := by
  rw [writeTable, writeReturnTable, atIndex_of_eq named]

theorem writeTable_watch {w : WatchIdx} (named : index.toNat = w.val) : s.writeTable .watch index first vs =
    if (s.watches.get w).state.isFired then (s, .conditionPresent)
    else s.accept ((examine WatchConfig.write WatchConfig.settle first vs (s.watches.get w).config).suiting
        fun c => c.testSuits && c.linkSuits w) fun c => s.setWatch w ((s.watches.get w).rewritten c (s.stageFired c)) := by
  rw [writeTable, writeWatchTable, atIndex_of_eq named]

theorem writeTable_plant (named : index.toNat = 0) : s.writeTable .plant index first vs =
    s.accept (examine PlantConfig.write PlantConfig.settle first vs s.plant.config) fun c => s.withPlant { s.plant with config := c } := by
  rw [writeTable, writePlantTable, atIndex_of_eq (k := 0) named]

theorem writeTable_allocator (named : index.toNat = 0) : s.writeTable .allocator index first vs =
    s.accept (examine AllocatorConfig.write (fun c => (c, false)) first vs s.allocator.config) fun c =>
      s.withAllocator { s.allocator with config := c } := by
  rw [writeTable, writeAllocatorTable, atIndex_of_eq (k := 0) named]

/-- A run beyond a table's configuration fields is refused, once neither the lock of a route entry nor a FIRED watch has refused it before. -/
theorem writeTable_of_beyond (inside : index.toNat < t.records)
    (unlocked : ∀ i : RouteIdx, t = .route → index.toNat = i.val → (s.routes.get i).locked = false)
    (unfired : ∀ w : WatchIdx, t = .watch → index.toNat = w.val → (s.watches.get w).state.isFired = false)
    (nonempty : 1 ≤ vs.length) (beyond : t.writable < first.toNat + vs.length) : s.writeTable t index first vs = (s, .badArgument) := by
  obtain ⟨i, named⟩ : ∃ i : Fin t.records, index.toNat = i.val := ⟨⟨_, inside⟩, rfl⟩
  have run {α : Type} {write : α → Nat → Int → Written α} {settle : α → α × Bool}
      (refuses : ∀ (c : α) (id : Nat) (v : Int), t.writable ≤ id → write c id v = none) (c : α) : examine write settle first vs c = none :=
    examine_none (writeRun_of_lt refuses vs first.toNat c nonempty beyond)
  cases t with
  | route =>
    rw [writeTable_route named, if_neg (ne_true_of_eq_false (unlocked i rfl named)), run RouteConfig.write_of_le]
    rfl
  | point =>
    rw [writeTable_point named, run PointConfig.write_of_le]
    rfl
  | output =>
    rw [writeTable_output named, run OutputConfig.write_of_le]
    rfl
  | lane =>
    rw [writeTable_lane named, run LaneConfig.write_of_le]
    rfl
  | zone =>
    rw [writeTable_zone named, run (ZoneConfig.write_of_le _)]
    rfl
  | blower =>
    rw [writeTable_blower named, run BlowerConfig.write_of_le]
    rfl
  | returnLine =>
    rw [writeTable_returnLine named, run ReturnConfig.write_of_le]
    rfl
  | watch =>
    rw [writeTable_watch named, if_neg (ne_true_of_eq_false (unfired i rfl named)), run WatchConfig.write_of_le]
    rfl
  | plant =>
    rw [writeTable_plant (Nat.lt_one_iff.1 inside), run PlantConfig.write_of_le]
    rfl
  | allocator =>
    rw [writeTable_allocator (Nat.lt_one_iff.1 inside), run AllocatorConfig.write_of_le]
    rfl

end

/-! ### The request -/

theorem exec_writing (serves : s.Serves src) (t : TableName) (tag index first : Byte) (vs : List Word32) :
    exec (t.writing src tag index first vs) s =
      .next (reply src 2 tag (s.hearing.writeFields t.code index first vs.length (carried vs)).answered) := by
  cases t <;> exact congrArg Host.Outcome.next (requestArrives_of_serves serves 2 tag (.writeFields _ index first vs.length vs))

theorem exec_writing_of_count (serves : s.Serves src) (t : TableName) (tag index first : Byte) (some : 1 ≤ vs.length) (few : vs.length ≤ 8) :
    exec (t.writing src tag index first vs) s = .next (reply src 2 tag (s.hearing.writeTable t index first (carried vs)).answered) := by
  rw [exec_writing serves, writeFields, TableName.ofCode_code]
  dsimp only
  rw [if_pos ⟨some, few⟩]

/-- A write whose table refuses it is answered and changes nothing. -/
theorem exec_writing_of_refused (serves : s.Serves src) (tag : Byte) (some : 1 ≤ vs.length) (few : vs.length ≤ 8) {r : Result}
    (refused : s.hearing.writeTable t index first (carried vs) = (s.hearing, r)) :
    exec (t.writing src tag index first vs) s = .next (s.replied src 2 tag r []) := by
  rw [exec_writing_of_count serves t tag index first some few, refused]
  exact congrArg Host.Outcome.next (reply_hearing serves ..)

end State

/-- Settles O43: each refusal by the check that makes it, in the order of the checks. -/
theorem writeFieldsRefusesInOrder : Obligations.WriteFieldsRefusesInOrder := by
  refine ⟨fun s src tag table index first count values serves refused filled => ?_, fun s t src tag index first vs serves => ?_⟩
  · have refuses (u : State) (vs : List Int) : u.writeFields table index first count.toNat vs = (u, .badArgument) := by
      obtain beyond | none := refused
      · rw [State.writeFields, TableName.ofCode_of_lt beyond]
      · refine State.writeFields_of_count (fun counts => ?_) ..
        obtain rfl | many := none
        · exact absurd counts.1 (by decide)
        · exact absurd counts.2 (Nat.not_le_of_lt many)
    obtain ⟨vs, spelled⟩ : ∃ vs, Request.decode 2 (table :: index :: first :: count :: values) =
        some (.writeFields table index first count.toNat vs) := by
      change ∃ vs, (if 1 ≤ count.toNat ∧ count.toNat ≤ 8 then (takeWords count.toNat values).map (Request.writeFields table index first count.toNat)
        else some (.writeFields table index first count.toNat [])) = _
      by_cases counts : 1 ≤ count.toNat ∧ count.toNat ≤ 8
      · have enough : ¬takeWords count.toNat values = none := fun short =>
          Nat.not_le_of_lt ((takeWords_eq_none_iff ..).1 short) (filled counts.1 counts.2)
        obtain ⟨vs, taken⟩ := Option.ne_none_iff_exists'.1 enough
        rw [if_pos counts, taken]
        exact ⟨vs, rfl⟩
      · rw [if_neg counts]
        exact ⟨_, rfl⟩
    have arrives := State.requestArrives_of_serves serves 2 tag (.writeFields table index first count.toNat vs)
    rw [← spelled, State.perform, refuses] at arrives
    exact congrArg Host.Outcome.next (arrives.trans (State.reply_hearing serves ..))
  · intro refuses
    refine ⟨fun none => ?_, fun some few => ⟨fun outside => ?_, fun i route named locked => ?_, fun w watch named fired => ?_,
      fun inside unlocked unfired beyond => ?_⟩⟩
    · have writes := State.exec_writing serves t tag index first vs
      rw [State.writeFields_of_count (by omega)] at writes
      exact writes.trans (congrArg Host.Outcome.next (State.reply_hearing serves ..))
    · exact State.exec_writing_of_refused serves tag some few (State.writeTable_of_le outside _)
    · subst route
      refine State.exec_writing_of_refused serves tag some few ((State.writeTable_route named).trans ?_)
      exact if_pos locked
    · subst watch
      refine State.exec_writing_of_refused serves tag some few ((State.writeTable_watch named).trans ?_)
      exact if_pos fired
    · refine State.exec_writing_of_refused serves tag some few (State.writeTable_of_beyond inside unlocked unfired ?_ ?_)
      · rw [carried, List.length_map]
        exact some
      · rw [carried, List.length_map]
        exact beyond

end Sys2Proof.Machine
end

section
/-! A write to OUTPUT and its effects on the run-time state, the queue and the zones (R140, R144). -/
namespace Sys2Proof.Machine

theorem clampInt_eq_iff (lo hi v : Int) : clampInt lo hi v = v ↔ lo ≤ v ∧ v ≤ hi := by
  unfold clampInt
  split
  · omega
  · split <;> omega

/-- A detached COMMAND keeps its bytes and belongs to no output (R144). -/
theorem Queued.detach_eq (o : OutputIdx) (q : Queued) : q.detach o = match q.body with
    | .command owner ch v => { q with body := .command (if owner = some o then none else owner) ch v }
    | _ => q := by
  unfold Queued.detach
  cases h : q.body with
  | command owner ch v =>
    dsimp only
    split
    · rfl
    · rw [← h]
  | _ => rfl

theorem Queued.detach_payload (o : OutputIdx) (q : Queued) : (q.detach o).body.payload = q.body.payload := by
  rw [Queued.detach_eq]
  cases h : q.body <;> simp [h, Body.payload]

theorem Queued.detach_releases (o : OutputIdx) (q : Queued) : (q.detach o).body.owner ≠ some o := by
  rw [Queued.detach_eq]
  cases h : q.body with
  | command owner ch v =>
    change (if owner = some o then none else owner) ≠ some o
    split
    · nofun
    · assumption
  | _ => simp [h, Body.owner]

/-! ### The resend timer (R144) -/

namespace Output

theorem rewriteResend_eq (out : Output) : out.rewriteResend = { out with
    resendTimer := if out.config.resend = 0 then none
      else if out.config.destination ≠ 0 ∧ out.resendTimer = none ∧ out.last.isSome = true then some (out.config.resend * 10) else out.resendTimer } := by
  have used : out.config.unused = false ↔ out.config.destination ≠ 0 := beq_eq_false_iff_ne
  unfold rewriteResend
  by_cases stops : out.config.resend = 0
  · rw [if_pos stops, if_pos stops]
  · rw [if_neg stops, if_neg stops]
    by_cases starts : out.config.destination ≠ 0 ∧ out.resendTimer = none ∧ out.last.isSome = true
    · rw [if_pos ⟨used.2 starts.1, starts.2⟩, if_pos starts]
      rfl
    · rw [if_neg fun h => starts ⟨used.1 h.1, h.2⟩, if_neg starts]

variable {out : Output} {new : OutputConfig}

/-- The timer of a write that sends nothing: it keeps running, starts where an interval comes, and stops where none is left. -/
theorem retimed_of_kept (sound : out.Sound) (same : out.config.destination = new.destination) (state : OutputState) :
    (if out.config.resend ≠ new.resend then rewriteResend { out with config := new, state := state } else { out with config := new, state := state }) =
      { out with config := new, state := state,
                 resendTimer := if out.last.isSome = true ∧ new.resend ≠ 0 then some (out.resendTimer.getD (new.resend * 10)) else none } := by
  obtain ⟨-, timed, unused⟩ := sound
  rw [rewriteResend_eq]
  have timer : (if out.config.resend ≠ new.resend then (if new.resend = 0 then none
      else if new.destination ≠ 0 ∧ out.resendTimer = none ∧ out.last.isSome = true then some (new.resend * 10) else out.resendTimer)
      else out.resendTimer) = if out.last.isSome = true ∧ new.resend ≠ 0 then some (out.resendTimer.getD (new.resend * 10)) else none := by
    rw [same] at unused
    cases running : out.resendTimer with
    | some t =>
      obtain ⟨has, interval⟩ := timed.1 (by rw [running]; rfl)
      by_cases changed : out.config.resend = new.resend
      · rw [changed] at interval
        simp [changed, has, interval]
      · by_cases stops : new.resend = 0
        · simp [stops, interval]
        · simp [has, stops]
    | none =>
      have still : ¬(out.last.isSome = true ∧ out.config.resend ≠ 0) := fun runs => by simpa [running] using timed.2 runs
      by_cases changed : out.config.resend = new.resend
      · rw [changed] at still
        simp [changed, still]
      · by_cases stops : new.resend = 0
        · simp [stops]
        · rw [if_pos changed, if_neg stops]
          by_cases has : out.last.isSome = true
          · have used : new.destination ≠ 0 := fun off => by simp [unused off] at has
            rw [if_pos ⟨used, rfl, has⟩, if_pos ⟨has, stops⟩]
            rfl
          · rw [if_neg fun h => has h.2.2, if_neg fun h => has h.1]
  rw [← timer]
  split <;> rfl

/-- The timer of a write that sends starts anew, or stands still without an interval. -/
theorem retimed_of_sent (sound : out.Sound) (state : OutputState) (v : Int) (unsent : Bool) (timer : Option Nat)
    (started : timer = if new.resend = 0 then out.resendTimer else some (new.resend * 10)) :
    (if out.config.resend ≠ new.resend then
        rewriteResend { config := new, state := state, last := some v, unsent := unsent, resendTimer := timer }
      else { config := new, state := state, last := some v, unsent := unsent, resendTimer := timer }) =
      { config := new, state := state, last := some v, unsent := unsent,
        resendTimer := if new.resend = 0 then none else some (new.resend * 10) } := by
  obtain ⟨-, timed, -⟩ := sound
  rw [rewriteResend_eq, started]
  by_cases none : new.resend = 0
  · by_cases changed : out.config.resend = 0
    · have still : out.resendTimer = .none := Option.not_isSome_iff_eq_none.1 fun runs => (timed.1 runs).2 changed
      simp [none, changed, still]
    · simp [none, changed]
  · simp [none]

end Output

namespace State

variable {s : State} {o : OutputIdx} {new : OutputConfig}

/-- The state with the output's configuration written and nothing else yet. -/
def rewrote (s : State) (o : OutputIdx) (new : OutputConfig) : State :=
  s.withOutputs (s.outputs.set o { s.outputs.get o with config := new })

/-- The write hands a SUPERVISED valve to a TRIPPED lane (R144). -/
abbrev HandsOver (s : State) (o : OutputIdx) (new : OutputConfig) : Prop :=
  (s.outputs.get o).config.owner ≠ new.owner ∧ new.kind = .zoneValve ∧ (s.lanes.get (laneOf new.owner)).state.regime = .tripped

/-- The state of a write that moves no actuator before its limits and its interval act. -/
def handedOver (s : State) (o : OutputIdx) (new : OutputConfig) : State :=
  if s.HandsOver o new then (s.rewrote o new).changeOutput o .auto else s.rewrote o new

/-- The state once a write has made the output another actuator, before it returns to AUTO (R144). -/
def reassigned (s : State) (o : OutputIdx) (new : OutputConfig) : State :=
  (s.withOutputs (s.outputs.set o { s.outputs.get o with config := new, last := none, unsent := false, resendTimer := none })).withRing (s.ring.detach o)

theorem writeOutput_of_moved (moved : Output.moves (s.outputs.get o).config new) : s.writeOutput o new = (s.reassigned o new).changeOutput o .auto := by
  have first : (s.rewrote o new).reassignOutput o = (s.reassigned o new).changeOutput o .auto := by
    unfold reassignOutput
    refine congrArg (changeOutput o .auto) (congrArg (fun x : Table 64 Output => (s.withOutputs x).withRing (s.ring.detach o)) ?_)
    change (s.outputs.set o _).set o { (s.outputs.set o _).get o with last := _, unsent := _, resendTimer := _ } = _
    rw [Table.get_set_self, Table.set_set]
  obtain ⟨t, made⟩ : ∃ t, (s.reassigned o new).changeOutput o .auto = t := ⟨_, rfl⟩
  have record : t.outputs.get o = { s.outputs.get o with config := new, state := .auto, last := none, unsent := false, resendTimer := none } := by
    rw [← made, changeOutput_outputs, Table.get_set_self, reassigned]
    change { (s.outputs.set o _).get o with state := OutputState.auto } = _
    rw [Table.get_set_self]
  have stays : t.changeOutput o .auto = t := changeOutput_of_eq (by rw [record])
  have within : t.reclampOutput o = t := by rw [reclampOutput, record]
  have timed : t.setOutput o (t.outputs.get o).rewriteResend = t := by
    have same : (t.outputs.get o).rewriteResend = t.outputs.get o := by
      rw [record]
      unfold Output.rewriteResend
      simp
    rw [same, setOutput, Table.set_get]
    rfl
  unfold writeOutput
  extract_lets old _ s1 s2 s3 s4
  have h2 : s2 = t := (if_pos moved).trans (first.trans made)
  have h3 : s3 = t := by
    simp only [s3]
    split
    · rw [h2, stays]
    · exact h2
  have h4 : s4 = t := by
    simp only [s4]
    split
    · rw [h3, within]
    · exact h3
  rw [h4, timed, ite_self, made]

theorem writeOutput_of_still (still : ¬Output.moves (s.outputs.get o).config new) : s.writeOutput o new =
    let old := (s.outputs.get o).config
    let w := if old.low ≠ new.low ∨ old.high ≠ new.high then (s.handedOver o new).reclampOutput o else s.handedOver o new
    if old.resend ≠ new.resend then w.setOutput o (w.outputs.get o).rewriteResend else w := by
  have hands : (if (s.outputs.get o).config.owner ≠ new.owner ∧ (s.rewrote o new).servesTripped new then (s.rewrote o new).changeOutput o .auto
      else s.rewrote o new) = s.handedOver o new :=
    if_congr (and_congr_right' (servesTripped_iff_regime new _)) rfl rfl
  rw [← hands]
  unfold writeOutput
  dsimp only
  rw [if_neg still]
  rfl

theorem rewrote_get (s : State) (o : OutputIdx) (new : OutputConfig) : (s.rewrote o new).outputs.get o = { s.outputs.get o with config := new } :=
  Table.get_set_self ..

theorem reassigned_get (s : State) (o : OutputIdx) (new : OutputConfig) : (s.reassigned o new).outputs.get o =
    { s.outputs.get o with config := new, last := none, unsent := false, resendTimer := none } :=
  Table.get_set_self ..

theorem handedOver_outputs (s : State) (o : OutputIdx) (new : OutputConfig) : (s.handedOver o new).outputs =
    s.outputs.set o { s.outputs.get o with config := new, state := if s.HandsOver o new then .auto else (s.outputs.get o).state } := by
  unfold handedOver
  split
  · rw [changeOutput_outputs, rewrote_get]
    exact Table.set_set ..
  · rfl

theorem handedOver_but (s : State) (o : OutputIdx) (new : OutputConfig) : (s.rewrote o new).SameBut [.outputs, .zones, .history] (s.handedOver o new) := by
  unfold handedOver
  split
  · exact changeOutput_but o .auto _
  · exact .refl _ _

/-- A write with the last value within the new limits sends nothing. -/
theorem writeOutput_of_kept (sound : (s.outputs.get o).Sound) (still : ¬Output.moves (s.outputs.get o).config new)
    (kept : ∀ l, (s.outputs.get o).last = some l → new.low ≤ l ∧ l ≤ new.high) : s.writeOutput o new =
    (s.handedOver o new).withOutputs (s.outputs.set o { s.outputs.get o with
      config := new, state := if s.HandsOver o new then .auto else (s.outputs.get o).state,
      resendTimer := if (s.outputs.get o).last.isSome = true ∧ new.resend ≠ 0 then
        some ((s.outputs.get o).resendTimer.getD (new.resend * 10)) else none }) := by
  have record := handedOver_outputs s o new
  have got : (s.handedOver o new).outputs.get o = { s.outputs.get o with
      config := new, state := if s.HandsOver o new then .auto else (s.outputs.get o).state } := by rw [record, Table.get_set_self]
  have within : (s.handedOver o new).reclampOutput o = s.handedOver o new := by
    unfold reclampOutput
    rw [got]
    dsimp only
    split
    · rfl
    · next l last => exact if_pos ((clampInt_eq_iff ..).2 (kept l last))
  have same : (s.outputs.get o).config.destination = new.destination := by
    by_contra other
    exact still (.inl other)
  rw [writeOutput_of_still still]
  dsimp only
  rw [within, ite_self, got, ← Output.retimed_of_kept sound same]
  split
  · rw [setOutput, record, Table.set_set]
  · rw [← record]
    rfl

/-- A write that leaves the last value outside the new limits sends the clamped one (R144). -/
theorem writeOutput_of_cut (sound : (s.outputs.get o).Sound) (still : ¬Output.moves (s.outputs.get o).config new) {l : Int}
    (last : (s.outputs.get o).last = some l) (outside : ¬(new.low ≤ l ∧ l ≤ new.high)) :
    ∃ u : State, u.outputs.get o = { s.outputs.get o with
        config := new, state := if s.HandsOver o new then .auto else (s.outputs.get o).state, last := some (clampInt new.low new.high l),
        resendTimer := if new.resend = 0 then (s.outputs.get o).resendTimer else some (new.resend * 10) } ∧
      (∃ x, u = (s.handedOver o new).withOutputs x) ∧
      s.writeOutput o new = (u.sendCommand o (clampInt new.low new.high l)).1.withOutputs (s.outputs.set o {
        config := new, state := if s.HandsOver o new then .auto else (s.outputs.get o).state, last := some (clampInt new.low new.high l),
        unsent := !(u.sendCommand o (clampInt new.low new.high l)).2,
        resendTimer := if new.resend = 0 then none else some (new.resend * 10) }) := by
  have record := handedOver_outputs s o new
  have got : (s.handedOver o new).outputs.get o = { s.outputs.get o with
      config := new, state := if s.HandsOver o new then .auto else (s.outputs.get o).state } := by rw [record, Table.get_set_self]
  have limits : (s.outputs.get o).config.low ≠ new.low ∨ (s.outputs.get o).config.high ≠ new.high := by
    obtain ⟨within, -, -⟩ := sound
    have held := within l last
    by_contra same
    rw [not_or, not_not, not_not] at same
    rw [same.1, same.2] at held
    exact outside held
  have sends : (s.handedOver o new).reclampOutput o = (s.handedOver o new).sendValue o (clampInt new.low new.high l) := by
    unfold reclampOutput
    rw [got]
    dsimp only
    rw [last]
    exact if_neg (mt (clampInt_eq_iff ..).1 outside)
  rw [writeOutput_of_still still]
  dsimp only
  rw [if_pos limits, sends, sendValue_eq, got]
  dsimp only
  obtain ⟨u, made⟩ : ∃ u, (s.handedOver o new).withOutputs ((s.handedOver o new).outputs.set o { s.outputs.get o with
      config := new, state := if s.HandsOver o new then .auto else (s.outputs.get o).state, last := some (clampInt new.low new.high l),
      resendTimer := if new.resend = 0 then (s.outputs.get o).resendTimer else some (new.resend * 10) }) = u := ⟨_, rfl⟩
  rw [made]
  refine ⟨u, by rw [← made]; exact Table.get_set_self .., ⟨_, made.symm⟩, ?_⟩
  rw [record, Table.set_set, ← Output.retimed_of_sent sound _ _ (!(u.sendCommand o (clampInt new.low new.high l)).2) _ rfl]
  split
  · rw [setOutput, withOutputs_outputs, Table.get_set_self, Table.set_set]
    rfl
  · rfl

/-! ### The queue and the zones -/

/-- The queue's answer to a COMMAND depends on the ring interface and the output's address alone (R13). -/
theorem sendCommand_congr {u : State} (ring : u.ring = s.ring) (own : u.ownAddress = s.ownAddress) (raised : u.raised = s.raised)
    (destination : (u.outputs.get o).config.destination = (s.outputs.get o).config.destination)
    (channel : (u.outputs.get o).config.channel = (s.outputs.get o).config.channel) (v : Int) :
    (u.sendCommand o v).1.ring = (s.sendCommand o v).1.ring ∧ (u.sendCommand o v).1.raised = (s.sendCommand o v).1.raised ∧
      (u.sendCommand o v).2 = (s.sendCommand o v).2 := by
  unfold sendCommand enqueue
  dsimp only
  rw [ring, destination, channel]
  split
  · exact ⟨rfl, raised, rfl⟩
  · split
    · exact ⟨congrArg (fun a => s.ring.join a _) own, raised, rfl⟩
    · refine ⟨ring, ?_, rfl⟩
      unfold raise
      exact congrArg (· ++ _) raised

/-- The report of a release to the zones does not see the output's value, its timer or the queue (R141). -/
theorem reassigned_report (s : State) (o : OutputIdx) (new : OutputConfig) :
    ((s.reassigned o new).changeOutput o .auto).zones = ((s.rewrote o new).changeOutput o .auto).zones ∧
      ((s.reassigned o new).changeOutput o .auto).history = ((s.rewrote o new).changeOutput o .auto).history := by
  have made := reassigned_get s o new
  by_cases auto : (s.outputs.get o).state = .auto
  · rw [changeOutput_of_eq (s := s.reassigned o new) (by rw [made]; exact auto), changeOutput_of_eq (s := s.rewrote o new) (by rw [rewrote_get]; exact auto)]
    exact ⟨rfl, rfl⟩
  · rw [changeOutput_of_ne (s := s.reassigned o new) (by rw [made]; exact auto), changeOutput_of_ne (s := s.rewrote o new) (by rw [rewrote_get]; exact auto),
      made, rewrote_get]
    exact ⟨rfl, rfl⟩

theorem handedOver_report (s : State) (o : OutputIdx) (new : OutputConfig) :
    ((s.outputs.get o).state = .supervised ∧ s.HandsOver o new → (s.handedOver o new).zones = ((s.rewrote o new).changeOutput o .auto).zones ∧
      (s.handedOver o new).history = ((s.rewrote o new).changeOutput o .auto).history) ∧
    (¬((s.outputs.get o).state = .supervised ∧ s.HandsOver o new) → (s.handedOver o new).zones = s.zones ∧ (s.handedOver o new).history = s.history) := by
  refine ⟨fun ⟨_, hands⟩ => ?_, fun keeps => ?_⟩
  · rw [handedOver, if_pos hands]
    exact ⟨rfl, rfl⟩
  · by_cases hands : s.HandsOver o new
    · have auto : ((s.rewrote o new).outputs.get o).state = .auto := by
        rw [rewrote_get]
        cases state : (s.outputs.get o).state with
        | auto => rfl
        | supervised => exact absurd ⟨state, hands⟩ keeps
      rw [handedOver, if_pos hands, changeOutput_of_eq auto]
      exact ⟨rfl, rfl⟩
    · rw [handedOver, if_neg hands]
      exact ⟨rfl, rfl⟩

theorem changeOutput_ring (o : OutputIdx) (new : OutputState) (s : State) : (s.changeOutput o new).ring = s.ring := by
  by_cases same : (s.outputs.get o).state = new
  · rw [changeOutput_of_eq same]
  · rw [changeOutput_of_ne same]
    rfl

theorem handedOver_ring (s : State) (o : OutputIdx) (new : OutputConfig) : (s.handedOver o new).ring = s.ring := by
  unfold handedOver
  split
  · exact changeOutput_ring o .auto _
  · rfl

end State

/-! ### The request -/

theorem OutputConfig.settle_eq (c : OutputConfig) : c.settle =
    ({ c with high := max c.low c.high, trip := clampInt c.low (max c.low c.high) c.trip },
      max c.low c.high != c.high || clampInt c.low (max c.low c.high) c.trip != c.trip) := by
  have high : (if c.high < c.low then c.low else c.high) = max c.low c.high := by
    rw [max_def]
    split <;> split <;> omega
  unfold OutputConfig.settle
  dsimp only
  rw [high]

namespace State

variable {s : State} {o : OutputIdx} {new : OutputConfig}

theorem zoneNames_iff (z : ZoneIdx) : s.zoneNames z o = true ↔ (s.zones.get z).config.valveOutput = some o ∨
    ∃ p, (s.lanes.get (laneOf z)).pending = some p ∧ (p.zones.get (placeOf z)).valveOutput = some o := by
  unfold zoneNames laneOfZone
  cases (s.lanes.get (laneOf z)).pending <;> simp

theorem outputSuits_iff : s.outputSuits o new = true ↔ ∀ z : ZoneIdx, ((s.zones.get z).config.valveOutput = some o ∨
    ∃ p, (s.lanes.get (laneOf z)).pending = some p ∧ (p.zones.get (placeOf z)).valveOutput = some o) → new.kind = .zoneValve ∧ new.owner = z := by
  unfold outputSuits OutputConfig.servesZone
  rw [List.all_eq_true]
  refine forall_congr' fun z => ?_
  rw [← zoneNames_iff]
  simp only [mem_indices, Bool.or_eq_true, Bool.not_eq_true', Bool.and_eq_true, beq_iff_eq, true_imp_iff]
  cases s.zoneNames z o <;> simp

theorem writeOutput_self (s : State) (o : OutputIdx) : s.writeOutput o (s.outputs.get o).config = s := by
  have same : s.setOutput o { s.outputs.get o with config := (s.outputs.get o).config } = s := by
    rw [setOutput, Table.set_get]
    rfl
  unfold writeOutput
  dsimp only
  rw [same]
  simp

/-- The whole write: what the run gives is brought into order, and refused where it does not suit a zone that names the output (R140). -/
theorem writeTable_output_of_run {index first : Byte} {vs : List Int} {c : OutputConfig} {b : Bool} (named : index.toNat = o.val)
    (run : writeRun OutputConfig.write first.toNat vs (s.outputs.get o).config = some (c, b)) :
    let new := { c with high := max c.low c.high, trip := clampInt c.low (max c.low c.high) c.trip }
    (s.outputSuits o new = true → s.writeTable .output index first vs = (s.writeOutput o new, writeResult (b || new.high != c.high || new.trip != c.trip))) ∧
    (s.outputSuits o new ≠ true → s.writeTable .output index first vs = (s, .badArgument)) := by
  intro new
  have written := examine_eq (settle := OutputConfig.settle) run
  rw [OutputConfig.settle_eq] at written
  refine ⟨fun suits => ?_, fun unfit => ?_⟩
  · rw [writeTable_output named, written, Written.suiting_of_suits suits, Bool.or_assoc]
    rfl
  · rw [writeTable_output named, written, Written.suiting_of_not unfit]
    rfl

end State

/-- Settles O47: the table's checks, and the write's three forms: another actuator, the last value within the new limits, or cut to them. -/
theorem writeOutputActsOnItsState : Obligations.WriteOutputActsOnItsState := by
  refine ⟨fun s src tag index first vs o serves some few named => ?_, fun s o new sound => ?_⟩
  · split
    · next run =>
      refine State.exec_writing_of_refused (t := .output) serves tag some few ?_
      rw [State.writeTable_output named]
      exact congrArg (fun w => State.accept (Written.suiting w _) _ _) (examine_none run)
    · next c b run =>
      intro high trip new names suits
      obtain ⟨fits, unfit⟩ := State.writeTable_output_of_run (s := s.hearing) named run
      refine ⟨fun wrong => ?_, fun right => ?_⟩
      · exact State.exec_writing_of_refused (t := .output) serves tag some few (unfit (mt State.outputSuits_iff.1 wrong))
      · refine (State.exec_writing_of_count serves .output tag index first some few).trans ?_
        rw [fits (State.outputSuits_iff.2 right)]
        rfl
  · intro old moved tripped kept t out released reported
    have but := State.writeOutput_but o new s
    obtain ⟨u, outputs⟩ := State.writeOutput_outputs o new s
    have record : out = old.rewritten new (decide (old.config.owner ≠ new.owner) && s.servesTripped new) u := by
      change (s.writeOutput o new).outputs.get o = _
      rw [outputs, Table.get_set_self]
    have config : out.config = new := by rw [record, Output.rewritten_config]
    have state : out.state = if moved ∨ (old.config.owner ≠ new.owner ∧ tripped) then .auto else old.state := by
      rw [record, Output.rewritten_state]
      refine if_congr (or_congr_right ?_) rfl rfl
      rw [Bool.and_eq_true, decide_eq_true_iff, State.servesTripped_iff_regime]
    have others : ∀ p, p ≠ o → t.outputs.get p = s.outputs.get p := fun p other => by
      change (s.writeOutput o new).outputs.get p = _
      rw [outputs, Table.get_set_other _ _ other]
    have itself : new = old.config → t = s := fun same => by
      change s.writeOutput o new = s
      rw [same, State.writeOutput_self]
    have rest := And.intro (but .lanes (by decide)) (And.intro (but .allocator (by decide)) (And.intro (but .blowers (by decide))
      (And.intro (but .watches (by decide)) (And.intro (but .freeIndex (by decide)) (State.SameOutside.of_but but (by decide))))))
    by_cases moves : moved
    · have eq : t = (s.reassigned o new).changeOutput o .auto := State.writeOutput_of_moved moves
      have made : out = { old with config := new, state := .auto, last := none, unsent := false, resendTimer := none } := by
        change t.outputs.get o = _
        rw [eq, State.changeOutput_outputs, Table.get_set_self, State.reassigned_get]
      have ring : t.ring = s.ring.detach o := by
        rw [eq, State.changeOutput_ring]
        rfl
      have raised : t.raised = s.raised := by
        rw [eq, State.changeOutput_raised]
        rfl
      refine ⟨config, ?_, state, fun _ => ⟨?_, fun q mem owner => ?_, ?_, ?_, raised⟩, fun _ => ⟨?_, ?_⟩, fun still => absurd moves still,
        fun still => absurd moves still, fun _ => ?_, fun keeps => ?_, fun still => absurd moves still, fun still => absurd moves still, others, itself, rest⟩
      · rw [made, if_pos moves]
      · rw [made, if_pos moves]
      · rw [ring] at mem
        obtain ⟨q, -, rfl⟩ := List.mem_map.1 mem
        exact absurd owner (Queued.detach_releases o q)
      · rw [ring]
        exact (List.map_map ..).trans (List.map_congr_left fun q _ => Queued.detach_payload o q)
      · rw [ring]
        rfl
      · rw [made]
      · rw [ring]
        refine congrArg (fun x => { s.ring with transmit := x }) (List.map_congr_left fun q _ => ?_)
        exact (Queued.detach_eq o q).trans (by cases q.body <;> rfl)
      · rw [eq]
        exact State.reassigned_report s o new
      · have auto : old.state = .auto := by
          cases held : old.state with
          | auto => rfl
          | supervised => exact absurd ⟨held, .inl moves⟩ keeps
        have already : ((s.reassigned o new).outputs.get o).state = .auto := by
          rw [State.reassigned_get]
          exact auto
        rw [eq, State.changeOutput_of_eq already]
        exact ⟨rfl, rfl⟩
    · have hands : released ↔ old.state = .supervised ∧ s.HandsOver o new :=
        and_congr_right' (or_iff_right moves)
      obtain ⟨gives, keepsReport⟩ := State.handedOver_report s o new
      by_cases within : kept
      · have eq := State.writeOutput_of_kept sound moves within
        have made : out = _ := (congrArg (fun v : State => v.outputs.get o) eq).trans (Table.get_set_self ..)
        have ring : t.ring = s.ring := (congrArg State.ring eq).trans (State.handedOver_ring s o new)
        have raised : t.raised = s.raised := (congrArg State.raised eq).trans (State.handedOver_but s o new .raised (by decide))
        have zones : t.zones = (s.handedOver o new).zones := (congrArg State.zones eq).trans rfl
        have history : t.history = (s.handedOver o new).history := (congrArg State.history eq).trans rfl
        refine ⟨config, ?_, state, fun _ => ⟨?_, fun q mem owner => ⟨moves, ring ▸ mem⟩, by rw [ring], by rw [ring], raised⟩, fun moved => absurd moved moves,
          fun _ _ => ring, fun _ l last outside => absurd (within l last) outside, fun release => ?_, fun keeps => ?_, fun _ _ => ?_,
          fun _ cut => absurd within cut, others, itself, rest⟩
        · rw [made, if_neg moves]
          change old.last = old.last.map (clampInt new.low new.high)
          cases last : old.last with
          | none => rfl
          | some l => exact congrArg some ((clampInt_eq_iff ..).2 (within l last)).symm
        · rw [made, if_neg moves]
        · rw [zones, history]
          exact gives (hands.1 release)
        · rw [zones, history]
          exact keepsReport (mt hands.2 keeps)
        · rw [made]
      · obtain ⟨l, last, outside⟩ : ∃ l, old.last = some l ∧ ¬(new.low ≤ l ∧ l ≤ new.high) := by
          by_contra none
          exact within fun l last => by_contra fun outside => none ⟨l, last, outside⟩
        obtain ⟨u, sent, ⟨x, before⟩, eq⟩ := State.writeOutput_of_cut sound moves last outside
        obtain ⟨answer, answered⟩ : ∃ answer, u.sendCommand o (clampInt new.low new.high l) = answer := ⟨_, rfl⟩
        rw [answered] at eq
        have sends := u.sendCommand_but o (clampInt new.low new.high l)
        rw [answered] at sends
        have made : out = _ := (congrArg (fun v : State => v.outputs.get o) eq).trans (Table.get_set_self ..)
        have zones : t.zones = (s.handedOver o new).zones := by
          refine (congrArg State.zones eq).trans ((sends .zones (by decide)).trans ?_)
          rw [before]
          rfl
        have history : t.history = (s.handedOver o new).history := by
          refine (congrArg State.history eq).trans ((sends .history (by decide)).trans ?_)
          rw [before]
          rfl
        have address : old.config.destination = new.destination ∧ old.config.channel = new.channel := by
          refine ⟨by_contra fun other => moves (.inl other), by_contra fun other => moves (.inr (.inl other))⟩
        obtain ⟨ring, raised, unsent⟩ := State.sendCommand_congr (u := u) (s := s) (o := o) (v := clampInt new.low new.high l)
          (by rw [before]; exact State.handedOver_ring s o new) (by rw [before]; exact State.handedOver_but s o new .ownAddress (by decide))
          (by rw [before]; exact State.handedOver_but s o new .raised (by decide)) (by rw [sent]; exact address.1.symm) (by rw [sent]; exact address.2.symm)
        rw [answered] at ring raised unsent
        have stops (h : moved ∨ kept) : False := h.elim moves within
        refine ⟨config, ?_, state, fun h => (stops h).elim, fun moved => absurd moved moves, fun _ kept => absurd kept within, fun _ m held _ => ?_,
          fun release => ?_, fun keeps => ?_, fun _ kept => absurd kept within, fun _ _ => ?_, others, itself, rest⟩
        · rw [made, if_neg moves, last]
          rfl
        · obtain rfl : l = m := Option.some.inj (last.symm.trans held)
          refine ⟨(congrArg State.ring eq).trans ring, (congrArg State.raised eq).trans raised, ?_⟩
          rw [made, ← unsent]
        · rw [zones, history]
          exact gives (hands.1 release)
        · rw [zones, history]
          exact keepsReport (mt hands.2 keeps)
        · rw [made]

end Sys2Proof.Machine
end

section
/-! Writes that take effect at once, writes that start a point anew or are staged, and writes to blowers and watches (R31 to R33, R48, R55, R59, R80,
R103, R113, R119, R127, R140, R157). -/
namespace Sys2Proof.Machine

/-! ### The cross-field checks of each table, as equations -/

theorem max_eq_ite_nat (a b : Nat) : (if a < b then b else a) = max a b := by
  rw [max_def]
  split <;> split <;> omega

theorem max_eq_ite_int (a b : Int) : (if a < b then b else a) = max a b := by
  rw [max_def]
  split <;> split <;> omega

theorem ReturnConfig.settle_eq (c : ReturnConfig) :
    c.settle = ({ c with maxFlow := max c.maxFlow c.minFlow }, max c.maxFlow c.minFlow != c.maxFlow) := by
  unfold ReturnConfig.settle
  split
  · next low =>
    rw [max_eq_right (Nat.le_of_lt low)]
    exact congrArg (Prod.mk _) (bne_iff_ne.2 (Nat.ne_of_gt low)).symm
  · next order =>
    rw [max_eq_left (Nat.le_of_not_lt order), bne_self_eq_false]

theorem PlantConfig.settle_eq (c : PlantConfig) :
    c.settle = ({ c with exitLevel := min c.exitLevel c.enterLevel }, min c.exitLevel c.enterLevel != c.exitLevel) := by
  unfold PlantConfig.settle
  split
  · next high =>
    rw [min_eq_right (Int.le_of_lt high)]
    exact congrArg (Prod.mk _) (bne_iff_ne.2 (Int.ne_of_lt high)).symm
  · next order =>
    rw [min_eq_left (Int.not_lt.1 order), bne_self_eq_false]

theorem PointConfig.settle_eq (c : PointConfig) :
    let low := if c.kind = .equipment ∨ c.kind = .generic then c.low else max 0 c.low
    c.settle = ({ c with low := low, high := max low c.high }, low != c.low || max low c.high != c.high) := by
  intro low
  have raised : (if c.kind.nonNegative = true ∧ c.low < 0 then 0 else c.low) = low := by
    have kinds : c.kind.nonNegative = true ↔ ¬(c.kind = .equipment ∨ c.kind = .generic) := by cases c.kind <;> simp [PointKind.nonNegative]
    by_cases signed : c.kind = .equipment ∨ c.kind = .generic
    · rw [if_neg fun h => kinds.1 h.1 signed]
      exact (if_pos signed).symm
    · rw [show low = max 0 c.low from if_neg signed, max_comm, ← max_eq_ite_int]
      exact if_congr (and_iff_right (kinds.2 signed)) rfl rfl
  unfold PointConfig.settle
  dsimp only
  rw [raised, max_eq_ite_int, max_comm]

theorem LaneConfig.settle_eq (c : LaneConfig) :
    c.settle = ({ c with trimHigh := max c.trimLow c.trimHigh }, max c.trimLow c.trimHigh != c.trimHigh) := by
  unfold LaneConfig.settle
  split
  · next low =>
    rw [max_eq_left (Int.le_of_lt low)]
    exact congrArg (Prod.mk _) (bne_iff_ne.2 (Int.ne_of_gt low)).symm
  · next order =>
    rw [max_eq_right (Int.not_lt.1 order), bne_self_eq_false]

theorem ZoneConfig.settle_eq (c : ZoneConfig) : c.settle = ({ c with maxAir := max c.minAir c.maxAir }, max c.minAir c.maxAir != c.maxAir) := by
  unfold ZoneConfig.settle
  split
  · next low =>
    rw [max_eq_left (Nat.le_of_lt low)]
    exact congrArg (Prod.mk _) (bne_iff_ne.2 (Nat.ne_of_gt low)).symm
  · next order =>
    rw [max_eq_right (Nat.le_of_not_lt order), bne_self_eq_false]

theorem BlowerConfig.settle_eq (c : BlowerConfig) : c.settle =
    ({ c with cmax := max c.cmin c.cmax, timeout := max c.warmUp c.timeout }, max c.cmin c.cmax != c.cmax || max c.warmUp c.timeout != c.timeout) := by
  unfold BlowerConfig.settle
  dsimp only
  rw [max_eq_ite_nat, max_eq_ite_nat, max_comm c.cmax, max_comm c.timeout]

theorem WatchConfig.settle_eq (c : WatchConfig) :
    let high := if c.test = .outside then max c.low c.high else c.high
    let n := if c.subject.isLevel then 1 else c.persistence
    c.settle = ({ c with high := high, persistence := n }, high != c.high || n != c.persistence) := by
  intro high n
  have raised : (if c.test = .outside ∧ c.high < c.low then c.low else c.high) = high := by
    by_cases outside : c.test = .outside
    · rw [show high = max c.low c.high from if_pos outside, max_comm, ← max_eq_ite_int]
      exact if_congr (and_iff_right outside) rfl rfl
    · rw [if_neg fun h => outside h.1]
      exact (if_neg outside).symm
  unfold WatchConfig.settle
  dsimp only
  rw [raised]

/-! ### The records after a write -/

theorem ReturnLine.rewrite_eq (l : ReturnLine) (c : ReturnConfig) : l.rewrite c = { l with
    config := c
    state := (match l.state with
      | .heldStorm h => .heldStorm (c.limit h)
      | other => other)
    target := if l.state = .stopped then l.target else c.limit l.target } := by
  unfold ReturnLine.rewrite
  cases h : l.state <;> rfl

namespace State

variable {s : State} {src : Addr} {t : TableName} {index first : Byte} {vs : List Word32}

theorem exec_writing_of_done (serves : s.Serves src) (tag : Byte) (some : 1 ≤ vs.length) (few : vs.length ≤ 8) {u : State} {r : Result}
    (done : s.hearing.writeTable t index first (carried vs) = (u, r)) :
    exec (t.writing src tag index first vs) s = .next (reply src 2 tag (u, .some (r, []))) := by
  rw [exec_writing_of_count serves t tag index first some few, done]
  rfl

/-- A write that moves no actuator, leaves the last value within the limits and keeps owner and interval changes the configuration alone. -/
theorem writeOutput_of_quiet {o : OutputIdx} {new : OutputConfig} (still : ¬Output.moves (s.outputs.get o).config new)
    (owner : (s.outputs.get o).config.owner = new.owner) (resend : (s.outputs.get o).config.resend = new.resend)
    (within : ∀ l, (s.outputs.get o).last = some l → new.low ≤ l ∧ l ≤ new.high) : s.writeOutput o new = s.rewrote o new := by
  have keeps : s.handedOver o new = s.rewrote o new := if_neg fun hands => hands.1 owner
  have stays : (s.rewrote o new).reclampOutput o = s.rewrote o new := by
    unfold reclampOutput
    rw [rewrote_get]
    dsimp only
    split
    · rfl
    · next l last => exact if_pos ((clampInt_eq_iff ..).2 (within l last))
  rw [writeOutput_of_still still, keeps, stays]
  dsimp only
  rw [ite_self, if_neg (not_not.2 resend)]

theorem exec_lockRoute (serves : s.Serves src) (tag entry : Byte) :
    exec (.lockRoute src tag entry) s = .next (reply src 6 tag (s.hearing.lockEntry entry).answered) :=
  congrArg Host.Outcome.next (requestArrives_of_serves serves 6 tag (.lockRoute entry))

end State

/-- Settles O45: each table's write as the run gives it and the table's checks bring it into order. -/
theorem writesTakeEffectAtOnce : Obligations.WritesTakeEffectAtOnce := by
  intro s src tag index first vs serves some few replied
  refine ⟨fun i named unlocked => ?route, fun r named => ?line, fun zero => ⟨?plant, ?allocator⟩, fun o named => ?output, fun entry => ⟨fun outside => ?_, fun i named => ?_⟩⟩
  case route =>
    have table := State.writeTable_route (s := s.hearing) (first := first) (vs := carried vs) named
    rw [if_neg (ne_true_of_eq_false (show (s.hearing.routes.get i).locked = false from unlocked))] at table
    split
    · next run =>
      refine State.exec_writing_of_refused (t := .route) serves tag some few (table.trans ?_)
      exact congrArg (fun w => State.accept w _ _) (examine_none run)
    · next c b run =>
      refine (State.exec_writing_of_done (t := .route) serves tag some few (table.trans (congrArg (fun w => State.accept w _ _) (examine_eq run)))).trans ?_
      exact congrArg Host.Outcome.next (State.reply_hearing_withRoutes serves ..)
  case line =>
    have table := State.writeTable_returnLine (s := s.hearing) (first := first) (vs := carried vs) named
    split
    · next run =>
      refine State.exec_writing_of_refused (t := .returnLine) serves tag some few (table.trans ?_)
      exact congrArg (fun w => State.accept w _ _) (examine_none run)
    · next c b run =>
      have written := examine_eq (settle := ReturnConfig.settle) run
      rw [ReturnConfig.settle_eq] at written
      refine (State.exec_writing_of_done (t := .returnLine) serves tag some few (table.trans (congrArg (fun w => State.accept w _ _) written))).trans ?_
      refine congrArg Host.Outcome.next (Eq.trans (congrArg (fun l => State.reply src 2 tag (s.hearing.setReturn r l, .some (_, [])))
        (ReturnLine.rewrite_eq ..)) ?_)
      exact State.reply_of_room (s := s.hearing.withReturns _) serves.raised serves.room ..
  case plant =>
    have table := State.writeTable_plant (s := s.hearing) (index := index) (first := first) (vs := carried vs) (by rw [zero]; rfl)
    split
    · next run =>
      refine State.exec_writing_of_refused (t := .plant) serves tag some few (table.trans ?_)
      exact congrArg (fun w => State.accept w _ _) (examine_none run)
    · next c b run =>
      have written := examine_eq (settle := PlantConfig.settle) run
      rw [PlantConfig.settle_eq] at written
      refine (State.exec_writing_of_done (t := .plant) serves tag some few (table.trans (congrArg (fun w => State.accept w _ _) written))).trans ?_
      exact congrArg Host.Outcome.next (State.reply_of_room (s := s.hearing.withPlant _) serves.raised serves.room ..)
  case allocator =>
    have table := State.writeTable_allocator (s := s.hearing) (index := index) (first := first) (vs := carried vs) (by rw [zero]; rfl)
    split
    · next run =>
      refine State.exec_writing_of_refused (t := .allocator) serves tag some few (table.trans ?_)
      exact congrArg (fun w => State.accept w _ _) (examine_none run)
    · next c b run =>
      have written := examine_eq (settle := fun c : AllocatorConfig => (c, false)) run
      rw [Bool.or_false] at written
      refine (State.exec_writing_of_done (t := .allocator) serves tag some few (table.trans (congrArg (fun w => State.accept w _ _) written))).trans ?_
      exact congrArg Host.Outcome.next (State.reply_of_room (s := s.hearing.withAllocator _) serves.raised serves.room ..)
  case output =>
    split
    · next run =>
      refine State.exec_writing_of_refused (t := .output) serves tag some few ((State.writeTable_output named).trans ?_)
      exact congrArg (fun w => State.accept (Written.suiting w _) _ _) (examine_none run)
    · next c b run =>
      intro old high trip suits right destination channel kind owner resend within
      obtain ⟨fits, -⟩ := State.writeTable_output_of_run (s := s.hearing) named run
      have quiet : s.hearing.writeOutput o { c with high := high, trip := trip } =
          s.hearing.withOutputs (s.outputs.set o { old with config := { c with high := high, trip := trip } }) := by
        exact State.writeOutput_of_quiet (s := s.hearing) (fun moves => moves.elim (fun other => other destination.symm) fun more => more.elim (fun other => other channel.symm) fun other => other kind.symm) owner.symm resend.symm within
      refine (State.exec_writing_of_done (t := .output) serves tag some few (fits (State.outputSuits_iff.2 right))).trans ?_
      rw [quiet]
      exact congrArg Host.Outcome.next (State.reply_of_room (s := s.hearing.withOutputs _) serves.raised serves.room ..)
  · exact (State.exec_lockRoute serves tag entry).trans (congrArg Host.Outcome.next (State.reply_of_le (n := 64) serves outside ..))
  · rw [State.exec_lockRoute serves, State.lockEntry, State.atIndex_of_eq named]
    exact congrArg Host.Outcome.next (State.reply_hearing_withRoutes serves ..)

end Sys2Proof.Machine
end

section
/-! Writes to POINT, which start the point anew (R48, R44), writes to LANE and ZONE, which are staged (R55, R80), and writes to BLOWER and WATCH
(R113, R119, R157). -/
namespace Sys2Proof.Machine

namespace State

variable {s : State} {src : Addr} {tag : Byte}

/-! ### POINT -/

/-- What a reply behind an update event at a point, once it is written, leaves (R44, R45). -/
theorem updateKeeps_of_answer {p : PointIdx} (result : Result) (code tag : Byte) :
    s.UpdateKeeps (reply src code tag (s.updateEvent p, some (result, []))) := by
  have but : s.SameBut updateParts (reply src code tag (s.updateEvent p, some (result, []))) :=
    (updateEvent_but p s).trans ((reply_but src code tag _).mono (by simp +contextual))
  exact .of_but but (by decide) ((sameStaged_kept s).reply ((sameStaged_kept s).updateEvent (.refl s) p) src code tag)

theorem updateKeeps_of_reply_alone (result : Result) (code tag : Byte) : s.UpdateKeeps (reply src code tag (s, some (result, []))) :=
  .of_but (reply_but src code tag (s, some (result, []))) (by decide) ((sameStaged_kept s).reply (.refl s) src code tag)

end State

/-- Settles O46: the point's record starts anew, and an update event follows where its quality was another. -/
theorem writePointStartsItAnew : Obligations.WritePointStartsItAnew := by
  intro s src tag index first vs p serves some few named
  have table := State.writeTable_point (s := s.hearing) (first := first) (vs := carried vs) named
  split
  · next run =>
    refine State.exec_writing_of_refused (t := .point) serves tag some few (table.trans ?_)
    exact congrArg (fun w => State.accept w _ _) (examine_none run)
  · next c b run =>
    intro low high pt result
    have written := examine_eq (settle := PointConfig.settle) run
    rw [PointConfig.settle_eq, ← Bool.or_assoc] at written
    obtain ⟨u, anew⟩ : ∃ u, s.hearing.withPoints (s.points.set p pt) = u := ⟨_, rfl⟩
    have points : u.points = s.points.set p pt := by rw [← anew]; rfl
    have routes : u.routes = s.routes := by rw [← anew]; rfl
    have writes : exec (.writeFieldsPoint src tag index first vs) s =
        .next (State.reply src 2 tag (if (s.points.get p).state.quality = .none then u else u.updateEvent p, .some (result, []))) := by
      refine (State.exec_writing_of_done (t := .point) serves tag some few (table.trans (congrArg (fun w => State.accept w _ _) written))).trans ?_
      rw [← anew]
      rfl
    rw [anew]
    have quiet (alone : (if (s.points.get p).state.quality = .none then u else u.updateEvent p) = u) :
        exec (.writeFieldsPoint src tag index first vs) s = .next ((s.replied src 2 tag result []).withPoints (s.points.set p pt)) := by
      rw [writes, alone, ← anew]
      exact congrArg Host.Outcome.next (State.reply_hearing_withPoints serves ..)
    refine ⟨⟨_, writes, ?_, ?_, ?_⟩, fun other => ?_, fun alone => ?_⟩
    · refine (State.reply_but src 2 tag _ .points (by decide)).trans ?_
      split
      · exact points
      · exact (State.updateEvent_points ..).trans points
    · refine (State.reply_but src 2 tag _ .routes (by decide)).trans ?_
      split
      · exact routes
      · exact (State.updateEvent_routes ..).trans routes
    · split
      · exact State.updateKeeps_of_reply_alone ..
      · exact State.updateKeeps_of_answer ..
    · rw [writes, if_neg other]
    · refine quiet ?_
      split
      · rfl
      · next other =>
        rw [← anew]
        exact ((alone.resolve_left other).hearing.withPoints _).updateEvent

/-! ### LANE and ZONE -/

theorem State.staged_eq (k : LaneIdx) (s : State) : s.staged k = (s.lanes.get k).pending.getD
    { lane := (s.lanes.get k).config, zones := Table.build fun i => (s.zones.get (zoneAt k i)).config } := by
  unfold State.staged
  cases (s.lanes.get k).pending <;> rfl

/-- Settles O48: the lane's pending set as it stands takes the run. -/
theorem laneAndZoneWritesAreStaged : Obligations.LaneAndZoneWritesAreStaged := by
  intro s src tag index first vs serves some few standing staged
  have stands (k : LaneIdx) : s.hearing.staged k = standing k := State.staged_eq k s.hearing
  refine ⟨fun k named => ?lane, fun z named => ?zone⟩
  case lane =>
    have table := State.writeTable_lane (s := s.hearing) (first := first) (vs := carried vs) named
    rw [stands] at table
    split
    · next run =>
      refine State.exec_writing_of_refused (t := .lane) serves tag some few (table.trans ?_)
      exact congrArg (fun w => State.accept w _ _) (examine_none run)
    · next c b run =>
      have written := examine_eq (settle := LaneConfig.settle) run
      rw [LaneConfig.settle_eq] at written
      refine (State.exec_writing_of_done (t := .lane) serves tag some few (table.trans (congrArg (fun w => State.accept w _ _) written))).trans ?_
      exact congrArg Host.Outcome.next (State.reply_of_room (s := s.hearing.withLanes _) serves.raised serves.room ..)
  case zone =>
    intro k accepts
    have table := State.writeTable_zone (s := s.hearing) (first := first) (vs := carried vs) named
    have serving : (fun o => (s.hearing.outputs.get o).config.servesZone z) = accepts := funext fun o => Bool.eq_iff_iff.2 (by
      unfold OutputConfig.servesZone
      rw [Bool.and_eq_true, beq_iff_eq, beq_iff_eq]
      exact decide_eq_true_iff.symm)
    rw [stands, serving] at table
    split
    · next run =>
      refine State.exec_writing_of_refused (t := .zone) serves tag some few (table.trans ?_)
      exact congrArg (fun w => State.accept w _ _) (examine_none run)
    · next c b run =>
      have written := examine_eq (settle := ZoneConfig.settle) run
      rw [ZoneConfig.settle_eq] at written
      refine (State.exec_writing_of_done (t := .zone) serves tag some few (table.trans (congrArg (fun w => State.accept w _ _) written))).trans ?_
      exact congrArg Host.Outcome.next (State.reply_of_room (s := s.hearing.withLanes _) serves.raised serves.room ..)

/-! ### BLOWER and WATCH -/

theorem State.rankSuits_iff (s : State) (b : BlowerIdx) (c : BlowerConfig) : s.rankSuits b c = true ↔ ¬(c.inService = true ∧
    ∃ j, j ≠ b ∧ (s.blowers.get j).config.inService = true ∧ (s.blowers.get j).config.rank = c.rank) := by
  unfold State.rankSuits
  rw [Bool.or_eq_true, Bool.not_eq_true', List.all_eq_true, not_and]
  simp only [mem_indices, Bool.or_eq_true, Bool.not_eq_true', beq_iff_eq, bne_iff_ne, true_imp_iff]
  cases c.inService
  · simp
  · simp only [Bool.true_eq_false, false_or, true_imp_iff, not_exists, not_and]
    refine forall_congr' fun j => ?_
    cases (s.blowers.get j).config.inService <;> by_cases same : j = b <;> simp [same]

theorem BlowerState.marked_eq (st : BlowerState) (c : BlowerConfig) : st.marked c = if st.isRunning then .running (!c.inService) else st := by
  cases st <;> rfl

theorem State.writeBlower_eq (b : BlowerIdx) (c : BlowerConfig) (s : State) :
    (((s.blowers.get b).state = .faulted ∧ s.driveReading (s.blowers.get b).config.statusPoint = some .stopped) → s.writeBlower b c =
      (s.withBlowers (s.blowers.set b { config := c, state := .stopped })).capture (.blower b .faulted .stopped)) ∧
    (¬((s.blowers.get b).state = .faulted ∧ s.driveReading (s.blowers.get b).config.statusPoint = some .stopped) → s.writeBlower b c =
      s.withBlowers (s.blowers.set b { config := c, state := if (s.blowers.get b).state.isRunning then .running (!c.inService) else (s.blowers.get b).state })) := by
  unfold State.writeBlower
  refine ⟨fun clears => ?_, fun stays => ?_⟩
  · rw [if_pos clears, State.changeBlower]
    have marked : ((s.setBlower b { config := c, state := (s.blowers.get b).state.marked c }).blowers.get b) = { config := c, state := .faulted } := by
      rw [clears.1]
      exact Table.get_set_self ..
    rw [marked]
    exact congrArg (fun x => (s.withBlowers x).capture _) (Table.set_set ..)
  · rw [if_neg stays, BlowerState.marked_eq]
    rfl

theorem WatchConfig.testSuits_iff (c : WatchConfig) : c.testSuits = true ↔ ((∃ p, c.subject = .point p) ↔ c.test ≠ .active) := by
  unfold WatchConfig.testSuits
  cases c.subject <;> simp

theorem WatchConfig.linkSuits_iff (c : WatchConfig) (w : WatchIdx) : c.linkSuits w = true ↔ ∀ j, c.stage = some j → j < w := by
  unfold WatchConfig.linkSuits
  cases c.stage <;> simp

theorem State.rest_eq (c : WatchConfig) (s : State) : c.rest (s.stageFired c) = if c.enable = false then .off
    else if ∀ j, c.stage = some j → (s.watches.get j).state.isFired = true then .armed else .waiting := by
  have linked : (if s.stageFired c then WatchState.armed else .waiting) =
      if ∀ j, c.stage = some j → (s.watches.get j).state.isFired = true then .armed else .waiting := if_congr (s.stageFired_iff c) rfl rfl
  unfold WatchConfig.rest
  by_cases enabled : c.enable = true
  · rw [← linked, if_pos enabled, if_neg (c := c.enable = false) (ne_false_of_eq_true enabled)]
    cases stage : c.stage with
    | none =>
      rw [State.stageFired, stage]
      rfl
    | some j => rfl
  · rw [if_neg enabled, if_pos (Bool.not_eq_true _ ▸ enabled)]

/-- Settles O49: each table's refusal and the record, or the entry, that an accepted write leaves. -/
theorem blowerAndWatchWrites : Obligations.BlowerAndWatchWrites := by
  intro s src tag index first vs serves some few replied
  refine ⟨fun b named => ?blower, fun w named unfired => ?watch⟩
  case blower =>
    have table := State.writeTable_blower (s := s.hearing) (first := first) (vs := carried vs) named
    split
    · next run =>
      refine State.exec_writing_of_refused (t := .blower) serves tag some few (table.trans ?_)
      exact congrArg (fun w => State.accept (Written.suiting w _) _ _) (examine_none run)
    · next c f run =>
      intro cmax timeout new old clash clears done
      have written := examine_eq (settle := BlowerConfig.settle) run
      rw [BlowerConfig.settle_eq, ← Bool.or_assoc] at written
      have suits := State.rankSuits_iff s.hearing b new
      have writes (fits : ¬clash) : exec (.writeFieldsBlower src tag index first vs) s =
          .next (State.reply src 2 tag (s.hearing.writeBlower b new, .some (writeResult (f || cmax != c.cmax || timeout != c.timeout), []))) :=
        State.exec_writing_of_done (t := .blower) serves tag some few (table.trans
          ((congrArg (fun w => State.accept (Written.suiting w _) _ _) written).trans
            (congrArg (fun w => State.accept w _ _) (Written.suiting_of_suits (suits.2 fits)))))
      obtain ⟨stopped, kept⟩ := State.writeBlower_eq b new s.hearing
      refine ⟨fun ranks => ?_, fun fits clear => ?_, fun fits stays => ?_⟩
      · refine State.exec_writing_of_refused (t := .blower) serves tag some few (table.trans
          ((congrArg (fun w => State.accept (Written.suiting w _) _ _) written).trans
            (congrArg (fun w => State.accept w _ _) (Written.suiting_of_not fun fits => suits.1 fits ranks))))
      · rw [writes fits, stopped clear]
        exact congrArg Host.Outcome.next (State.reply_of_room (s := (s.hearing.withBlowers _).capture _) serves.raised serves.room ..)
      · rw [writes fits, kept stays]
        exact congrArg Host.Outcome.next (State.reply_of_room (s := s.hearing.withBlowers _) serves.raised serves.room ..)
  case watch =>
    have table := State.writeTable_watch (s := s.hearing) (first := first) (vs := carried vs) named
    rw [if_neg (ne_true_of_eq_false (show (s.hearing.watches.get w).state.isFired = false from unfired))] at table
    split
    · next run =>
      refine State.exec_writing_of_refused (t := .watch) serves tag some few (table.trans ?_)
      exact congrArg (fun w => State.accept (Written.suiting w _) _ _) (examine_none run)
    · next c f run =>
      intro high level n new suits stageFired state
      have leveled : c.subject.isLevel = level := by
        simp only [level]
        cases c.subject <;> rfl
      have written := examine_eq (settle := WatchConfig.settle) run
      rw [WatchConfig.settle_eq, ← Bool.or_assoc, leveled] at written
      have fitting : (new.testSuits && new.linkSuits w) = true ↔ suits := by
        rw [Bool.and_eq_true, WatchConfig.testSuits_iff, WatchConfig.linkSuits_iff]
      refine ⟨fun unfit => ?_, fun fits => ?_⟩
      · refine State.exec_writing_of_refused (t := .watch) serves tag some few (table.trans
          ((congrArg (fun w => State.accept (Written.suiting w _) _ _) written).trans
            (congrArg (fun w => State.accept w _ _) (Written.suiting_of_not (mt fitting.1 unfit)))))
      · refine (State.exec_writing_of_done (t := .watch) serves tag some few (table.trans
          ((congrArg (fun w => State.accept (Written.suiting w _) _ _) written).trans
            (congrArg (fun w => State.accept w _ _) (Written.suiting_of_suits (fitting.2 fits)))))).trans ?_
        have anew : (s.hearing.watches.get w).rewritten new (s.hearing.stageFired new) =
            { s.watches.get w with config := new, state := state, count := n - 1, truth := false } := by
          unfold Watch.rewritten
          rw [State.rest_eq]
          rfl
        refine congrArg Host.Outcome.next (Eq.trans (congrArg (fun x => State.reply src 2 tag (s.hearing.setWatch w x, .some (_, []))) anew) ?_)
        exact State.reply_hearing_withWatches serves ..

end Sys2Proof.Machine
end

section
/-! Every configuration field takes its values and reads back (R185): each field of a table follows its class, and what the classes promise of a whole
table follows from that once. A record is seen as the row of its configuration fields as they read; a write sets one place of the row. -/
namespace Sys2Proof.Machine

/-! ### Rows -/

/-- The configuration fields of a record as they read. -/
def rowOf {α : Type} (read : α → Nat → Option Int) (n : Nat) (c : α) : List Int := (List.range n).map fun j => (read c j).getD 0

section
variable {α : Type} {read : α → Nat → Option Int} {n : Nat} {c new : α} {id j : Nat} {v : Int}

theorem rowOf_length : (rowOf read n c).length = n := by rw [rowOf, List.length_map, List.length_range]

theorem read_eq_row (defined : ∀ (c : α) (j : Nat), j < n → (read c j).isSome = true) (inside : j < n) : read c j = (rowOf read n c)[j]? := by
  obtain ⟨x, value⟩ := Option.isSome_iff_exists.1 (defined c j inside)
  rw [rowOf, List.getElem?_map, List.getElem?_range inside, Option.map_some, value]
  rfl

theorem read_of_set_self (defined : ∀ (c : α) (j : Nat), j < n → (read c j).isSome = true) (inside : id < n)
    (set : rowOf read n new = (rowOf read n c).set id v) : read new id = some v := by
  rw [read_eq_row defined inside, set, List.getElem?_set_self (by rw [rowOf_length]; exact inside)]

theorem read_of_set_other (defined : ∀ (c : α) (j : Nat), j < n → (read c j).isSome = true) (inside : j < n) (other : j ≠ id)
    (set : rowOf read n new = (rowOf read n c).set id v) : read new j = read c j := by
  rw [read_eq_row defined inside, read_eq_row defined inside, set, List.getElem?_set_ne (Ne.symm other)]

end

/-! ### What a field's class promises -/

/-- A field follows its class: a numeric field is put at the clamped value, an enumeration takes the listed values and no other; the row of the
record shows the value at the field's place and is as it was elsewhere. -/
def FieldClass.Rule {α : Type} (write : α → Nat → Int → Written α) (row : α → List Int) (c : α) (id : Nat) : FieldClass → Prop
  | .numeric low high => low ≤ high ∧ ∃ put : Int → α, (∀ v, write c id v = Machine.numeric low high v put) ∧
      ∀ v, low ≤ v → v ≤ high → row (put v) = (row c).set id v
  | .enumeration values => ∀ v, (v ∈ values → ∃ new, write c id v = some (new, false) ∧ row new = (row c).set id v) ∧
      (v ∉ values → write c id v = none)

/-- The fields from an id on follow the classes of a list. -/
inductive RulesFrom {α : Type} (write : α → Nat → Int → Written α) (row : α → List Int) (c : α) : Nat → List FieldClass → Prop where
  | nil (id : Nat) : RulesFrom write row c id []
  | cons {id : Nat} {cl : FieldClass} {rest : List FieldClass} (first : cl.Rule write row c id) (more : RulesFrom write row c (id + 1) rest) :
      RulesFrom write row c id (cl :: rest)

section
variable {α : Type} {write : α → Nat → Int → Written α} {row : α → List Int} {c : α} {id : Nat}

theorem RulesFrom.rule {fields : List FieldClass} (rules : RulesFrom write row c id fields) {i : Nat} {cl : FieldClass}
    (at_ : fields[i]? = some cl) : cl.Rule write row c (id + i) := by
  induction rules generalizing i with
  | nil => cases at_
  | cons first more ih =>
    cases i with
    | zero =>
      obtain rfl := Option.some.inj at_
      exact first
    | succ i =>
      rw [Nat.add_succ, ← Nat.succ_add]
      exact ih at_

/-! ### The classes of the ways a field is written -/

theorem Rule.ofInt {low high : Int} {put : Int → α} (order : low ≤ high) (writes : ∀ v, write c id v = numeric low high v put)
    (sets : ∀ v, row (put v) = (row c).set id v) : (FieldClass.numeric low high).Rule write row c id :=
  ⟨order, put, writes, fun v _ _ => sets v⟩

theorem Rule.ofNat {low high : Int} {put : Int → α} (order : low ≤ high) (writes : ∀ v, write c id v = numeric low high v put)
    (sets : ∀ v, row (put v) = (row c).set id (v.toNat : Nat)) (least : 0 ≤ low) : (FieldClass.numeric low high).Rule write row c id :=
  ⟨order, put, writes, fun v above _ => (sets v).trans (by rw [Int.toNat_of_nonneg (least.trans above)])⟩

theorem Rule.ofWord {n : Nat} {low high : Int} {put : Int → α} (order : low ≤ high) (writes : ∀ v, write c id v = numeric low high v put)
    (sets : ∀ v, row (put v) = (row c).set id (BitVec.ofNat n v.toNat).toNat) (least : 0 ≤ low) (most : high.toNat < 2 ^ n) :
    (FieldClass.numeric low high).Rule write row c id := by
  refine ⟨order, put, writes, fun v above below => (sets v).trans ?_⟩
  have fits : v.toNat < 2 ^ n := Nat.lt_of_le_of_lt (Int.toNat_le_toNat below) most
  rw [BitVec.toNat_ofNat, Nat.mod_eq_of_lt fits, Int.toNat_of_nonneg (least.trans above)]

theorem mem_codes {n : Nat} {v : Int} : v ∈ codes n ↔ 0 ≤ v ∧ v.toNat < n := by
  unfold codes
  rw [List.mem_map]
  constructor
  · rintro ⟨i, mem, rfl⟩
    exact ⟨Int.natCast_nonneg i, List.mem_range.1 mem⟩
  · rintro ⟨above, below⟩
    exact ⟨v.toNat, List.mem_range.2 below, Int.toNat_of_nonneg above⟩

theorem Rule.ofYesNo {put : Bool → α} (writes : ∀ v, write c id v = yesNo v put) (sets : ∀ b, row (put b) = (row c).set id (flagCode b)) :
    (FieldClass.enumeration (codes 2)).Rule write row c id := by
  intro v
  rw [writes, yesNo, mem_codes]
  refine ⟨fun listed => ?_, fun unlisted => ?_⟩
  · obtain rfl | rfl : v = 0 ∨ v = 1 := by omega
    · exact ⟨_, rfl, sets false⟩
    · exact ⟨_, rfl, sets true⟩
  · rw [if_neg (by omega), if_neg (by omega)]

theorem Rule.ofIndex {n : Nat} {put : Fin n → α} (writes : ∀ v, write c id v = index n v put) (sets : ∀ i, row (put i) = (row c).set id i.val) :
    (FieldClass.enumeration (codes n)).Rule write row c id := by
  intro v
  rw [writes, index, mem_codes]
  refine ⟨fun listed => ?_, fun unlisted => dif_neg unlisted⟩
  rw [dif_pos listed]
  refine ⟨_, rfl, (sets _).trans ?_⟩
  rw [Int.toNat_of_nonneg listed.1]

theorem Rule.ofLink {n : Nat} {put : Option (Fin n) → α} {value : Option (Fin n) → Int} (writes : ∀ v, write c id v = link n v put)
    (sets : ∀ x, row (put x) = (row c).set id (value x)) (back : ∀ x, value x = linkCode x) :
    (FieldClass.enumeration (links n)).Rule write row c id := by
  intro v
  rw [writes, link, links, List.mem_cons]
  by_cases none : v = -1
  · subst none
    rw [if_pos rfl]
    exact ⟨fun _ => ⟨_, rfl, (sets .none).trans (congrArg _ (back .none))⟩, fun unlisted => absurd (.inl rfl) unlisted⟩
  · rw [if_neg none, or_iff_right none]
    refine Rule.ofIndex (write := fun _ _ v => index n v fun i => put (some i)) (c := c) (fun _ => rfl) (fun i => ?_) v
    exact (sets (some i)).trans (congrArg _ (back (some i)))

theorem Rule.ofBits {n : Nat} {put : BitVec n → α} (writes : ∀ v, write c id v = bitSet n v put) (sets : ∀ b, row (put b) = (row c).set id b.toNat) :
    (FieldClass.enumeration (codes (2 ^ n))).Rule write row c id := by
  intro v
  rw [writes, bitSet, mem_codes]
  refine ⟨fun listed => ?_, fun unlisted => if_neg unlisted⟩
  rw [if_pos listed]
  refine ⟨_, rfl, (sets _).trans ?_⟩
  rw [BitVec.toNat_ofNat, Nat.mod_eq_of_lt listed.2, Int.toNat_of_nonneg listed.1]

theorem Rule.ofChoice {β : Type} {values : List β} {put : β → α} {code : β → Int} (writes : ∀ v, write c id v = choice values v put)
    (sets : ∀ b, row (put b) = (row c).set id (code b)) (coded : values.map code = codes values.length) :
    (FieldClass.enumeration (codes values.length)).Rule write row c id := by
  intro v
  rw [writes, choice, mem_codes]
  refine ⟨fun listed => ?_, fun unlisted => ?_⟩
  · have named : (values.map code)[v.toNat]? = some v := by
      rw [coded, codes, List.getElem?_map, List.getElem?_range listed.2]
      exact congrArg some (Int.toNat_of_nonneg listed.1)
    rw [List.getElem?_map] at named
    obtain ⟨b, at_, code⟩ := Option.map_eq_some_iff.1 named
    rw [if_neg (by omega), at_]
    exact ⟨_, rfl, (sets b).trans (congrArg _ code)⟩
  · by_cases negative : v < 0
    · exact if_pos negative
    · rw [if_neg negative, List.getElem?_eq_none (by omega)]
      rfl

end

/-! ### What follows for a table -/

section
variable {α : Type} {write : α → Nat → Int → Written α} {read : α → Nat → Option Int} {fields : List FieldClass}
  (rules : ∀ c, RulesFrom write (rowOf read fields.length) c 0 fields)
  (defined : ∀ (c : α) (j : Nat), j < fields.length → (read c j).isSome = true)
include rules defined

theorem writesTake_of_rules : WritesTake write read fields := by
  intro c id v
  have rule {cl : FieldClass} (at_ : fields[id]? = some cl) : cl.Rule write (rowOf read fields.length) c id := by
    have named := (rules c).rule at_
    rwa [Nat.zero_add] at named
  have inside {cl : FieldClass} (at_ : fields[id]? = some cl) : id < fields.length := (List.getElem?_eq_some_iff.1 at_).1
  refine ⟨fun low high at_ => ?_, fun values at_ => ?_⟩
  · obtain ⟨order, put, writes, sets⟩ := rule at_
    refine ⟨put (clampInt low high v), ?_, read_of_set_self defined (inside at_) (sets _ ?_ ?_)⟩
    · rw [writes, numeric]
      refine congrArg (fun b => some (_, b)) (Bool.eq_iff_iff.2 ?_)
      rw [bne_iff_ne, decide_eq_true_iff, Ne, clampInt_eq_iff]
      omega
    · exact (clampInt_bounds v order).1
    · exact (clampInt_bounds v order).2
  · obtain ⟨takes, refuses⟩ := rule at_ v
    refine ⟨fun listed => ?_, refuses⟩
    obtain ⟨new, written, sets⟩ := takes listed
    exact ⟨new, written, read_of_set_self defined (inside at_) sets⟩

theorem writesReadBack_of_rules (refuses : ∀ (c : α) (id : Nat) (v : Int), fields.length ≤ id → write c id v = none) :
    WritesReadBack write read fields.length := by
  intro c id v
  refine ⟨refuses c id v, ?_⟩
  by_cases inside : id < fields.length
  · have named := (rules c).rule (List.getElem?_eq_getElem inside)
    rw [Nat.zero_add] at named
    cases class_ : fields[id] with
    | numeric low high =>
      rw [class_] at named
      obtain ⟨order, put, writes, sets⟩ := named
      obtain ⟨above, below⟩ := clampInt_bounds v order
      have stays (u : Int) : clampInt low high u = u ↔ low ≤ u ∧ u ≤ high := clampInt_eq_iff low high u
      have set := sets _ above below
      simp only [writes, numeric, Option.some.injEq, Prod.mk.injEq, bne_eq_false_iff_eq]
      refine ⟨?_, ?_, ?_⟩
      · rintro _ ⟨rfl, taken⟩
        rw [taken] at set ⊢
        exact read_of_set_self defined inside set
      · rintro _ ⟨rfl, -⟩
        refine ⟨clampInt low high v, ⟨congrArg put ((stays _).2 ⟨above, below⟩), (stays _).2 ⟨above, below⟩⟩, ?_⟩
        rintro u _ ⟨-, taken⟩
        obtain ⟨lower, upper⟩ := (stays u).1 taken
        unfold clampInt
        split
        · omega
        · split <;> omega
      · rintro _ clamped j ⟨rfl, -⟩ other within
        exact read_of_set_other defined within other set
    | enumeration values =>
      rw [class_] at named
      obtain ⟨takes, refused⟩ := named v
      by_cases listed : v ∈ values
      · obtain ⟨new, written, set⟩ := takes listed
        simp only [written, Option.some.injEq, Prod.mk.injEq, Bool.false_eq_true, and_false, false_imp_iff, implies_true, true_and]
        refine ⟨?_, ?_⟩
        · rintro _ ⟨rfl, -⟩
          exact read_of_set_self defined inside set
        · rintro _ clamped j ⟨rfl, -⟩ other within
          exact read_of_set_other defined within other set
      · simp only [refused listed]
        exact ⟨nofun, nofun, nofun⟩
  · simp only [refuses c id v (Nat.le_of_not_lt inside)]
    exact ⟨nofun, nofun, nofun⟩

end

/-- What a table promises as a whole, from its fields' classes, its record's fields and its read-only ids. -/
theorem table_of_rules {α : Type} {write : α → Nat → Int → Written α} {read : α → Nat → Option Int} {fields : List FieldClass} {n : Nat}
    (length : fields.length = n) (rules : ∀ c, RulesFrom write (rowOf read n) c 0 fields)
    (defined : ∀ (c : α) (j : Nat), j < n → (read c j).isSome = true) (refuses : ∀ (c : α) (id : Nat) (v : Int), n ≤ id → write c id v = none) :
    WritesTake write read fields ∧ WritesReadBack write read n := by
  subst length
  exact ⟨writesTake_of_rules rules defined, writesReadBack_of_rules rules defined refuses⟩

theorem Rule.ofNumericIndex {α : Type} {write : α → Nat → Int → Written α} {row : α → List Int} {c : α} {id n : Nat} [NeZero n] {low high : Int}
    {put : Int → α} (order : low ≤ high) (writes : ∀ v, write c id v = numeric low high v put)
    (sets : ∀ v, row (put v) = (row c).set id (Fin.ofNat n v.toNat).val) (least : 0 ≤ low) (most : high.toNat < n) :
    (FieldClass.numeric low high).Rule write row c id := by
  refine ⟨order, put, writes, fun v above below => (sets v).trans ?_⟩
  have fits : v.toNat < n := Nat.lt_of_le_of_lt (Int.toNat_le_toNat below) most
  rw [Fin.val_ofNat, Nat.mod_eq_of_lt fits, Int.toNat_of_nonneg (least.trans above)]

/-! ### The tables, field by field -/

/-- The codes of a route entry's match field (section 2.7). -/
def matchCode : MatchField → Int
  | .source => 0
  | .destination => 1

/-- The codes of a watch's rearm field (section 9.2). -/
def rearmCode : Rearm → Int
  | .manual => 0
  | .auto => 1

theorem channelsRule (c : RouteConfig) :
    (FieldClass.enumeration [1, 2, 4, 8]).Rule RouteConfig.write (rowOf (fun c => (Route.fresh c).read) 9) c 7 := by
  intro v
  have writes : c.write 7 v = if v = 1 ∨ v = 2 ∨ v = 4 ∨ v = 8 then some ({ c with channels := v.toNat }, false) else none := rfl
  have listed : v ∈ ([1, 2, 4, 8] : List Int) ↔ v = 1 ∨ v = 2 ∨ v = 4 ∨ v = 8 := by simp
  rw [writes, listed]
  refine ⟨fun takes => ?_, fun refuses => if_neg refuses⟩
  rw [if_pos takes]
  refine ⟨_, rfl, ?_⟩
  have read : ((v.toNat : Nat) : Int) = v := Int.toNat_of_nonneg (by omega)
  exact congrArg ((rowOf (fun c => (Route.fresh c).read) 9 c).set 7) read

theorem valveRule (accepts : OutputIdx → Bool) (c : ZoneConfig) :
    (FieldClass.enumeration (-1 :: ((indices 64).filter accepts).map fun o => (o.val : Int))).Rule (ZoneConfig.write accepts)
      (rowOf (fun c => (Zone.initial c).read) 16) c 2 := by
  intro v
  have writes : c.write accepts 2 v = (link 64 v fun x => ({ c with valveOutput := x } : ZoneConfig)).bind fun r =>
      if (r.1.valveOutput.map accepts).getD true then some r else none := rfl
  have sets (x : Option OutputIdx) : rowOf (fun c => (Zone.initial c).read) 16 { c with valveOutput := x } =
      (rowOf (fun c => (Zone.initial c).read) 16 c).set 2 (linkCode x) := rfl
  rw [writes, link, List.mem_cons, List.mem_map]
  by_cases none : v = -1
  · subst none
    rw [if_pos rfl]
    exact ⟨fun _ => ⟨_, rfl, sets .none⟩, fun unlisted => absurd (.inl rfl) unlisted⟩
  · rw [if_neg none, or_iff_right none, index]
    by_cases named : 0 ≤ v ∧ v.toNat < 64
    · have back : (((⟨v.toNat, named.2⟩ : OutputIdx).val : Nat) : Int) = v := Int.toNat_of_nonneg named.1
      have listed : (∃ o, o ∈ (indices 64).filter accepts ∧ (o.val : Int) = v) ↔ accepts ⟨v.toNat, named.2⟩ = true := by
        refine ⟨fun ⟨o, mem, same⟩ => ?_, fun accepted => ⟨_, List.mem_filter.2 ⟨mem_indices _, accepted⟩, back⟩⟩
        have itself : (⟨v.toNat, named.2⟩ : OutputIdx) = o := Fin.ext (Int.ofNat_inj.1 (back.trans same.symm))
        rw [itself]
        exact (List.mem_filter.1 mem).2
      rw [listed, dif_pos named]
      refine ⟨fun accepted => ⟨_, if_pos accepted, (sets _).trans (congrArg _ back)⟩, fun refused => if_neg refused⟩
    · rw [dif_neg named]
      refine ⟨fun ⟨o, _, same⟩ => absurd ⟨?_, ?_⟩ named, fun _ => rfl⟩
      · omega
      · omega

theorem stageRule (c : WatchConfig) :
    (FieldClass.enumeration (links 31)).Rule WatchConfig.write (rowOf (fun c => (Watch.fresh c).read) 14) c 7 :=
  have le : 31 ≤ 32 := by decide
  Rule.ofLink (n := 31) (put := fun x => { c with stage := x.map fun i => i.castLE le }) (value := fun x => linkCode (x.map fun i => i.castLE le))
    (fun _ => rfl) (fun _ => rfl) fun x => by cases x <;> rfl

/-- The subjects 0 to 127 are the points, and the conditions follow them in the order of their list (R154). -/
theorem subjectRule (c : WatchConfig) :
    (FieldClass.enumeration (codes 139)).Rule WatchConfig.write (rowOf (fun c => (Watch.fresh c).read) 14) c 1 := by
  intro v
  have writes : c.write 1 v = if v < 128 then index 128 v fun p => { c with subject := .point p }
      else choice conditionSubjects (v - 128) fun x => { c with subject := x } := rfl
  have sets (x : Subject) : rowOf (fun c => (Watch.fresh c).read) 14 { c with subject := x } =
      (rowOf (fun c => (Watch.fresh c).read) 14 c).set 1 (x.code : Nat) := rfl
  rw [writes, mem_codes]
  by_cases point : v < 128
  · rw [if_pos point, index]
    refine ⟨fun listed => ?_, fun unlisted => dif_neg (by omega)⟩
    rw [dif_pos ⟨listed.1, by omega⟩]
    exact ⟨_, rfl, (sets _).trans (congrArg _ (Int.toNat_of_nonneg listed.1))⟩
  · have coded : conditionSubjects.map (fun x => (x.code : Int)) = (codes 11).map (· + 128) := rfl
    rw [if_neg point, choice, if_neg (by omega)]
    refine ⟨fun listed => ?_, fun unlisted => ?_⟩
    · have named : (conditionSubjects.map fun x => (x.code : Int))[(v - 128).toNat]? = some v := by
        rw [coded, codes, List.map_map, List.getElem?_map, List.getElem?_range (by omega)]
        refine congrArg some (?_ : ((v - 128).toNat : Int) + 128 = v)
        omega
      rw [List.getElem?_map] at named
      obtain ⟨x, at_, code⟩ := Option.map_eq_some_iff.1 named
      rw [at_]
      exact ⟨_, rfl, (sets x).trans (congrArg _ code)⟩
    · have beyond : conditionSubjects.length ≤ (v - 128).toNat := by
        change 11 ≤ _
        omega
      rw [List.getElem?_eq_none beyond]
      rfl

theorem crossTripSets (c : PlantConfig) (g : Fin 4) (x : Bool) :
    rowOf (fun c => (Plant.fresh c).read) 10 { c with crossTrip := c.crossTrip.set g x } =
      (rowOf (fun c => (Plant.fresh c).read) 10 c).set (4 + g.val) (flagCode x) := by
  have row (c : PlantConfig) : rowOf (fun c => (Plant.fresh c).read) 10 c = [linkCode c.influentPoint, c.enterLevel, c.exitLevel, c.stormHold,
      flagCode (c.crossTrip.get 0), flagCode (c.crossTrip.get 1), flagCode (c.crossTrip.get 2), flagCode (c.crossTrip.get 3),
      c.noticeAddress.toNat, c.silenceTime] := rfl
  rw [row, row]
  simp only [Table.get_set]
  fin_cases g <;> rfl

theorem routeRules (accepts : OutputIdx → Bool) (c : RouteConfig) :
    RulesFrom RouteConfig.write (rowOf (fun c => (Route.fresh c).read) 9) c 0 (TableName.route.fieldClasses accepts) :=
  .cons (Rule.ofYesNo (put := fun x => { c with valid := x }) (fun _ => rfl) (fun _ => rfl)) <|
  .cons (Rule.ofChoice (values := [MatchField.source, .destination]) (put := fun x => { c with matchField := x }) (code := matchCode) (fun _ => rfl) (fun _ => rfl) rfl) <|
  .cons (Rule.ofWord (n := 16) (put := fun x => { c with base := BitVec.ofNat 16 x.toNat }) (by decide) (fun _ => rfl) (fun _ => rfl) (by decide) (by decide)) <|
  .cons (Rule.ofNat (put := fun x => { c with exponent := x.toNat }) (by decide) (fun _ => rfl) (fun _ => rfl) (by decide)) <|
  .cons (Rule.ofBits (n := 6) (put := fun x => { c with kinds := x }) (fun _ => rfl) (fun _ => rfl)) <|
  .cons (Rule.ofChoice (values := [Disposition.pass, .observe, .consume, .guard, .discard]) (put := fun x => { c with disposition := x }) (code := fun x => (x.code : Nat)) (fun _ => rfl) (fun _ => rfl) rfl) <|
  .cons (Rule.ofNat (put := fun x => { c with pointBase := x.toNat }) (by decide) (fun _ => rfl) (fun _ => rfl) (by decide)) <|
  .cons (channelsRule c) <|
  .cons (Rule.ofYesNo (put := fun x => { c with supervisor := x }) (fun _ => rfl) (fun _ => rfl)) <|
  .nil _

theorem pointRules (accepts : OutputIdx → Bool) (c : PointConfig) :
    RulesFrom PointConfig.write (rowOf (fun c => (Point.fresh c).read) 5) c 0 (TableName.point.fieldClasses accepts) :=
  .cons (Rule.ofChoice (values := [PointKind.dissolvedOxygen, .ammonia, .airflow, .influent, .returnFlow, .blanket, .equipment, .generic]) (put := fun x => { c with kind := x }) (code := fun x => (x.code : Nat)) (fun _ => rfl) (fun _ => rfl) rfl) <|
  .cons (Rule.ofInt (put := fun x => { c with low := x }) (by decide) (fun _ => rfl) (fun _ => rfl)) <|
  .cons (Rule.ofInt (put := fun x => { c with high := x }) (by decide) (fun _ => rfl) (fun _ => rfl)) <|
  .cons (Rule.ofNat (put := fun x => { c with ageLimit := x.toNat }) (by decide) (fun _ => rfl) (fun _ => rfl) (by decide)) <|
  .cons (Rule.ofNat (put := fun x => { c with shift := x.toNat }) (by decide) (fun _ => rfl) (fun _ => rfl) (by decide)) <|
  .nil _

theorem outputRules (accepts : OutputIdx → Bool) (c : OutputConfig) :
    RulesFrom OutputConfig.write (rowOf (fun c => (Output.fresh c).read) 9) c 0 (TableName.output.fieldClasses accepts) :=
  .cons (Rule.ofWord (n := 16) (put := fun x => { c with destination := BitVec.ofNat 16 x.toNat }) (by decide) (fun _ => rfl) (fun _ => rfl) (by decide) (by decide)) <|
  .cons (Rule.ofWord (n := 8) (put := fun x => { c with channel := BitVec.ofNat 8 x.toNat }) (by decide) (fun _ => rfl) (fun _ => rfl) (by decide) (by decide)) <|
  .cons (Rule.ofChoice (values := [OutputKind.zoneValve, .blowerRun, .blowerSpeed, .returnPump, .general]) (put := fun x => { c with kind := x }) (code := fun x => (x.code : Nat)) (fun _ => rfl) (fun _ => rfl) rfl) <|
  .cons (Rule.ofNumericIndex (put := fun x => { c with owner := Fin.ofNat 32 x.toNat }) (by decide) (fun _ => rfl) (fun _ => rfl) (by decide) (by decide)) <|
  .cons (Rule.ofInt (put := fun x => { c with low := x }) (by decide) (fun _ => rfl) (fun _ => rfl)) <|
  .cons (Rule.ofInt (put := fun x => { c with high := x }) (by decide) (fun _ => rfl) (fun _ => rfl)) <|
  .cons (Rule.ofInt (put := fun x => { c with trip := x }) (by decide) (fun _ => rfl) (fun _ => rfl)) <|
  .cons (Rule.ofInt (put := fun x => { c with deadband := x }) (by decide) (fun _ => rfl) (fun _ => rfl)) <|
  .cons (Rule.ofNat (put := fun x => { c with resend := x.toNat }) (by decide) (fun _ => rfl) (fun _ => rfl) (by decide)) <|
  .nil _

theorem laneRules (accepts : OutputIdx → Bool) (c : LaneConfig) :
    RulesFrom LaneConfig.write (rowOf (fun c => (Lane.fresh c).read) 21) c 0 (TableName.lane.fieldClasses accepts) :=
  .cons (Rule.ofYesNo (put := fun x => { c with inService := x }) (fun _ => rfl) (fun _ => rfl)) <|
  .cons (Rule.ofNat (put := fun x => { c with period := x.toNat }) (by decide) (fun _ => rfl) (fun _ => rfl) (by decide)) <|
  .cons (Rule.ofNat (put := fun x => { c with zoneCount := x.toNat }) (by decide) (fun _ => rfl) (fun _ => rfl) (by decide)) <|
  .cons (Rule.ofLink (n := 128) (put := fun x => { c with ammoniaPoint := x }) (fun _ => rfl) (fun _ => rfl) (fun _ => rfl)) <|
  .cons (Rule.ofInt (put := fun x => { c with ammoniaTarget := x }) (by decide) (fun _ => rfl) (fun _ => rfl)) <|
  .cons (Rule.ofInt (put := fun x => { c with trimGain := x }) (by decide) (fun _ => rfl) (fun _ => rfl)) <|
  .cons (Rule.ofInt (put := fun x => { c with trimLow := x }) (by decide) (fun _ => rfl) (fun _ => rfl)) <|
  .cons (Rule.ofInt (put := fun x => { c with trimHigh := x }) (by decide) (fun _ => rfl) (fun _ => rfl)) <|
  .cons (Rule.ofNat (put := fun x => { c with influentWeight := x.toNat }) (by decide) (fun _ => rfl) (fun _ => rfl) (by decide)) <|
  .cons (Rule.ofLink (n := 4) (put := fun x => { c with returnLine := x }) (fun _ => rfl) (fun _ => rfl) (fun _ => rfl)) <|
  .cons (Rule.ofLink (n := 4) (put := fun x => { c with tripGroup := x }) (fun _ => rfl) (fun _ => rfl) (fun _ => rfl)) <|
  .cons (Rule.ofYesNo (put := fun x => { c with autoEconomy := x }) (fun _ => rfl) (fun _ => rfl)) <|
  .cons (Rule.ofInt (put := fun x => { c with enterLevel := x }) (by decide) (fun _ => rfl) (fun _ => rfl)) <|
  .cons (Rule.ofNat (put := fun x => { c with dwellMinutes := x.toNat }) (by decide) (fun _ => rfl) (fun _ => rfl) (by decide)) <|
  .cons (Rule.ofBits (n := 2) (put := fun x => { c with wakeMask := x }) (fun _ => rfl) (fun _ => rfl)) <|
  .cons (Rule.ofInt (put := fun x => { c with wakeAmmonia := x }) (by decide) (fun _ => rfl) (fun _ => rfl)) <|
  .cons (Rule.ofInt (put := fun x => { c with wakeInfluent := x }) (by decide) (fun _ => rfl) (fun _ => rfl)) <|
  .cons (Rule.ofNat (put := fun x => { c with cycleLength := x.toNat }) (by decide) (fun _ => rfl) (fun _ => rfl) (by decide)) <|
  .cons (Rule.ofInt (put := fun x => { c with baseOn := x }) (by decide) (fun _ => rfl) (fun _ => rfl)) <|
  .cons (Rule.ofInt (put := fun x => { c with minimumOn := x }) (by decide) (fun _ => rfl) (fun _ => rfl)) <|
  .cons (Rule.ofInt (put := fun x => { c with onSlope := x }) (by decide) (fun _ => rfl) (fun _ => rfl)) <|
  .nil _

theorem zoneRules (accepts : OutputIdx → Bool) (c : ZoneConfig) :
    RulesFrom (ZoneConfig.write accepts) (rowOf (fun c => (Zone.initial c).read) 16) c 0 (TableName.zone.fieldClasses accepts) :=
  .cons (Rule.ofLink (n := 128) (put := fun x => { c with doPoint := x }) (fun _ => rfl) (fun _ => rfl) (fun _ => rfl)) <|
  .cons (Rule.ofLink (n := 128) (put := fun x => { c with airflowPoint := x }) (fun _ => rfl) (fun _ => rfl) (fun _ => rfl)) <|
  .cons (valveRule accepts c) <|
  .cons (Rule.ofInt (put := fun x => { c with baseSetpoint := x }) (by decide) (fun _ => rfl) (fun _ => rfl)) <|
  .cons (Rule.ofInt (put := fun x => { c with economyOffset := x }) (by decide) (fun _ => rfl) (fun _ => rfl)) <|
  .cons (Rule.ofInt (put := fun x => { c with stormSetpoint := x }) (by decide) (fun _ => rfl) (fun _ => rfl)) <|
  .cons (Rule.ofInt (put := fun x => { c with kp := x }) (by decide) (fun _ => rfl) (fun _ => rfl)) <|
  .cons (Rule.ofInt (put := fun x => { c with ki := x }) (by decide) (fun _ => rfl) (fun _ => rfl)) <|
  .cons (Rule.ofNat (put := fun x => { c with biasAir := x.toNat }) (by decide) (fun _ => rfl) (fun _ => rfl) (by decide)) <|
  .cons (Rule.ofNat (put := fun x => { c with minAir := x.toNat }) (by decide) (fun _ => rfl) (fun _ => rfl) (by decide)) <|
  .cons (Rule.ofNat (put := fun x => { c with maxAir := x.toNat }) (by decide) (fun _ => rfl) (fun _ => rfl) (by decide)) <|
  .cons (Rule.ofNat (put := fun x => { c with fixedAir := x.toNat }) (by decide) (fun _ => rfl) (fun _ => rfl) (by decide)) <|
  .cons (Rule.ofNat (put := fun x => { c with tripAir := x.toNat }) (by decide) (fun _ => rfl) (fun _ => rfl) (by decide)) <|
  .cons (Rule.ofYesNo (put := fun x => { c with cyclic := x }) (fun _ => rfl) (fun _ => rfl)) <|
  .cons (Rule.ofInt (put := fun x => { c with valveGain := x }) (by decide) (fun _ => rfl) (fun _ => rfl)) <|
  .cons (Rule.ofInt (put := fun x => { c with valveRate := x }) (by decide) (fun _ => rfl) (fun _ => rfl)) <|
  .nil _

theorem blowerRules (accepts : OutputIdx → Bool) (c : BlowerConfig) :
    RulesFrom BlowerConfig.write (rowOf (fun c => (Blower.fresh c).read) 10) c 0 (TableName.blower.fieldClasses accepts) :=
  .cons (Rule.ofYesNo (put := fun x => { c with inService := x }) (fun _ => rfl) (fun _ => rfl)) <|
  .cons (Rule.ofLink (n := 64) (put := fun x => { c with runOutput := x }) (fun _ => rfl) (fun _ => rfl) (fun _ => rfl)) <|
  .cons (Rule.ofLink (n := 64) (put := fun x => { c with speedOutput := x }) (fun _ => rfl) (fun _ => rfl) (fun _ => rfl)) <|
  .cons (Rule.ofLink (n := 128) (put := fun x => { c with statusPoint := x }) (fun _ => rfl) (fun _ => rfl) (fun _ => rfl)) <|
  .cons (Rule.ofNat (put := fun x => { c with cmin := x.toNat }) (by decide) (fun _ => rfl) (fun _ => rfl) (by decide)) <|
  .cons (Rule.ofNat (put := fun x => { c with cmax := x.toNat }) (by decide) (fun _ => rfl) (fun _ => rfl) (by decide)) <|
  .cons (Rule.ofIndex (n := 6) (put := fun x => { c with rank := x }) (fun _ => rfl) (fun _ => rfl)) <|
  .cons (Rule.ofNat (put := fun x => { c with warmUp := x.toNat }) (by decide) (fun _ => rfl) (fun _ => rfl) (by decide)) <|
  .cons (Rule.ofNat (put := fun x => { c with timeout := x.toNat }) (by decide) (fun _ => rfl) (fun _ => rfl) (by decide)) <|
  .cons (Rule.ofNat (put := fun x => { c with rundown := x.toNat }) (by decide) (fun _ => rfl) (fun _ => rfl) (by decide)) <|
  .nil _

theorem returnRules (accepts : OutputIdx → Bool) (c : ReturnConfig) :
    RulesFrom ReturnConfig.write (rowOf (fun c => (ReturnLine.fresh c).read) 11) c 0 (TableName.returnLine.fieldClasses accepts) :=
  .cons (Rule.ofLink (n := 64) (put := fun x => { c with pumpOutput := x }) (fun _ => rfl) (fun _ => rfl) (fun _ => rfl)) <|
  .cons (Rule.ofLink (n := 128) (put := fun x => { c with flowPoint := x }) (fun _ => rfl) (fun _ => rfl) (fun _ => rfl)) <|
  .cons (Rule.ofLink (n := 128) (put := fun x => { c with blanketPoint := x }) (fun _ => rfl) (fun _ => rfl) (fun _ => rfl)) <|
  .cons (Rule.ofNat (put := fun x => { c with ratio := x.toNat }) (by decide) (fun _ => rfl) (fun _ => rfl) (by decide)) <|
  .cons (Rule.ofInt (put := fun x => { c with blanketThreshold := x }) (by decide) (fun _ => rfl) (fun _ => rfl)) <|
  .cons (Rule.ofNat (put := fun x => { c with boost := x.toNat }) (by decide) (fun _ => rfl) (fun _ => rfl) (by decide)) <|
  .cons (Rule.ofNat (put := fun x => { c with minFlow := x.toNat }) (by decide) (fun _ => rfl) (fun _ => rfl) (by decide)) <|
  .cons (Rule.ofNat (put := fun x => { c with maxFlow := x.toNat }) (by decide) (fun _ => rfl) (fun _ => rfl) (by decide)) <|
  .cons (Rule.ofNat (put := fun x => { c with period := x.toNat }) (by decide) (fun _ => rfl) (fun _ => rfl) (by decide)) <|
  .cons (Rule.ofInt (put := fun x => { c with gain := x }) (by decide) (fun _ => rfl) (fun _ => rfl)) <|
  .cons (Rule.ofInt (put := fun x => { c with rate := x }) (by decide) (fun _ => rfl) (fun _ => rfl)) <|
  .nil _

theorem watchRules (accepts : OutputIdx → Bool) (c : WatchConfig) :
    RulesFrom WatchConfig.write (rowOf (fun c => (Watch.fresh c).read) 14) c 0 (TableName.watch.fieldClasses accepts) :=
  .cons (Rule.ofYesNo (put := fun x => { c with enable := x }) (fun _ => rfl) (fun _ => rfl)) <|
  .cons (subjectRule c) <|
  .cons (Rule.ofChoice (values := [Test.above, .below, .outside, .unusable, .active]) (put := fun x => { c with test := x }) (code := fun x => (x.code : Nat)) (fun _ => rfl) (fun _ => rfl) rfl) <|
  .cons (Rule.ofInt (put := fun x => { c with high := x }) (by decide) (fun _ => rfl) (fun _ => rfl)) <|
  .cons (Rule.ofInt (put := fun x => { c with low := x }) (by decide) (fun _ => rfl) (fun _ => rfl)) <|
  .cons (Rule.ofInt (put := fun x => { c with hysteresis := x }) (by decide) (fun _ => rfl) (fun _ => rfl)) <|
  .cons (Rule.ofNat (put := fun x => { c with persistence := x.toNat }) (by decide) (fun _ => rfl) (fun _ => rfl) (by decide)) <|
  .cons (stageRule c) <|
  .cons (Rule.ofBits (n := 5) (put := fun x => { c with actions := x }) (fun _ => rfl) (fun _ => rfl)) <|
  .cons (Rule.ofYesNo (put := fun x => { c with armed := x }) (fun _ => rfl) (fun _ => rfl)) <|
  .cons (Rule.ofIndex (n := 8) (put := fun x => { c with targetLane := x }) (fun _ => rfl) (fun _ => rfl)) <|
  .cons (Rule.ofIndex (n := 4) (put := fun x => { c with relayLine := x }) (fun _ => rfl) (fun _ => rfl)) <|
  .cons (Rule.ofChoice (values := [Rearm.manual, .auto]) (put := fun x => { c with rearm := x }) (code := rearmCode) (fun _ => rfl) (fun _ => rfl) rfl) <|
  .cons (Rule.ofNat (put := fun x => { c with hold := x.toNat }) (by decide) (fun _ => rfl) (fun _ => rfl) (by decide)) <|
  .nil _

theorem plantRules (accepts : OutputIdx → Bool) (c : PlantConfig) :
    RulesFrom PlantConfig.write (rowOf (fun c => (Plant.fresh c).read) 10) c 0 (TableName.plant.fieldClasses accepts) :=
  .cons (Rule.ofLink (n := 128) (put := fun x => { c with influentPoint := x }) (fun _ => rfl) (fun _ => rfl) (fun _ => rfl)) <|
  .cons (Rule.ofInt (put := fun x => { c with enterLevel := x }) (by decide) (fun _ => rfl) (fun _ => rfl)) <|
  .cons (Rule.ofInt (put := fun x => { c with exitLevel := x }) (by decide) (fun _ => rfl) (fun _ => rfl)) <|
  .cons (Rule.ofNat (put := fun x => { c with stormHold := x.toNat }) (by decide) (fun _ => rfl) (fun _ => rfl) (by decide)) <|
  .cons (Rule.ofYesNo (put := fun x => { c with crossTrip := c.crossTrip.set 0 x }) (fun _ => rfl) (crossTripSets c 0)) <|
  .cons (Rule.ofYesNo (put := fun x => { c with crossTrip := c.crossTrip.set 1 x }) (fun _ => rfl) (crossTripSets c 1)) <|
  .cons (Rule.ofYesNo (put := fun x => { c with crossTrip := c.crossTrip.set 2 x }) (fun _ => rfl) (crossTripSets c 2)) <|
  .cons (Rule.ofYesNo (put := fun x => { c with crossTrip := c.crossTrip.set 3 x }) (fun _ => rfl) (crossTripSets c 3)) <|
  .cons (Rule.ofWord (n := 16) (put := fun x => { c with noticeAddress := BitVec.ofNat 16 x.toNat }) (by decide) (fun _ => rfl) (fun _ => rfl) (by decide) (by decide)) <|
  .cons (Rule.ofNat (put := fun x => { c with silenceTime := x.toNat }) (by decide) (fun _ => rfl) (fun _ => rfl) (by decide)) <|
  .nil _

theorem allocatorRules (accepts : OutputIdx → Bool) (c : AllocatorConfig) :
    RulesFrom AllocatorConfig.write (rowOf (fun c => (Allocator.fresh c).read) 5) c 0 (TableName.allocator.fieldClasses accepts) :=
  .cons (Rule.ofNat (put := fun x => { c with period := x.toNat }) (by decide) (fun _ => rfl) (fun _ => rfl) (by decide)) <|
  .cons (Rule.ofNat (put := fun x => { c with upThreshold := x.toNat }) (by decide) (fun _ => rfl) (fun _ => rfl) (by decide)) <|
  .cons (Rule.ofNat (put := fun x => { c with downThreshold := x.toNat }) (by decide) (fun _ => rfl) (fun _ => rfl) (by decide)) <|
  .cons (Rule.ofNat (put := fun x => { c with upDelay := x.toNat }) (by decide) (fun _ => rfl) (fun _ => rfl) (by decide)) <|
  .cons (Rule.ofNat (put := fun x => { c with downDelay := x.toNat }) (by decide) (fun _ => rfl) (fun _ => rfl) (by decide)) <|
  .nil _

/-- Settles O44: the fields of each table by their classes, and from those the table's promises. -/
theorem writtenFieldsReadBack : Obligations.WrittenFieldsReadBack := by
  intro accepts fields
  obtain ⟨routeTakes, routeReads⟩ := table_of_rules (n := 9) rfl (routeRules accepts) (fun _ _ inside => (Route.read_isSome _).2 (by omega)) RouteConfig.write_of_le
  obtain ⟨pointTakes, pointReads⟩ := table_of_rules (n := 5) rfl (pointRules accepts) (fun _ _ inside => (Point.read_isSome _).2 (by omega)) PointConfig.write_of_le
  obtain ⟨outputTakes, outputReads⟩ := table_of_rules (n := 9) rfl (outputRules accepts) (fun _ _ inside => (Output.read_isSome _).2 (by omega)) OutputConfig.write_of_le
  obtain ⟨laneTakes, laneReads⟩ := table_of_rules (n := 21) rfl (laneRules accepts) (fun _ _ inside => (Lane.read_isSome _).2 (by omega)) LaneConfig.write_of_le
  obtain ⟨zoneTakes, zoneReads⟩ := table_of_rules (n := 16) rfl (zoneRules accepts) (fun _ _ inside => (Zone.read_isSome _).2 (by omega)) (ZoneConfig.write_of_le accepts)
  obtain ⟨blowerTakes, blowerReads⟩ := table_of_rules (n := 10) rfl (blowerRules accepts) (fun _ _ inside => (Blower.read_isSome _).2 (by omega)) BlowerConfig.write_of_le
  obtain ⟨lineTakes, lineReads⟩ := table_of_rules (n := 11) rfl (returnRules accepts) (fun _ _ inside => (ReturnLine.read_isSome _).2 (by omega)) ReturnConfig.write_of_le
  obtain ⟨watchTakes, watchReads⟩ := table_of_rules (n := 14) rfl (watchRules accepts) (fun _ _ inside => (Watch.read_isSome _).2 (by omega)) WatchConfig.write_of_le
  obtain ⟨plantTakes, plantReads⟩ := table_of_rules (n := 10) rfl (plantRules accepts) (fun _ _ inside => (Plant.read_isSome _).2 (by omega)) PlantConfig.write_of_le
  obtain ⟨allocatorTakes, allocatorReads⟩ := table_of_rules (n := 5) rfl (allocatorRules accepts) (fun _ _ inside => (Allocator.read_isSome _).2 (by omega)) AllocatorConfig.write_of_le
  exact ⟨fun t => by cases t <;> rfl, routeTakes, pointTakes, outputTakes, laneTakes, zoneTakes, blowerTakes, lineTakes, watchTakes, plantTakes, allocatorTakes,
    routeReads, pointReads, outputReads, laneReads, zoneReads, blowerReads, lineReads, watchReads, plantReads, allocatorReads⟩

end Sys2Proof.Machine
end

section
/-! RESTART: every block's warm-restart state, and the reply at the head of the emptied queue (R189). -/
namespace Sys2Proof.Machine

/-! ### The records of the blocks after a warm restart -/

theorem LaneState.regime_eq_offline_iff (l : LaneState) : l.regime = .offline ↔ l = .offline := by cases l <;> simp [LaneState.regime]

/-- A zone after a restart: nothing asked for where it is idle, trip air in a TRIPPED lane, else its fixed air (R102). -/
theorem Zone.fresh_eq (l : Lane) (p : Fin 4) (c : ZoneConfig) : Zone.fresh l p c = { Zone.initial c with
    demand := if l.state = .offline ∨ l.config.zoneCount ≤ p.val then 0
      else if l.state.regime = .tripped then c.tripAir
      else clampNat c.minAir c.maxAir c.fixedAir } := by
  have idle : l.idles p = true ↔ l.state = .offline ∨ l.config.zoneCount ≤ p.val := by
    rw [Lane.idles_iff, LaneState.regime_eq_offline_iff]
  unfold Zone.fresh
  by_cases stands : l.state = .offline ∨ l.config.zoneCount ≤ p.val
  · rw [if_pos (idle.2 stands), if_pos stands]
  · rw [if_neg (mt idle.1 stands), if_neg stands]
    cases l.state <;> rfl

theorem Lane.restart_eq (l : Lane) (state : LaneState)
    (starts : state = match l.state with
      | .tripped w => .tripped w
      | _ => if l.config.inService then .normal else .offline) :
    l.restart = { l with state := state, dwell := 0, pending := none, timer := if state = .offline then none else some (l.config.period * 10) } := by
  subst starts
  unfold Lane.restart
  cases l.state <;> rfl

namespace State

variable {s : State} {src : Addr}

/-- States that agree in every part are one state. -/
theorem eq_of_parts {t u : State} (same : ∀ p : Part, p.same t u) : t = u := by
  have all (p : Part) : p ∈ [Part.power, .ownAddress, .timeCount, .received, .passing, .silence, .silent, .traffic, .routes, .points, .plant, .lanes,
      .zones, .allocator, .blowers, .returns, .outputs, .supervision, .watches, .history, .management, .raised, .freeIndex, .pending] := by
    cases p <;> decide
  exact SameBut.eq_of (s := t) (fun p absent => absurd (all p) absent) (fun p absent => absurd (all p) absent) fun p _ => same p

theorem warmRestart_but (s : State) : s.SameBut [.traffic, .outputs, .routes, .points, .plant, .lanes, .zones, .allocator, .returns, .supervision,
    .watches, .history] s.warmRestart :=
  ((s.restartRingAndOutputs_but.mono (by simp)).trans ((restartBlocks_but _).mono (by simp +contextual))).trans ((capture_but _ _).mono (by simp))

theorem warmRestart_history (s : State) : s.warmRestart.history = s.history.capture s.timeCount .restart := by
  have history : s.restartRingAndOutputs.restartBlocks.history = s.history :=
    (restartBlocks_but _ .history (by decide)).trans (s.restartRingAndOutputs_but .history (by decide))
  have time : s.restartRingAndOutputs.restartBlocks.timeCount = s.timeCount :=
    (restartBlocks_but _ .timeCount (by decide)).trans (s.restartRingAndOutputs_but .timeCount (by decide))
  rw [← history, ← time]
  rfl

/-- The records of the blocks after a warm restart, each as its chapter gives it (R17, R34, R51, R78, R102, R125, R138, R153, R174). -/
theorem warmRestart_records (s : State) : s.warmRestart.ring = s.ring.restart ∧
    s.warmRestart.routes = s.routes.map (fun r => { r with hit := false }) ∧
    s.warmRestart.points = s.points.map (fun p => Point.fresh p.config) ∧
    s.warmRestart.plant = Plant.fresh s.plant.config ∧
    s.warmRestart.lanes = s.lanes.map Lane.restart ∧
    s.warmRestart.zones = Table.build (fun z => Zone.fresh ((s.lanes.map Lane.restart).get (laneOf z)) (placeOf z) (s.zones.get z).config) ∧
    s.warmRestart.allocator = s.allocator.restart ∧
    s.warmRestart.returns = s.returns.map (fun r => (ReturnLine.fresh r.config).startTimer) ∧
    s.warmRestart.outputs = Table.build (fun o => (s.outputs.get o).restart (s.ring.hasCommand o)) ∧
    s.warmRestart.supervision = Supervision.fresh ∧
    s.warmRestart.watches = s.watches.map s.restartWatch :=
  ⟨rfl, rfl, rfl, rfl, rfl, rfl, rfl, rfl, rfl, rfl, restart_watches s⟩

theorem exec_restart (serves : s.Serves src) (tag : Byte) : exec (.restart src tag) s = .next (reply src 5 tag s.hearing.performRestart.answered) :=
  congrArg Host.Outcome.next (requestArrives_of_serves serves 5 tag .restart)

end State

/-- Settles O52: the refusal, or every block's record and the reply behind them. -/
theorem restartTakesTheWarmState : Obligations.RestartTakesTheWarmState := by
  intro s src tag serves
  refine ⟨fun busy => ?_, fun free => ?_⟩
  · obtain ⟨c, inFlight⟩ := Option.isSome_iff_exists.1 busy
    have refuses : s.hearing.performRestart = (s.hearing, .busy) := by
      rw [State.performRestart, show s.hearing.management.commit = some c from inFlight]
    rw [State.exec_restart serves, refuses]
    exact congrArg Host.Outcome.next (State.reply_hearing serves ..)
  · intro lane ring
    have takes : s.hearing.performRestart = (s.hearing.warmRestart, .ok) := by
      rw [State.performRestart, show s.hearing.management.commit = none from free]
    have lanes : Lane.restart = lane := funext fun l => Lane.restart_eq l _ rfl
    have watches : s.restartWatch = fun w => if w.state.isFired then w else { w with
        state := if w.config.enable = false then .off
          else if (∀ j, w.config.stage = some j → (s.watches.get j).state.isFired = true) then .armed else .waiting
        count := w.config.persistence - 1, truth := false } := by
      funext w
      rw [State.restartWatch, State.rest_eq]
    obtain ⟨w, made⟩ : ∃ w, s.hearing.warmRestart = w := ⟨_, rfl⟩
    have but := State.warmRestart_but s.hearing
    have history := State.warmRestart_history s.hearing
    obtain ⟨interface, routes, points, plant, laneTable, zones, allocator, returns, outputs, supervision, watchTable⟩ :=
      State.warmRestart_records s.hearing
    rw [made] at but history interface routes points plant laneTable zones allocator returns outputs supervision watchTable
    have raised : w.raised = [] := (but .raised (by decide)).trans serves.raised
    have room : w.ring.transmit.length < 16 := by
      rw [interface]
      exact Nat.zero_lt_succ 15
    rw [State.exec_restart serves, takes, made]
    refine congrArg Host.Outcome.next ((State.reply_of_room raised room ..).trans (State.eq_of_parts fun p => ?_))
    have address : w.ownAddress = s.ownAddress := but .ownAddress (by decide)
    have joined : w.ring.join w.ownAddress { dst := src, body := .reply 5 tag .ok [] } = ring.join s.ownAddress { dst := src, body := .reply 5 tag .ok [] } := by
      rw [interface, address]
      rfl
    cases p with
    | received => exact congrArg Ring.received joined.symm
    | passing => exact ⟨congrArg Ring.passing joined.symm, congrArg Ring.inPassage joined.symm⟩
    | silence => exact congrArg Ring.silence joined.symm
    | silent => exact congrArg Ring.silent joined.symm
    | traffic =>
      exact ⟨congrArg Ring.forward joined.symm, congrArg Ring.transmit joined.symm, congrArg Ring.line joined.symm, congrArg Ring.runCount joined.symm,
        congrArg Ring.sequence joined.symm⟩
    | routes => exact routes.symm
    | points => exact points.symm
    | plant => exact plant.symm
    | lanes => exact (laneTable.trans (congrArg (fun f => s.lanes.map f) lanes)).symm
    | zones =>
      refine ((zones.trans (Table.ext_get fun z => ?_) : w.zones = _)).symm
      rw [Table.get_build, Table.get_build, Table.get_map, lanes, Zone.fresh_eq]
      rfl
    | allocator => exact allocator.symm
    | returns => exact returns.symm
    | outputs => exact outputs.symm
    | supervision => exact supervision.symm
    | watches => exact (watchTable.trans (congrArg (fun f => s.watches.map f) watches)).symm
    | history => exact history.symm
    | power => exact (but .power (by decide)).symm
    | ownAddress => exact address.symm
    | timeCount => exact (but .timeCount (by decide)).symm
    | blowers => exact (but .blowers (by decide)).symm
    | management => exact (but .management (by decide)).symm
    | raised => exact (but .raised (by decide)).symm
    | freeIndex => exact (but .freeIndex (by decide)).symm
    | pending => exact (but .pending (by decide)).symm

end Sys2Proof.Machine
end

section
/-! SET_REGIME and RESTORE_LANE: the checks, the table of R73, and the entries of OFFLINE and of control (R72 to R75). -/
namespace Sys2Proof.Machine

theorem Named.ofCode_of_lt {c : Byte} (beyond : 2 < c.toNat) : Named.ofCode c = none := by
  unfold Named.ofCode
  obtain ⟨n, code⟩ := Nat.exists_eq_add_of_le' beyond
  rw [code]
  rfl

theorem Named.ofCode_of_le {c : Byte} (listed : c.toNat ≤ 2) : ∃ n, Named.ofCode c = some n := by
  unfold Named.ofCode
  obtain code | code | code : c.toNat = 0 ∨ c.toNat = 1 ∨ c.toNat = 2 := by omega
  all_goals
    rw [code]
    exact ⟨_, rfl⟩

namespace State

variable {s : State} {src : Addr} {k : LaneIdx} {lane regime : Byte} {n : Named}

/-! ### The requests -/

theorem exec_setRegime (serves : s.Serves src) (tag lane regime : Byte) :
    exec (.setRegime src tag lane regime) s = .next (reply src 9 tag (s.hearing.setRegime lane regime).answered) :=
  congrArg Host.Outcome.next (requestArrives_of_serves serves 9 tag (.setRegime lane regime))

theorem exec_restoreLane (serves : s.Serves src) (tag lane : Byte) :
    exec (.restoreLane src tag lane) s = .next (reply src 10 tag (s.hearing.restoreLane lane).answered) :=
  congrArg Host.Outcome.next (requestArrives_of_serves serves 10 tag (.restoreLane lane))

theorem setRegime_of_named (index : lane.toNat = k.val) (named : Named.ofCode regime = some n) : s.setRegime lane regime = s.decideRegime k n := by
  rw [setRegime, atIndex_of_eq index, named]

/-! ### The table of R73, by the lane's regime -/

theorem decideRegime_of_tripped (tripped : (s.lanes.get k).state.regime = .tripped) (n : Named) : s.decideRegime k n = (s, .wrongRegime) := by
  unfold decideRegime
  cases state : (s.lanes.get k).state with
  | tripped w => rfl
  | offline | normal | economy _ | storm => simp [state, LaneState.regime] at tripped

theorem decideRegime_of_same (same : (n = .offline ∧ (s.lanes.get k).state.regime = .offline) ∨ (n = .normal ∧ (s.lanes.get k).state.regime = .normal) ∨
    (n = .economy ∧ (s.lanes.get k).state.regime = .economy)) : s.decideRegime k n = (s, .ok) := by
  unfold decideRegime
  obtain ⟨rfl, now⟩ | ⟨rfl, now⟩ | ⟨rfl, now⟩ := same
  · cases state : (s.lanes.get k).state with
    | offline => rfl
    | normal | economy _ | storm | tripped _ => simp [state, LaneState.regime] at now
  · cases state : (s.lanes.get k).state with
    | normal => rfl
    | offline | economy _ | storm | tripped _ => simp [state, LaneState.regime] at now
  · cases state : (s.lanes.get k).state with
    | economy _ => rfl
    | offline | normal | storm | tripped _ => simp [state, LaneState.regime] at now

theorem decideRegime_of_storm (storm : (s.lanes.get k).state.regime = .storm) (other : n ≠ .offline) : s.decideRegime k n = (s, .wrongRegime) := by
  unfold decideRegime
  cases state : (s.lanes.get k).state with
  | storm =>
    cases n with
    | offline => exact absurd rfl other
    | normal | economy => rfl
  | offline | normal | economy _ | tripped _ => simp [state, LaneState.regime] at storm

theorem decideRegime_of_closed (now : (s.lanes.get k).state.regime = .normal ∨ (s.lanes.get k).state.regime = .offline) (storm : s.plant.storm = true) :
    s.decideRegime k .economy = (s, .wrongRegime) := by
  unfold decideRegime
  cases state : (s.lanes.get k).state with
  | normal | offline => exact if_pos storm
  | economy _ | storm | tripped _ => simp [state, LaneState.regime] at now

theorem decideRegime_of_cycle (now : (s.lanes.get k).state.regime = .normal) (calm : s.plant.storm = false) :
    s.decideRegime k .economy = (s.changeRegime k (.economy (s.newCycle (s.lanes.get k).config)), .ok) := by
  unfold decideRegime
  cases state : (s.lanes.get k).state with
  | normal => exact if_neg (ne_true_of_eq_false calm)
  | offline | economy _ | storm | tripped _ => simp [state, LaneState.regime] at now

theorem decideRegime_of_wake (now : (s.lanes.get k).state.regime = .economy) : s.decideRegime k .normal = (s.wakeLane k, .ok) := by
  unfold decideRegime
  cases state : (s.lanes.get k).state with
  | economy _ => rfl
  | offline | normal | storm | tripped _ => simp [state, LaneState.regime] at now

theorem decideRegime_of_leave (now : (s.lanes.get k).state.regime = .offline) : s.decideRegime k .normal = (s.leaveOffline k .control, .ok) ∧
    (s.plant.storm = false → s.decideRegime k .economy = (s.leaveOffline k .economy, .ok)) := by
  unfold decideRegime
  cases state : (s.lanes.get k).state with
  | offline => exact ⟨rfl, fun calm => if_neg (ne_true_of_eq_false calm)⟩
  | normal | economy _ | storm | tripped _ => simp [state, LaneState.regime] at now

theorem decideRegime_of_enter (now : (s.lanes.get k).state.regime = .normal ∨ (s.lanes.get k).state.regime = .economy ∨
    (s.lanes.get k).state.regime = .storm) : s.decideRegime k .offline = (s.enterOffline k, .ok) := by
  unfold decideRegime
  cases state : (s.lanes.get k).state with
  | normal | economy _ | storm => rfl
  | offline | tripped _ => simp [state, LaneState.regime] at now

/-! ### OFFLINE and control -/

theorem working_iff (lane : (s.lanes.get k).state.regime ≠ .offline) (z : ZoneIdx) : (laneOf z = k ∧ s.isIdle z = false) ↔
    laneOf z = k ∧ (placeOf z).val < (s.lanes.get k).config.zoneCount := by
  refine and_congr_right fun mine => ?_
  rw [← Bool.not_eq_true, isIdle, laneOfZone, mine, Lane.idles_iff, not_or, Nat.not_le]
  exact and_iff_right lane

/-- A lane leaves OFFLINE for a regime (R75): its pending set, its initial zones and a full period. -/
theorem leaveOffline_eq {new : LaneState} (now : (s.lanes.get k).state.regime = .offline) (on : new.regime ≠ .offline) :
    let u := s.applyPending k
    let c := (u.lanes.get k).config
    ((u.changeRegime k new).initialZones k).startPeriod k =
      ((s.withLanes (s.lanes.set k { config := c, state := new, dwell := 0, timer := some (c.period * 10), pending := none })).withZones
        (Table.build fun z => if laneOf z = k ∧ (placeOf z).val < c.zoneCount then Zone.initial (u.zones.get z).config else u.zones.get z)).capture
        (.regime k .offline new.regime) := by
  intro u c
  have lanes : u.lanes = s.lanes.set k (s.lanes.get k).taken := applyPending_lanes k s
  have taken : u.lanes.get k = (s.lanes.get k).taken := by rw [lanes, Table.get_set_self]
  have regime : (u.lanes.get k).state.regime = .offline := by rw [taken, Lane.taken_state, now]
  have pending : (u.lanes.get k).pending = none := by
    rw [taken]
    cases p : (s.lanes.get k).pending with
    | none => rw [Lane.taken_of_none p, p]
    | some p => rw [Lane.taken_of_some (by assumption)]
  obtain ⟨v, changed⟩ : ∃ v, u.changeRegime k new = v := ⟨_, rfl⟩
  have eq : v = (u.withLanes (u.lanes.set k { u.lanes.get k with state := new, dwell := 0 })).capture (.regime k .offline new.regime) := by
    rw [← changed, changeRegime_of_no_cycle (by rw [regime]; nofun), regime]
  have record : v.lanes.get k = { u.lanes.get k with state := new, dwell := 0 } := by
    rw [eq]
    exact Table.get_set_self ..
  have zones : v.zones = u.zones := by rw [eq]; rfl
  have begun : (v.initialZones k).startPeriod k = (v.withZones (Table.build fun z =>
      if laneOf z = k ∧ (placeOf z).val < c.zoneCount then Zone.initial (u.zones.get z).config else u.zones.get z)).withLanes
      (v.lanes.set k { v.lanes.get k with timer := some ((v.lanes.get k).config.period * 10) }) := by
    rw [initialZones, eachWorking_eq, zones]
    refine congrArg (fun zs => (v.withZones zs).startPeriod k) (congrArg Table.build (funext fun z => ?_))
    have working := working_iff (s := v) (k := k) (by rw [record]; exact on) z
    rw [record] at working
    exact if_congr working rfl rfl
  have lane : { { u.lanes.get k with state := new, dwell := 0 } with timer := some (c.period * 10) } =
      ({ config := c, state := new, dwell := 0, timer := some (c.period * 10), pending := none } : Lane) := by rw [← pending]
  have but : s.SameBut [.lanes, .zones] u := applyPending_but k s
  have stays : s.SameBut [.lanes, .zones, .history] v := by
    rw [← changed, changeRegime_of_no_cycle (by rw [regime]; nofun)]
    exact (but.mono (by simp)).trans (((withLanes_but _ _).mono (by simp)).trans ((capture_but _ _).mono (by simp)))
  rw [changed, begun, record, lane]
  refine SameBut.eq_of (c := [.lanes, .zones, .history]) (s := s)
    (stays.trans (((State.withZones_but _ _).mono (by simp)).trans ((withLanes_but _ _).mono (by simp))))
    (((withLanes_but _ _).mono (by simp)).trans (((State.withZones_but _ _).mono (by simp)).trans ((capture_but _ _).mono (by simp)))) ?_
  intro p mem
  simp only [List.mem_cons, List.not_mem_nil, or_false] at mem
  obtain rfl | rfl | rfl := mem
  · change s.lanes.set k _ = v.lanes.set k _
    have written : v.lanes = u.lanes.set k { u.lanes.get k with state := new, dwell := 0 } := by rw [eq]; rfl
    rw [written, lanes, Table.set_set, Table.set_set]
  · rfl
  · change s.history.capture s.timeCount _ = v.history
    have history : v.history = u.history.capture u.timeCount (.regime k .offline new.regime) := by rw [eq]; rfl
    rw [history, but .history (by decide), but .timeCount (by decide)]

/-- The state of a lane's entry of OFFLINE before its valve outputs take it (R74). -/
def enteredOffline (s : State) (k : LaneIdx) : State :=
  ((s.withLanes (s.lanes.set k { s.lanes.get k with state := .offline, dwell := 0, timer := none })).withZones (Table.build fun z =>
    if laneOf z = k then { s.zones.get z with demand := 0, offDemand := false } else s.zones.get z)).capture (.regime k (s.lanes.get k).state.regime .offline)

theorem enteredOffline_but (k : LaneIdx) (s : State) : s.SameBut [.lanes, .zones, .history] (s.enteredOffline k) :=
  ((withLanes_but _ _).mono (by simp)).trans (((State.withZones_but _ _).mono (by simp)).trans ((capture_but _ _).mono (by simp)))

theorem enteredOffline_lanes (k : LaneIdx) (s : State) :
    (s.enteredOffline k).lanes = s.lanes.set k { s.lanes.get k with state := .offline, dwell := 0, timer := none } := rfl

theorem enteredOffline_history (k : LaneIdx) (s : State) :
    (s.enteredOffline k).history = s.history.capture s.timeCount (.regime k (s.lanes.get k).state.regime .offline) := rfl

theorem enteredOffline_zone (k : LaneIdx) (s : State) (z : ZoneIdx) :
    (s.enteredOffline k).zones.get z = if laneOf z = k then { s.zones.get z with demand := 0, offDemand := false } else s.zones.get z :=
  Table.get_build ..

/-- Whatever the end of a cycle asks for, a zone of the lane asks for nothing in OFFLINE (R74, R101). -/
theorem enterOffline_eq (k : LaneIdx) (s : State) : s.enterOffline k = (s.enteredOffline k).offlineOutputs k := by
  have begun : ((s.changeRegime k .offline).setLane k { (s.changeRegime k .offline).lanes.get k with timer := none }).offlineZones k =
      s.enteredOffline k := by
    have changed := changeRegime_eq k .offline s
    obtain ⟨v, named⟩ : ∃ v, s.changeRegime k .offline = v := ⟨_, rfl⟩
    have zone (z : ZoneIdx) : v.zones.get z = s.regimeLeft k z := by
      rw [← named]
      exact changeRegime_zone ..
    have but : s.SameBut [.lanes, .zones, .history] v := by
      rw [← named, changed]
      exact ((State.withZones_but _ _).mono (by simp)).trans (((withLanes_but _ _).mono (by simp)).trans ((capture_but _ _).mono (by simp)))
    have history : v.history = s.history.capture s.timeCount (.regime k (s.lanes.get k).state.regime .offline) := by
      rw [← named, changed]
      rfl
    have lanes := offline_lanes k s
    rw [named] at lanes ⊢
    refine SameBut.eq_of (c := [.lanes, .zones, .history]) (s := s)
      (but.trans (((setLane_but _ _ _).mono (by simp)).trans ((offlineZones_but k _).mono (by simp))))
      (((withLanes_but _ _).mono (by simp)).trans (((State.withZones_but _ _).mono (by simp)).trans ((capture_but _ _).mono (by simp)))) ?_
    intro p mem
    simp only [List.mem_cons, List.not_mem_nil, or_false] at mem
    obtain rfl | rfl | rfl := mem
    · exact lanes.symm
    · refine Table.ext_get fun z => ?_
      rw [offlineZones_zones]
      change (Table.build _).get z = if laneOf z = k then (v.zones.get z).withDemand 0 else v.zones.get z
      rw [Table.get_build, zone]
      by_cases mine : laneOf z = k
      · rw [if_pos mine, if_pos mine, regimeLeft, cycleEnded]
        split
        · split <;> rfl
        · rfl
      · have left : s.cycleEnded k z = s.zones.get z := if_neg fun ended => mine ended.1
        rw [if_neg mine, if_neg mine, regimeLeft, left, ite_self]
    · exact (((offlineZones_but k _) .history (by decide)).trans history).symm
  unfold enterOffline
  dsimp only
  rw [begun]

theorem offlineOutputs_eq (k : LaneIdx) (s : State) : s.offlineOutputs k =
    (s.valvesOf k).foldl (fun u o => u.forcedOffer o (s.outputs.get o).config.low) s := by
  have all (l : List OutputIdx) (u : State) (config : ∀ o, (u.outputs.get o).config = (s.outputs.get o).config) :
      u.each l (fun o v => v.forcedOffer o (v.outputs.get o).config.low) = l.foldl (fun u o => u.forcedOffer o (s.outputs.get o).config.low) u := by
    induction l generalizing u with
    | nil => rfl
    | cons o l ih =>
      rw [each_cons, List.foldl_cons, config o]
      exact ih _ fun p => (forcedOffer_keeps o _ u p).1.trans (config p)
  exact all _ s fun _ => rfl

/-- A forced offer at an unused or a SUPERVISED output leaves it; at a used AUTO output it leaves the value (R151, R152). -/
theorem forcedOffer_self (o : OutputIdx) (v : Int) (s : State) :
    (¬((s.outputs.get o).config.destination ≠ 0 ∧ (s.outputs.get o).state = .auto) → (s.forcedOffer o v).outputs.get o = s.outputs.get o) ∧
    ((s.outputs.get o).config.destination ≠ 0 ∧ (s.outputs.get o).state = .auto →
      ((s.forcedOffer o v).outputs.get o).last = some ((s.outputs.get o).config.limit v) ∧
      ((s.forcedOffer o v).outputs.get o).config = (s.outputs.get o).config ∧ ((s.forcedOffer o v).outputs.get o).state = .auto) := by
  obtain ⟨config, state⟩ := forcedOffer_keeps o v s o
  refine ⟨fun ignored => ?_, fun ⟨used, auto⟩ => ⟨forcedOffer_last used auto v, config, state.trans auto⟩⟩
  rw [forcedOffer_of_ignored]
  by_cases unused : (s.outputs.get o).config.destination = 0
  · exact .inl unused
  · refine .inr ?_
    cases held : (s.outputs.get o).state with
    | supervised => rfl
    | auto => exact absurd ⟨unused, held⟩ ignored

theorem forcedOffers_list (v : OutputIdx → Int) (l : List OutputIdx) (distinct : l.Nodup) (s : State) (o : OutputIdx) :
    let t := l.foldl (fun u o => u.forcedOffer o (v o)) s
    let gives := o ∈ l ∧ (s.outputs.get o).config.destination ≠ 0 ∧ (s.outputs.get o).state = .auto
    (¬gives → t.outputs.get o = s.outputs.get o) ∧
    (gives → (t.outputs.get o).last = some ((s.outputs.get o).config.limit (v o)) ∧
      (t.outputs.get o).config = (s.outputs.get o).config ∧ (t.outputs.get o).state = .auto) := by
  induction l generalizing s with
  | nil => exact ⟨fun _ => rfl, fun gives => absurd gives.1 List.not_mem_nil⟩
  | cons p l ih =>
    obtain ⟨fresh, distinct⟩ := List.nodup_cons.1 distinct
    obtain ⟨out, within⟩ := ih distinct (s.forcedOffer p (v p))
    rw [List.foldl_cons]
    by_cases same : o = p
    · subst same
      obtain ⟨ignored, given⟩ := forcedOffer_self o (v o) s
      have later := out fun gives => fresh gives.1
      refine ⟨fun not => later.trans (ignored fun gives => not ⟨List.mem_cons_self, gives⟩), fun gives => ?_⟩
      rw [later]
      exact given gives.2
    · have kept := forcedOffer_other (o := p) same (v p) s
      have mem : o ∈ p :: l ↔ o ∈ l := by simp [same]
      rw [kept] at out within
      intro t gives
      exact ⟨fun not => out fun gives => not ⟨mem.2 gives.1, gives.2⟩, fun gives => within ⟨mem.1 gives.1, gives.2⟩⟩

/-- What each output takes at its lane's entry of OFFLINE (R74): the used AUTO valve outputs their low limit, the others nothing. -/
theorem offlineOutputs_output (k : LaneIdx) (s : State) (o : OutputIdx) :
    let out := s.outputs.get o
    let gives := out.config.kind = .zoneValve ∧ laneOf out.config.owner = k ∧ out.config.destination ≠ 0 ∧ out.state = .auto
    (¬gives → (s.offlineOutputs k).outputs.get o = out) ∧
    (gives → ((s.offlineOutputs k).outputs.get o).last = some (clampInt out.config.low out.config.high out.config.low) ∧
      ((s.offlineOutputs k).outputs.get o).config = out.config ∧ ((s.offlineOutputs k).outputs.get o).state = .auto) := by
  intro out gives
  have takes : (o ∈ s.valvesOf k ∧ out.config.destination ≠ 0 ∧ out.state = .auto) ↔ gives := by
    rw [mem_valvesOf, and_assoc]
  have distinct : (s.valvesOf k).Nodup := (indices_nodup 64).filter _
  obtain ⟨ignored, taken⟩ := forcedOffers_list (fun o => (s.outputs.get o).config.low) _ distinct s o
  rw [offlineOutputs_eq]
  exact ⟨fun not => ignored fun t => not (takes.1 t), fun g => taken (takes.2 g)⟩

theorem offlineOutputs_waits (k : LaneIdx) (h : s.ConditionsWait) : (s.offlineOutputs k).ConditionsWait :=
  each_induction (P := ConditionsWait) _ (fun o _ _ h => h.forcedOffer o _) h

/-- In a calm part a reply touches the queue alone, whatever conditions wait behind the request's effects. -/
theorem reply_of_calm {u t : State} (calm : u.Calm) {c : List Part} (but : u.SameBut c t) (apart : Part.watches ∉ c) (conditions : t.ConditionsWait)
    (code tag : Byte) (result : Result) (data : List Byte) : t.SameBut [.traffic, .raised] (reply src code tag (t, some (result, data))) := by
  have taken : t.drain = t.withRaised [] := calm.drain_of_but but apart conditions
  have sent := (t.withRaised []).send_but src (.reply code tag result data)
  have waits : ((t.withRaised []).send src (.reply code tag result data)).ConditionsWait := (ConditionsWait.of_none rfl).enqueue _
  have both : u.SameBut (.raised :: .traffic :: c) ((t.withRaised []).send src (.reply code tag result data)) :=
    (but.mono (by simp +contextual)).trans (((t.withRaised_but []).mono (by simp)).trans (sent.mono (by simp)))
  have end_ := calm.drain_of_but both (by simp [apart]) waits
  unfold reply
  dsimp only
  rw [taken, end_]
  exact ((t.withRaised_but []).mono (by simp)).trans ((sent.mono (by simp)).trans ((withRaised_but _ []).mono (by simp)))

/-! ### RESTORE_LANE (R72) -/

theorem restoreLane_of_working (index : lane.toNat = k.val) (now : (s.lanes.get k).state.regime ≠ .tripped) : s.restoreLane lane = (s, .notTripped) := by
  rw [restoreLane, atIndex_of_eq index]
  cases state : (s.lanes.get k).state with
  | tripped w => simp [state, LaneState.regime] at now
  | offline | normal | economy _ | storm => rfl

theorem restoreLane_of_tripped {w : WatchIdx} (index : lane.toNat = k.val) (tripped : (s.lanes.get k).state = .tripped w) :
    s.restoreLane lane = if (s.watches.get w).state.isFired = true then (s, .conditionPresent) else (s.restoreFrom k w, .ok) := by
  rw [restoreLane, atIndex_of_eq index, tripped]
  rfl

/-- A restored lane resumes control, and its zones re-seed (R72, R100). -/
theorem restoreFrom_eq {w : WatchIdx} (tripped : (s.lanes.get k).state = .tripped w) : s.restoreFrom k w =
    (((s.capture (.restore k w)).withLanes (s.lanes.set k { s.lanes.get k with state := s.controlState, dwell := 0 })).capture
      (.regime k .tripped s.controlState.regime)).withZones (Table.build fun z =>
        if laneOf z = k ∧ (placeOf z).val < (s.lanes.get k).config.zoneCount then { s.zones.get z with reseed := true } else s.zones.get z) := by
  have now : ((s.capture (.restore k w)).lanes.get k).state.regime = .tripped := by
    change (s.lanes.get k).state.regime = .tripped
    rw [tripped]
    rfl
  have changed := changeRegime_of_no_cycle (s := s.capture (.restore k w)) (k := k) (by rw [now]; nofun) s.controlState
  rw [now] at changed
  obtain ⟨v, named⟩ : ∃ v, (s.capture (.restore k w)).changeRegime k s.controlState = v := ⟨_, rfl⟩
  rw [named] at changed
  have record : v.lanes.get k = { s.lanes.get k with state := s.controlState, dwell := 0 } := by
    rw [changed]
    exact Table.get_set_self ..
  have on : (v.lanes.get k).state.regime ≠ .offline := by
    rw [record]
    exact ((isWorking_iff _).1 (controlState_isWorking s)).1
  have zones : v.zones = s.zones := by rw [changed]; rfl
  have seeded : v.restoreZones k = v.withZones (Table.build fun z =>
      if laneOf z = k ∧ (placeOf z).val < (s.lanes.get k).config.zoneCount then { s.zones.get z with reseed := true } else s.zones.get z) := by
    rw [restoreZones, eachWorking_eq, zones]
    refine congrArg v.withZones (congrArg Table.build (funext fun z => ?_))
    have working := working_iff on z
    rw [record] at working
    exact if_congr working rfl rfl
  unfold restoreFrom
  dsimp only
  have same : (s.capture (.restore k w)).controlState = s.controlState := rfl
  rw [same, named, seeded, changed]
  rfl

/-! ### Answers -/

theorem setRegime_answered (serves : s.Serves src) (tag : Byte) {u : State} {r : Result} (decides : s.hearing.setRegime lane regime = (u, r)) :
    exec (.setRegime src tag lane regime) s = .next (reply src 9 tag (u, some (r, []))) := by
  rw [exec_setRegime serves, decides]
  rfl

theorem restoreLane_answered (serves : s.Serves src) (tag : Byte) {u : State} {r : Result} (decides : s.hearing.restoreLane lane = (u, r)) :
    exec (.restoreLane src tag lane) s = .next (reply src 10 tag (u, some (r, []))) := by
  rw [exec_restoreLane serves, decides]
  rfl

theorem setRegime_refused (serves : s.Serves src) (tag : Byte) {r : Result} (decides : s.hearing.setRegime lane regime = (s.hearing, r)) :
    exec (.setRegime src tag lane regime) s = .next (s.replied src 9 tag r []) :=
  (setRegime_answered serves tag decides).trans (congrArg Host.Outcome.next (reply_hearing serves ..))

theorem applyPending_hearing (k : LaneIdx) (s : State) : (s.hearing.applyPending k).lanes = (s.applyPending k).lanes ∧
    (s.hearing.applyPending k).zones = (s.applyPending k).zones := by
  refine ⟨(applyPending_lanes k s.hearing).trans (applyPending_lanes k s).symm, Table.ext_get fun z => ?_⟩
  cases pending : (s.lanes.get k).pending with
  | none => rw [applyPending_of_none pending, applyPending_of_none (s := s.hearing) pending]; rfl
  | some p => rw [applyPending_zones pending, applyPending_zones (s := s.hearing) pending]; rfl

theorem leaveOffline_answered (serves : s.Serves src) (tag : Byte) {new : LaneState} (now : (s.lanes.get k).state.regime = .offline)
    (on : new.regime ≠ .offline) (decides : s.hearing.setRegime lane regime =
      ((((s.hearing.applyPending k).changeRegime k new).initialZones k).startPeriod k, .ok)) :
    let u := s.applyPending k
    let c := (u.lanes.get k).config
    exec (.setRegime src tag lane regime) s = .next
      ((((s.replied src 9 tag .ok []).withLanes
        (s.lanes.set k { config := c, state := new, dwell := 0, timer := some (c.period * 10), pending := none })).withZones
        (Table.build fun z => if laneOf z = k ∧ (placeOf z).val < c.zoneCount then Zone.initial (u.zones.get z).config else u.zones.get z)).capture
        (.regime k .offline new.regime)) := by
  intro u c
  obtain ⟨lanes, zones⟩ := applyPending_hearing k s
  have left := leaveOffline_eq (s := s.hearing) now on
  dsimp only at left
  rw [lanes, zones] at left
  rw [left] at decides
  refine (setRegime_answered serves tag decides).trans (congrArg Host.Outcome.next ?_)
  exact reply_of_room (s := ((s.hearing.withLanes _).withZones _).capture _) serves.raised serves.room ..

theorem newCycle_of_points {t : State} (points : t.points = s.points) (c : LaneConfig) : t.newCycle c = s.newCycle c := by
  rw [newCycle, newCycle, usable, usable, points]

/-- Behind an entry of OFFLINE, its offers and its reply stand what the entry left and what the forced offers give (R74, R151). -/
theorem enterOffline_answered (serves : s.Serves src) (calm : s.Calm) (tag : Byte)
    (decides : s.hearing.setRegime lane regime = (s.hearing.enterOffline k, .ok)) :
    ∃ t, exec (.setRegime src tag lane regime) s = .next t ∧ (s.hearing.enteredOffline k).SameBut offerParts t ∧
      t.outputs = ((s.hearing.enteredOffline k).offlineOutputs k).outputs := by
  have listens : s.hearing.Calm := ⟨calm.raised, calm.points⟩
  have entered := enteredOffline_but k s.hearing
  obtain ⟨w, named⟩ : ∃ w, s.hearing.enteredOffline k = w := ⟨_, rfl⟩
  have raised : w.raised = [] := named ▸ calm.raised
  rw [named] at entered ⊢
  have outputs : w.SameBut offerParts (w.offlineOutputs k) := offlineOutputs_but k w
  have both : s.hearing.SameBut ([.lanes, .zones, .history] ++ offerParts) (w.offlineOutputs k) :=
    (entered.mono (by simp +contextual)).trans (outputs.mono (by simp +contextual))
  have replied := reply_of_calm (src := src) listens both (by decide) (offlineOutputs_waits k (.of_none raised)) 9 tag .ok []
  rw [enterOffline_eq, named] at decides
  exact ⟨_, setRegime_answered serves tag decides, outputs.trans (replied.mono (by simp)), replied .outputs (by decide)⟩

end State

/-- Settles O53: the refusals, the table's cells, and the entries of OFFLINE and of control. -/
theorem regimeRequestsFollowTheTable : Obligations.RegimeRequestsFollowTheTable := by
  intro s src tag lane regime serves set restore
  refine ⟨fun outside => ⟨?_, ?_⟩, fun k index => ?_⟩
  · exact (State.exec_setRegime serves tag lane regime).trans (congrArg Host.Outcome.next (State.reply_of_le (n := 8) serves outside ..))
  · exact (State.exec_restoreLane serves tag lane).trans (congrArg Host.Outcome.next (State.reply_of_le (n := 8) serves outside ..))
  intro l now follow
  have named {n : Named} (code : Named.ofCode regime = some n) : s.hearing.setRegime lane regime = s.hearing.decideRegime k n :=
    State.setRegime_of_named index code
  refine ⟨fun beyond => ?_, fun listed tripped => ?_, fun same => ?_, fun control storm => ?_, fun economy where_ storm => ?_,
    fun economy normal calm => ?_, fun control economy => ?_, fun offline leaves => ?_, fun zero working calm => ?_, fun zero working => ?_,
    fun working => ?_, fun w tripped => ⟨fun fired => ?_, fun unfired => ?_⟩⟩
  · refine State.setRegime_refused serves tag ?_
    rw [State.setRegime, State.atIndex_of_eq index, Named.ofCode_of_lt beyond]
  · obtain ⟨n, code⟩ := Named.ofCode_of_le listed
    exact State.setRegime_refused serves tag ((named code).trans (State.decideRegime_of_tripped (s := s.hearing) tripped n))
  · obtain ⟨rfl, at_⟩ | ⟨rfl, at_⟩ | ⟨rfl, at_⟩ := same
    · exact State.setRegime_refused serves tag ((named rfl).trans (State.decideRegime_of_same (s := s.hearing) (.inl ⟨rfl, at_⟩)))
    · exact State.setRegime_refused serves tag ((named rfl).trans (State.decideRegime_of_same (s := s.hearing) (.inr (.inl ⟨rfl, at_⟩))))
    · exact State.setRegime_refused serves tag ((named rfl).trans (State.decideRegime_of_same (s := s.hearing) (.inr (.inr ⟨rfl, at_⟩))))
  · obtain rfl | rfl := control
    · exact State.setRegime_refused serves tag ((named rfl).trans (State.decideRegime_of_storm (s := s.hearing) storm nofun))
    · exact State.setRegime_refused serves tag ((named rfl).trans (State.decideRegime_of_storm (s := s.hearing) storm nofun))
  · subst economy
    exact State.setRegime_refused serves tag ((named rfl).trans (State.decideRegime_of_closed (s := s.hearing) where_ storm))
  · subst economy
    have decides := (named rfl).trans (State.decideRegime_of_cycle (s := s.hearing) normal calm)
    have at_ : (s.hearing.lanes.get k).state.regime = .normal := normal
    rw [State.changeRegime_of_no_cycle (by rw [at_]; nofun), at_] at decides
    refine (State.setRegime_answered serves tag decides).trans (congrArg Host.Outcome.next ?_)
    exact State.reply_of_room (s := (s.hearing.withLanes _).capture _) serves.raised serves.room ..
  · subst control
    exact State.setRegime_answered serves tag ((named rfl).trans (State.decideRegime_of_wake (s := s.hearing) economy))
  · have at_ : (s.hearing.lanes.get k).state.regime = .offline := offline
    have control : (s.hearing.applyPending k).controlState = follow :=
      congrArg (fun p : Plant => if p.storm then LaneState.storm else .normal) (State.applyPending_but k s.hearing .plant (by decide))
    obtain rfl | ⟨rfl, calm⟩ := leaves
    · have decides := (named rfl).trans (State.decideRegime_of_leave at_).1
      have on : follow.regime ≠ .offline := ((State.isWorking_iff _).1 (State.controlState_isWorking s)).1
      rw [State.leaveOffline, control] at decides
      exact State.leaveOffline_answered serves tag offline on decides
    · have decides := (named rfl).trans ((State.decideRegime_of_leave at_).2 calm)
      rw [State.leaveOffline, State.newCycle_of_points (State.applyPending_but k s.hearing .points (by decide)),
        (State.applyPending_hearing k s).1] at decides
      exact State.leaveOffline_answered serves tag offline nofun decides
  · subst zero
    have decides := (named rfl).trans (State.decideRegime_of_enter (s := s.hearing) working)
    obtain ⟨t, outcome, but, given⟩ := State.enterOffline_answered serves calm tag decides
    have entered := State.enteredOffline_but k s.hearing
    have lanes := State.enteredOffline_lanes k s.hearing
    have history := State.enteredOffline_history k s.hearing
    have zone := State.enteredOffline_zone k s.hearing
    obtain ⟨w, named⟩ : ∃ w, s.hearing.enteredOffline k = w := ⟨_, rfl⟩
    rw [named] at but given entered lanes history zone
    have zones : t.zones = w.zones := but .zones (by decide)
    have outputs : w.outputs = s.outputs := entered .outputs (by decide)
    refine ⟨t, outcome, (but .lanes (by decide)).trans lanes, (but .history (by decide)).trans history, fun z => ?_, fun o => ?_,
      (but .plant (by decide)).trans (entered .plant (by decide)), (but .points (by decide)).trans (entered .points (by decide)),
      (but .returns (by decide)).trans (entered .returns (by decide)), (but .management (by decide)).trans (entered .management (by decide))⟩
    · rw [zones]
      exact zone z
    · rw [given, ← outputs]
      exact State.offlineOutputs_output k w o
  · subst zero
    intro entered valves
    refine State.setRegime_answered serves tag ((named rfl).trans ((State.decideRegime_of_enter (s := s.hearing) working).trans ?_))
    rw [State.enterOffline_eq, State.offlineOutputs_eq, State.valvesOf_eq]
    rfl
  · refine State.restoreLane_answered serves tag (State.restoreLane_of_working (s := s.hearing) index working) |>.trans ?_
    exact congrArg Host.Outcome.next (State.reply_hearing serves ..)
  · have held : (s.hearing.watches.get w).state.isFired = true := fired
    have refuses := (State.restoreLane_of_tripped (s := s.hearing) index tripped).trans (if_pos held)
    exact (State.restoreLane_answered serves tag refuses).trans (congrArg Host.Outcome.next (State.reply_hearing serves ..))
  · have gone : ¬(s.hearing.watches.get w).state.isFired = true := ne_true_of_eq_false unfired
    have restores := (State.restoreLane_of_tripped (s := s.hearing) index tripped).trans (if_neg gone)
    rw [State.restoreFrom_eq (s := s.hearing) tripped] at restores
    refine (State.restoreLane_answered serves tag restores).trans (congrArg Host.Outcome.next ?_)
    exact State.reply_of_room (s := (((s.hearing.capture _).withLanes _).capture _).withZones _) serves.raised serves.room ..

end Sys2Proof.Machine
end
